-- ==== Sys2Proof/Word.lean ====
section
/-! DEFINITION. The word types of the RVX-2W engine and their plainest arithmetic. -/

namespace Sys2Proof

/-- A register or instruction word (R29, R43). -/
abbrev Word := BitVec 64
abbrev Byte := BitVec 8
/-- The mesh transfer unit, 256 bits (Table 00.3). -/
abbrev Flit := BitVec 256
/-- The slice access unit, 512 bytes, byte 0 least significant (Table 00.3, R7). -/
abbrev Row := BitVec 4096

/-- Bits `lo + w - 1 : lo` of `v`. -/
def bits (v lo w : Nat) : Nat := v / 2 ^ lo % 2 ^ w

/-- Bit `i` of `v`. -/
def bit (v i : Nat) : Bool := v / 2 ^ i % 2 == 1

/-- Division rounded up. -/
def ceilDiv (a b : Nat) : Nat := (a + (b - 1)) / b

/-- Addition that stays at `top`. -/
def satAdd (top a b : Nat) : Nat := min top (a + b)

/-- The truth value as a bit. -/
def b2n (b : Bool) : Nat := if b then 1 else 0

end Sys2Proof
end

