-- ==== Sys2Proof/Syntax.lean ====
section
/-! DEFINITION. The commands: one constructor per row of spec/opcode_table.json, with its operands.
Coordinates are typed by their ranges (R8, R21), so every command names places that exist. -/

namespace Sys2Proof

/-- A logical tile (R19, R21). -/
structure TileId where
  w : Fin 2
  x : Fin 1152
  y : Fin 672
  deriving DecidableEq, Repr

/-- A logical cluster (R21). -/
structure ClusterId where
  w : Fin 2
  cx : Fin 288
  cy : Fin 168
  deriving DecidableEq, Repr

/-- An engine field number 84*W + F (R21). -/
abbrev FieldId := Fin 168

/-- A physical cluster inside a field (R22). -/
structure PhysId where
  pcx : Fin 25
  pcy : Fin 25
  deriving DecidableEq, Repr

/-- A Driftline frame, after the physical layer (Tables 11.2 and 11.3): destination and source address, the control information
of an IEEE 802.1Q tag, EtherType, whether a SecTAG protects it and for which association, then header and payload.
`crcOk` and `icvOk` are the outcomes of the CRC-32C and of the MACsec check over the bytes received, and `zerosOk`
says that every zero field is zero. -/
structure Frame where
  dest : BitVec 48 := 0
  mac : BitVec 48 := 0
  vlan : Option (BitVec 16) := none
  etype : BitVec 16 := 0
  sec : Bool := false
  an : BitVec 2 := 0
  crcOk : Bool := true
  icvOk : Bool := true
  zerosOk : Bool := true
  ver : BitVec 4 := 1
  op : BitVec 4 := 0
  isEnd : Bool := false
  retx : Bool := false
  srcId : BitVec 16 := 0
  dstId : BitVec 16 := 0
  chan : Fin 1024 := 0
  epoch : BitVec 16 := 0
  poison : BitVec 16 := 0
  tag : Fin 8192 := 0
  seq : BitVec 32 := 0
  operand : BitVec 64 := 0
  rows : List Row := []
  mgmt : List Byte := []
  deriving DecidableEq, Repr

/-- What a phase of a cold start finds out (Table 14.6): in phase 5 the clusters of row 24 that fail the self-test made in
the map build (R23), in phase 7 the stacks that fail (R256). -/
structure PhaseReport where
  row24 : List (FieldId × Fin 25) := []
  failedStacks : BitVec 32 := 0
  deriving DecidableEq, Repr

/-- What one 10 us interval of the power controller measures (R304, R313): draws in W (input, the two wings, the
estimated unthrottled draw of each class, and of each wing's compute class), the input voltage in mV, and the energies in microjoules that
PWR.ENERGY(0..5) gain. -/
structure PowerSample where
  drawW : Nat
  wingAW : Nat
  wingBW : Nat
  compW : Nat
  compAW : Nat
  compBW : Nat
  memW : Nat
  linkW : Nat
  vinMv : Nat
  ujInput : Nat
  ujComp : Nat
  ujMem : Nat
  ujLink : Nat
  ujFloor : Nat
  ujHold : Nat
  deriving DecidableEq, Repr

/-- The readings of one thermal sample (R319), in hundredths of a degree and tenths of L/min: the reading of
each field named, the others as before. -/
structure ThermalReading where
  inlet : Nat
  outlet : Nat
  flow : Nat
  fields : List (FieldId × Nat)
  deriving DecidableEq, Repr

/-- A command that reads accumulators of tile `tile`: `badLanes` are the (entry, lane) pairs whose stored word fails its parity
when it is read for a drain (R79). -/
structure LaneRead where
  tile : TileId
  badLanes : List (Fin 128 × Fin 32) := []
  deriving DecidableEq, Repr

/-- A row of a load that reaches a tile (R208): `corr` and `uncorr` codewords of the granule it begins in had correctable errors
and worse as it was read (R254). -/
structure RowArrival where
  row : Fin 512
  corr : Nat := 0
  uncorr : Nat := 0
  deriving DecidableEq, Repr

/-- A dummy vector of the load floor in tile `tile`; `fault`: the array errs on it (R87). -/
structure FloorRun where
  tile : TileId
  fault : Bool := false
  deriving DecidableEq, Repr

/-- The commands of the engine. -/
inductive Instr where
  /-- ADD (R44). -/
  | add (t : TileId) (n : Fin 8)
  /-- SUB (R44). -/
  | sub (t : TileId) (n : Fin 8)
  /-- AND (R44). -/
  | and (t : TileId) (n : Fin 8)
  /-- OR (R44). -/
  | or (t : TileId) (n : Fin 8)
  /-- XOR (R44). -/
  | xor (t : TileId) (n : Fin 8)
  /-- SHL (R44). -/
  | shl (t : TileId) (n : Fin 8)
  /-- SHR (R44). -/
  | shr (t : TileId) (n : Fin 8)
  /-- SRA (R44). -/
  | sra (t : TileId) (n : Fin 8)
  /-- MUL (R44). -/
  | mul (t : TileId) (n : Fin 8)
  /-- MULHU (R44). -/
  | mulhu (t : TileId) (n : Fin 8)
  /-- MUL_RESULT_READY (R44). -/
  | mulResultReady (t : TileId) (n : Fin 8)
  /-- MIN (R44). -/
  | min (t : TileId) (n : Fin 8)
  /-- MAX (R44). -/
  | max (t : TileId) (n : Fin 8)
  /-- MINU (R44). -/
  | minu (t : TileId) (n : Fin 8)
  /-- MAXU (R44). -/
  | maxu (t : TileId) (n : Fin 8)
  /-- CMPEQ (R44). -/
  | cmpeq (t : TileId) (n : Fin 8)
  /-- CMPLT (R44). -/
  | cmplt (t : TileId) (n : Fin 8)
  /-- CMPLTU (R44). -/
  | cmpltu (t : TileId) (n : Fin 8)
  /-- MOVHI (R44). -/
  | movhi (t : TileId) (n : Fin 8)
  /-- POPC (R44). -/
  | popc (t : TileId) (n : Fin 8)
  /-- CLZ (R44). -/
  | clz (t : TileId) (n : Fin 8)
  /-- QPOP (R45). -/
  | qpop (t : TileId) (n : Fin 8)
  /-- QPEEK (R45). -/
  | qpeek (t : TileId) (n : Fin 8)
  /-- QHDR (R45). -/
  | qhdr (t : TileId) (n : Fin 8)
  /-- QDROP (R45). -/
  | qdrop (t : TileId) (n : Fin 8)
  /-- BR (R46). -/
  | br (t : TileId) (n : Fin 8)
  /-- BEQZ (R46). -/
  | beqz (t : TileId) (n : Fin 8)
  /-- BNEZ (R46). -/
  | bnez (t : TileId) (n : Fin 8)
  /-- BLTZ (R46). -/
  | bltz (t : TileId) (n : Fin 8)
  /-- BGEZ (R46). -/
  | bgez (t : TileId) (n : Fin 8)
  /-- CALL (R46). -/
  | call (t : TileId) (n : Fin 8)
  /-- JR (R46). -/
  | jr (t : TileId) (n : Fin 8)
  /-- LOOP (R47). -/
  | loop (t : TileId) (n : Fin 8)
  /-- STOP (R46). -/
  | stop (t : TileId) (n : Fin 8)
  /-- NOP (R46). -/
  | nop (t : TileId) (n : Fin 8)
  /-- ARM (R48). -/
  | arm (t : TileId) (n : Fin 8)
  /-- DISARM (R48). -/
  | disarm (t : TileId) (n : Fin 8)
  /-- WAIT (R48). -/
  | wait (t : TileId) (n : Fin 8)
  /-- SIGNAL (R48). -/
  | signal (t : TileId) (n : Fin 8)
  /-- CTRRD (R48). -/
  | ctrrd (t : TileId) (n : Fin 8)
  /-- COUNTER_EVENT (R58). -/
  | counterEvent (t : TileId) (c : Fin 16)
  /-- RLDQ (R49). -/
  | rldq (t : TileId) (n : Fin 8)
  /-- RSTQ (R49). -/
  | rstq (t : TileId) (n : Fin 8)
  /-- RLDG (R49). -/
  | rldg (t : TileId) (n : Fin 8)
  /-- RSTG (R49). -/
  | rstg (t : TileId) (n : Fin 8)
  /-- RCPY (R49). -/
  | rcpy (t : TileId) (n : Fin 8)
  /-- RZERO (R49). -/
  | rzero (t : TileId) (n : Fin 8)
  /-- IFILL (R49). -/
  | ifill (t : TileId) (n : Fin 8)
  /-- SENDQ (R50). -/
  | sendq (t : TileId) (n : Fin 8)
  /-- SENDROW (R50). -/
  | sendrow (t : TileId) (n : Fin 8)
  /-- SENDG (R50). -/
  | sendg (t : TileId) (n : Fin 8)
  /-- LWLD (R74). -/
  | lwld (t : TileId) (n : Fin 8)
  /-- LISS (R77). -/
  | liss (t : TileId) (n : Fin 8)
  /-- LDRAIN (R85). -/
  | ldrain (t : TileId) (n : Fin 8)
  /-- VADD (R53). -/
  | vadd (t : TileId) (n : Fin 8)
  /-- VSUB (R53). -/
  | vsub (t : TileId) (n : Fin 8)
  /-- VMUL (R53). -/
  | vmul (t : TileId) (n : Fin 8)
  /-- VFMA (R53). -/
  | vfma (t : TileId) (n : Fin 8)
  /-- VMAX (R53). -/
  | vmax (t : TileId) (n : Fin 8)
  /-- VMIN (R53). -/
  | vmin (t : TileId) (n : Fin 8)
  /-- VMOV (R115). -/
  | vmov (t : TileId) (n : Fin 8)
  /-- VRCP (R53). -/
  | vrcp (t : TileId) (n : Fin 8)
  /-- VRSQ (R53). -/
  | vrsq (t : TileId) (n : Fin 8)
  /-- VEXP2 (R53). -/
  | vexp2 (t : TileId) (n : Fin 8)
  /-- VLOG2 (R53). -/
  | vlog2 (t : TileId) (n : Fin 8)
  /-- VCVT (R109). -/
  | vcvt (t : TileId) (n : Fin 8)
  /-- VRSUM (R53). -/
  | vrsum (t : TileId) (n : Fin 8)
  /-- VRMAX (R53). -/
  | vrmax (t : TileId) (n : Fin 8)
  /-- VIADD (R53). -/
  | viadd (t : TileId) (n : Fin 8)
  /-- VECTOR_BEGIN (R54). -/
  | vectorBegin (t : TileId)
  /-- VECTOR_REPETITION (R54). -/
  | vectorRepetition (t : TileId)
  /-- VECTOR_WRITEBACK (R54). -/
  | vectorWriteback (t : TileId)
  /-- SCVT (R134). -/
  | scvt (t : TileId) (n : Fin 8)
  /-- SMATCH (R135). -/
  | smatch (t : TileId) (n : Fin 8)
  /-- STOPK (R137). -/
  | stopk (t : TileId) (n : Fin 8)
  /-- SFETCH (R140). -/
  | sfetch (t : TileId) (n : Fin 8)
  /-- SVERIFY (R139). -/
  | sverify (t : TileId) (n : Fin 8)
  /-- CSRR (R55). -/
  | csrr (t : TileId) (n : Fin 8)
  /-- CSRW (R55). -/
  | csrw (t : TileId) (n : Fin 8)
  /-- CSR_ACCESS_LAND (R55). -/
  | csrAccessLand (t : TileId) (clu : Bool)
  /-- IFENCE (R42). -/
  | ifence (t : TileId) (n : Fin 8)
  /-- RFENCE (R56). -/
  | rfence (t : TileId) (n : Fin 8)
  /-- BEATEND (R57). -/
  | beatend (t : TileId) (n : Fin 8)
  /-- YIELD (R57). -/
  | yield (t : TileId) (n : Fin 8)
  /-- IFILL_GO (R40). -/
  | ifillGo (t : TileId) (v : Word)
  /-- IFILL_ROW_WRITE (R40). -/
  | ifillRowWrite (t : TileId)
  /-- IB_DATA_WRITE (R41). -/
  | ibDataWrite (t : TileId) (v : Word)
  /-- IB_DATA_READ (R41). -/
  | ibDataRead (t : TileId)
  /-- QCFG_WRITE (R61). -/
  | qcfgWrite (t : TileId) (q : Fin 8) (v : Word)
  /-- COUNTER_WRITE (R59). -/
  | counterWrite (t : TileId) (c : Fin 16) (v : Word)
  /-- CONTEXT_RESET (R68). -/
  | contextReset (t : TileId) (n : Fin 8) (v : Word)
  /-- LAT_DESC_WRITE (R81). -/
  | latDescWrite (t : TileId) (d : Fin 64) (v : Word)
  /-- SPU_DESC_WRITE (R130). -/
  | spuDescWrite (t : TileId) (d : Fin 32) (v : Word)
  /-- SR_CNT_WRITE (R114). -/
  | srCntWrite (t : TileId) (v : Word)
  /-- VCNT_WRITE (R141). -/
  | vcntWrite (t : TileId) (v : Word)
  /-- TALLY_INJ_ARRAY (R94). -/
  | tallyInjArray (t : TileId)
  /-- TALLY_INJ_DRAIN (R94). -/
  | tallyInjDrain (t : TileId)
  /-- PARITY_INJECT (R156). -/
  | parityInject (c : ClusterId) (v : Word)
  /-- LATTICE_DISPATCH (R82). -/
  | latticeDispatch (t : LaneRead)
  /-- LWLD_COMPLETE (R83). -/
  | lwldComplete (t : TileId)
  /-- VECTOR_ENTRY (R87). -/
  | vectorEntry (t : TileId)
  /-- ARRAY_RESULT (R91). -/
  | arrayResult (t : TileId) (colFault : List (Fin 32 × BitVec 32)) (badLanes : List (Fin 32))
  /-- LISS_COMPLETE (R84). -/
  | lissComplete (t : LaneRead)
  /-- LOAD_FLOOR_VECTOR (R87). -/
  | loadFloorVector (t : FloorRun)
  /-- DRAIN_FLIT_WRITE (R83). -/
  | drainFlitWrite (t : TileId)
  /-- LDRAIN_COMPLETE (R85). -/
  | ldrainComplete (t : TileId)
  /-- LATTICE_REPEAT (R229). -/
  | latticeRepeat (t : TileId) (colFault : List (Fin 32 × BitVec 32))
  /-- REPLAY_RECORD_MOVE (R233). -/
  | replayRecordMove (c : ClusterId)
  /-- REPLAY_SERVICE (R233). -/
  | replayService (c : ClusterId) (t : Fin 16) (fault : Bool)
  /-- REPLAY_FORCE (R233). -/
  | replayForce (f : FieldId)
  /-- REPLAY_OUTCOME (R235). -/
  | replayOutcome (c : ClusterId)
  /-- TAINT_VOTE (R227). -/
  | taintVote
  /-- SPU_DISPATCH (R119). -/
  | spuDispatch (t : TileId)
  /-- SPU_COMPLETE (R132). -/
  | spuComplete (t : TileId)
  /-- SFETCH_ROW_READ (R140). -/
  | sfetchRowRead (t : TileId)
  /-- MERGE_START (R145). -/
  | mergeStart (c : ClusterId) (v : Word)
  /-- MERGE_EMIT (R146). -/
  | mergeEmit (c : ClusterId)
  /-- MERGE_COMPLETE (R146). -/
  | mergeComplete (c : ClusterId)
  /-- SLICE_GRANT (R152). -/
  | sliceGrant (c : ClusterId) (sl : Fin 16)
  /-- ROW_DATA_DELIVERY (R154). -/
  | rowDataDelivery (c : ClusterId) (glitch : List (Fin 128))
  /-- SCRUB_READ (R159). -/
  | scrubRead (c : ClusterId) (glitch : List (Fin 128))
  /-- TARGETED_SCRUB_READ (R159). -/
  | targetedScrubRead (c : ClusterId) (glitch : List (Fin 128))
  /-- SCRUB_PASS_LATE (R162). -/
  | scrubPassLate (c : ClusterId)
  /-- MESSAGE_INJECTION (R175). -/
  | messageInjection (t : TileId)
  /-- PAYLOAD_FLIT_INJECT (R175). -/
  | payloadFlitInject (t : TileId)
  /-- ROUTER_GRANT (R177). -/
  | routerGrant (t : TileId) (d : Fin 5)
  /-- FLIT_ARRIVAL (R182). -/
  | flitArrival (t : TileId) (d : Fin 4) (crcBad parityBad : Bool)
  /-- EJECTION_RESERVE (R174). -/
  | ejectionReserve (t : TileId)
  /-- FLIT_EJECT (R174). -/
  | flitEject (t : TileId)
  /-- CONFIG_ROW_ARRIVAL (R209). -/
  | configRowArrival (t : TileId) (row : RowArrival)
  /-- CONFIG_CHECK_DONE (R209). -/
  | configCheckDone (t : TileId)
  /-- ECLOSION (R211). -/
  | eclosion (t : TileId)
  /-- HINGE_LANE_TRAINED (R185). -/
  | hingeLaneTrained (w : Fin 2) (l : Fin 1386) (ok : Bool)
  /-- HINGE_CAL_VISIT (R185). -/
  | hingeCalVisit (w : Fin 2) (g : Fin 42) (l : Fin 1386)
  /-- HINGE_LANE_FAIL (R186). -/
  | hingeLaneFail (w : Fin 2) (l : Fin 1386)
  /-- TOKEN_ARRIVAL (R189). -/
  | tokenArrival (t : TileId) (code : Fin 256)
  /-- DETAIL_RECORD_FORWARD (R190). -/
  | detailRecordForward (t : TileId) (node : Bool)
  /-- RIME_COMMAND_RETRY (R188). -/
  | rimeCommandRetry (f : FieldId)
  /-- BEAT_TICK (R396). -/
  | beatTick
  /-- OPEN_PULSE (R199). -/
  | openPulse (f : FieldId)
  /-- BEAT_OPEN (R65). -/
  | beatOpen (t : TileId)
  /-- TAIL_DONE (R66). -/
  | tailDone (t : TileId)
  /-- BEAT_OVERRUN (R197). -/
  | beatOverrun (t : TileId)
  /-- FIELD_SEAL (R198). -/
  | fieldSeal (f : FieldId)
  /-- SEAL_LATE (R199). -/
  | sealLate (f : FieldId)
  /-- FREEZE_TIMEOUT (R203). -/
  | freezeTimeout (f : FieldId)
  /-- EXCHANGE_RUN (R214). -/
  | exchangeRun (t : TileId)
  /-- STEP_CHECKPOINT (R238). -/
  | stepCheckpoint
  /-- SPARE_SELFTEST_DONE (R244). -/
  | spareSelftestDone (f : FieldId) (failed : List PhysId)
  /-- SHIFT_TABLE_UPDATE (R25). -/
  | shiftTableUpdate (f : FieldId)
  /-- SELFTEST_DONE (R392). -/
  | selftestDone (f : FieldId) (failed : List PhysId) (ms : BitVec 16)
  /-- STREAM_ENABLE (R269). -/
  | streamEnable (n : Fin 65536) (v : Word)
  /-- STREAM_DISABLE (R269). -/
  | streamDisable (n : Fin 65536) (v : Word)
  /-- STREAM_FLIT_MOVE (R261). -/
  | streamFlitMove (n : Fin 65536) (producer : Bool) (ptrBad : Bool)
  /-- BANK_SWAP (R261). -/
  | bankSwap (n : Fin 65536)
  /-- BANK_TIMEOUT (R262). -/
  | bankTimeout (n : Fin 65536)
  /-- DEADLINE_MISS (R266). -/
  | deadlineMiss (n : Fin 65536)
  /-- FIRN_READ_DONE (R254). -/
  | firnReadDone (st : Fin 32) (corr uncorr : Nat)
  /-- FIRN_WRITE_DONE (R253). -/
  | firnWriteDone (st : Fin 32)
  /-- PATROL_READ (R255). -/
  | patrolRead (st : Fin 32) (granule : Fin 134217728) (corr uncorr : Nat)
  /-- BAR4_READ (R257). -/
  | bar4Read (off : Fin 17179869184) (len : Fin 513) (corr uncorr : List Nat)
  /-- BAR4_WRITE (R257). -/
  | bar4Write (off : Fin 17179869184) (data : List Byte) (corr uncorr : List Nat)
  /-- CHANNEL_ENABLE (R278). -/
  | channelEnable (p : Fin 32) (c : Fin 1024) (v : Word)
  /-- PORT_ENABLE (R273). -/
  | portEnable (p : Fin 32) (v : Word)
  /-- PORT_TRAIN_DONE (R273). -/
  | portTrainDone (p : Fin 32)
  /-- PORT_TRAIN_TIMEOUT (R273). -/
  | portTrainTimeout (p : Fin 32)
  /-- PORT_RETRAIN (R273). -/
  | portRetrain (p : Fin 32)
  /-- LIGHT_LOSS (R286). -/
  | lightLoss (p : Fin 32)
  /-- HEARTBEAT_SEND (R285). -/
  | heartbeatSend (p : Fin 32)
  /-- HEARTBEAT_TIMEOUT (R286). -/
  | heartbeatTimeout (p : Fin 32)
  /-- DATA_FRAME_SEND (R279). -/
  | dataFrameSend (p : Fin 32) (c : Fin 1024)
  /-- RETRANSMIT_TIMEOUT (R279). -/
  | retransmitTimeout (p : Fin 32) (tag : Fin 8192)
  /-- DATA (R279). -/
  | data (p : Fin 32) (fr : Frame)
  /-- FOREIGN_FRAME (R277). -/
  | foreignFrame (p : Fin 32) (fr : Frame)
  /-- ACK (R279). -/
  | ack (p : Fin 32) (fr : Frame)
  /-- HEARTBEAT (R285). -/
  | heartbeat (p : Fin 32) (fr : Frame) (now : Nat)
  /-- TICK (R288). -/
  | tick (p : Fin 32) (fr : Frame)
  /-- TICK_MISSING (R289). -/
  | tickMissing
  /-- VOTE (R293). -/
  | vote (p : Fin 32) (fr : Frame)
  /-- VOTE_SEND (R293). -/
  | voteSend
  /-- VOTE_TIMEOUT (R293). -/
  | voteTimeout
  /-- ORDER_COMMIT (R294). -/
  | orderCommit (p : Fin 32) (fr : Frame)
  /-- ORDER_ROLLBACK (R239). -/
  | orderRollback (p : Fin 32) (fr : Frame)
  /-- ORDER_RESTART (R294). -/
  | orderRestart (p : Fin 32) (fr : Frame)
  /-- ORDER_FREEZE (R294). -/
  | orderFreeze (p : Fin 32) (fr : Frame)
  /-- ORDER_THAW (R294). -/
  | orderThaw (p : Fin 32) (fr : Frame)
  /-- ORDER_FORMED (R292). -/
  | orderFormed (p : Fin 32) (fr : Frame)
  /-- LOST (R297). -/
  | lost (p : Fin 32) (fr : Frame)
  /-- MGMT (R275). -/
  | mgmt (p : Fin 32) (fr : Frame)
  /-- FORMATION_PHASE (R292). -/
  | formationPhase (delayNs : BitVec 16) (depth : BitVec 8)
  /-- JOIN_TIMEOUT (R291). -/
  | joinTimeout
  /-- POWER_CONTROL_INTERVAL (R304). -/
  | powerControlInterval (r : PowerSample)
  /-- CAP_FREQUENCY_STEP (R306). -/
  | capFrequencyStep
  /-- VOLTAGE_STEP_DONE (R301). -/
  | voltageStepDone
  /-- DROOP_DETECT (R307). -/
  | droopDetect (f : FieldId) (mv : Nat)
  /-- DIDT_WINDOW (R308). -/
  | didtWindow (f : FieldId) (amps : Nat)
  /-- CURTAIL_INPUT (R312). -/
  | curtailInput (active : Bool)
  /-- FREEZE_N_INPUT (R311). -/
  | freezeNInput (active : Bool)
  /-- INPUT_HELD_REPORT (R312). -/
  | inputHeldReport
  /-- MAIN_INPUT_LOSS (R316). -/
  | mainInputLoss (mv : Nat)
  /-- MAIN_INPUT_RETURN (R316). -/
  | mainInputReturn (mv : Nat)
  /-- RIDE_TIMEOUT (R316). -/
  | rideTimeout (joules : Nat)
  /-- GAUGE_FAULT (R315). -/
  | gaugeFault (coul volt : BitVec 12)
  /-- PARK_COMPLETE (R314). -/
  | parkComplete
  /-- RESUME_COMPLETE (R314). -/
  | resumeComplete
  /-- THERMAL_SAMPLE (R319). -/
  | thermalSample (r : ThermalReading)
  /-- THERMAL_TRIP (R319). -/
  | thermalTrip
  /-- COOL_DEMAND_UPDATE (R320). -/
  | coolDemandUpdate (drawW : Nat)
  /-- COOL_DEMAND_HOLD_EXPIRY (R320). -/
  | coolDemandHoldExpiry
  /-- REFERENCE_LOSS (R330). -/
  | referenceLoss
  /-- PLL_LOCK_LOSS (R330). -/
  | pllLockLoss (w : Fin 2)
  /-- SOURCE_QUALIFIED (R328). -/
  | sourceQualified (src : Fin 5)
  /-- REFERENCE_SWITCH_DONE (R329). -/
  | referenceSwitchDone
  /-- PLL_RELOCK (R325). -/
  | pllRelock
  /-- MUX_HANG (R331). -/
  | muxHang
  /-- MUX_TIMEOUT (R331). -/
  | muxTimeout
  /-- MUX_FORCE (R331). -/
  | muxForce (v : Word)
  /-- FWD_CAL_PASS (R327). -/
  | fwdCalPass (f : FieldId) (atLimit : Nat) (skewPs : BitVec 16)
  /-- CLOCK_GATE_WRITE (R336). -/
  | clockGateWrite (v : Word)
  /-- NVS_HELD_FLUSH (R354). -/
  | nvsHeldFlush
  /-- GET_INFO (R344). -/
  | getInfo (slot : Fin 34)
  /-- GET_STATUS (R344). -/
  | getStatus (slot : Fin 34)
  /-- CSR_READ (R31). -/
  | csrRead (slot : Fin 34)
  /-- CSR_WRITE (R31). -/
  | csrWrite (slot : Fin 34)
  /-- LOAD_IMAGE (R207). -/
  | loadImage (slot : Fin 34)
  /-- START (R193). -/
  | start (slot : Fin 34)
  /-- FREEZE (R203). -/
  | freeze (slot : Fin 34)
  /-- THAW (R203). -/
  | thaw (slot : Fin 34)
  /-- EXCHANGE (R213). -/
  | exchange (slot : Fin 34)
  /-- SET_POWER_CAP (R321). -/
  | setPowerCap (slot : Fin 34)
  /-- PARK (R314). -/
  | park (slot : Fin 34)
  /-- RESUME (R314). -/
  | resume (slot : Fin 34)
  /-- SET_RAMP (R309). -/
  | setRamp (slot : Fin 34)
  /-- SET_FLOOR (R310). -/
  | setFloor (slot : Fin 34)
  /-- STORE_SETTINGS (R351). -/
  | storeSettings (slot : Fin 34) (readBackOk : Bool)
  /-- CAL_EXPORT (R356). -/
  | calExport (slot : Fin 34)
  /-- CAL_IMPORT (R357). -/
  | calImport (slot : Fin 34) (readBackOk : Bool)
  /-- FW_UPDATE (R359). -/
  | fwUpdate (slot : Fin 34)
  /-- CALVE_RETIRE (R248). -/
  | calveRetire (slot : Fin 34)
  /-- CALVE_REINSTATE (R248). -/
  | calveReinstate (slot : Fin 34) (selftestOk : Bool)
  /-- CALVE_SET_POLICY (R248). -/
  | calveSetPolicy (slot : Fin 34)
  /-- CALVE_GET_POLICY (R248). -/
  | calveGetPolicy (slot : Fin 34)
  /-- READ_HISTORY (R249). -/
  | readHistory (slot : Fin 34)
  /-- COCOON_OUT (R219). -/
  | cocoonOut (slot : Fin 34)
  /-- COCOON_IN (R221). -/
  | cocoonIn (slot : Fin 34)
  /-- FABRIC_JOIN (R291). -/
  | fabricJoin (slot : Fin 34)
  /-- COMMIT_POLICY (R295). -/
  | commitPolicy (slot : Fin 34)
  /-- CLOCK_SELECT (R334). -/
  | clockSelect (slot : Fin 34)
  /-- RESET_ENGINE (R364). -/
  | resetEngine (slot : Fin 34)
  /-- UNDEFINED_OPCODE (R343). -/
  | undefinedOpcode (slot : Fin 34)
  /-- REQUEST_RECORD_WRITE (R339). -/
  | requestRecordWrite (link : Fin 2) (slot : Fin 34) (word : Fin 8) (v : Word)
  /-- ENTDAA (R347). -/
  | entdaa (addr : BitVec 7)
  /-- SETDASA (R347). -/
  | setdasa (addr : BitVec 7)
  /-- RSTDAA (R347). -/
  | rstdaa
  /-- GETPID (R347). -/
  | getpid
  /-- GETBCR (R347). -/
  | getbcr
  /-- GETDCR (R347). -/
  | getdcr
  /-- GETSTATUS (R347). -/
  | getstatus
  /-- ENEC (R347). -/
  | enec (events : Byte)
  /-- DISEC (R347). -/
  | disec (events : Byte)
  /-- GETMXDS (R347). -/
  | getmxds
  /-- I3C_PRIVATE_WRITE (R347). -/
  | i3cPrivateWrite (b : Byte)
  /-- I3C_PRIVATE_READ (R347). -/
  | i3cPrivateRead (len : Fin 25)
  /-- HEART_INCREMENT (R346). -/
  | heartIncrement
  /-- MORAINE_FLUSH (R241). -/
  | moraineFlush
  /-- AUX_POWER_ON (R364). -/
  | auxPowerOn
  /-- ENGINE_RESET (R364). -/
  | engineReset
  /-- COLD_START (R362). -/
  | coldStart
  /-- COLD_START_PHASE_END (R362). -/
  | coldStartPhaseEnd (r : PhaseReport)
  /-- PHASE_LATE (R363). -/
  | phaseLate (canComplete : Bool)
  /-- PCIE_RESET (R364). -/
  | pcieReset (link : Fin 2)
  /-- STEWARD_RESET (R365). -/
  | stewardReset
  /-- WATCHDOG_EXPIRY (R364). -/
  | watchdogExpiry
  /-- JITOR_RETURN (R365). -/
  | jitorReturn
  /-- EVC_SOURCE_INPUT (R368). -/
  | evcSourceInput (n : Fin 1023)
  /-- EVC_CLAIM (R371). -/
  | evcClaim (c : Fin 4)
  /-- EVC_COMPLETE (R372). -/
  | evcComplete (c : Fin 4) (v : Word)
  /-- EVC_PEND_WRITE (R368). -/
  | evcPendWrite (k : Fin 16) (v : Word)
  /-- EVC_SWSET (R367). -/
  | evcSwset (v : Word)
  /-- EVC_FLUSH (R372). -/
  | evcFlush (c : Fin 4)
  /-- HOLD_OFF_EXPIRY (R374). -/
  | holdOffExpiry (g : Fin 32)
  /-- GENERAL_TIMER_EXPIRY (R367). -/
  | generalTimerExpiry (k : Fin 16)
  /-- CORE_SLEEP (R376). -/
  | coreSleep (c : Fin 4)
  /-- CORE_WAKE (R377). -/
  | coreWake (c : Fin 4)
  /-- RC_REGISTER_READ (R9). -/
  | rcRegisterRead (a : BitVec 40)
  /-- SPLIT_VALUE_READ (R14). -/
  | splitValueRead (a : BitVec 40)
  /-- REPORT_RECORD_READ (R190). -/
  | reportRecordRead (f : FieldId)
  /-- REGISTER_WRITE (R9). -/
  | registerWrite (link : Fin 2) (a : BitVec 40) (v : Word)
  /-- LANE_ALIGNMENT_LOSS (R274). -/
  | laneAlignmentLoss (p : Fin 32) (lane : Fin 8)
  /-- HOLDUP_FULL_CHARGE (R315). -/
  | holdupFullCharge (calOk : Bool)
  /-- AUX_POWER_LOSS (R384). -/
  | auxPowerLoss
  /-- OPSEC_SAVE (R354). -/
  | opsecSave
  /-- DISCRETE_INPUT_CHATTER (R311). -/
  | discreteInputChatter (freezeN : Bool)
  /-- TAP_RESET (R388). -/
  | tapReset
  /-- EXTEST (R390). -/
  | extest
  /-- SAMPLE_PRELOAD (R389). -/
  | samplePreload (preload : BitVec 92)
  /-- IDCODE (R389). -/
  | idcode
  /-- CLAMP (R390). -/
  | clamp
  /-- HIGHZ (R390). -/
  | highz
  /-- EXTEST_PULSE (R389). -/
  | extestPulse
  /-- EXTEST_TRAIN (R389). -/
  | extestTrain
  /-- BYPASS (R389). -/
  | bypass (opcode : Byte)
  deriving DecidableEq, Repr

end Sys2Proof
end

