-- ==== Sys2Proof/Decode.lean ====
section
/-! DEFINITION. The command that a word spells. The command table gives no row any bits, so no word spells one; the tile
instruction words of Table 02.3 are decoded in Machine/TileDecode.lean. -/

namespace Sys2Proof

/-- The table gives no row bits: no word spells a command. -/
def decodeTableWord (_nbits _w : Nat) : Option Instr := none

end Sys2Proof
end

