-- ==== Sys2Proof/Machine/Fields.lean ====
section
/-! DEFINITION. The fields of the register maps by name: the offset of the register (of copy 0) in its space, the
lowest bit and the width. Tile offsets carry the block in bits 13:12. -/

namespace Sys2Proof.Machine

/-- A register field: register offset, lowest bit, width. -/
structure Fld where
  off : Nat
  lo : Nat
  w : Nat
  deriving DecidableEq, Repr

/-- The field in the copy of its register `d` bytes further. -/
def Fld.at (f : Fld) (d : Nat) : Fld := { f with off := f.off + d }

namespace F

def FLD_SHIFT_ROW_MAP_SEQ : Fld := ⟨0x200, 16, 16⟩
def FLD_SHIFT_ROW_ROW_SPARES : Fld := ⟨0x200, 10, 5⟩
def FLD_SHIFT_ROW_DEGRADED : Fld := ⟨0x200, 9, 1⟩
def FLD_SHIFT_ROW_SPARE_ROW_USED : Fld := ⟨0x200, 8, 1⟩
def FLD_SHIFT_ROW_HOLE : Fld := ⟨0x200, 0, 5⟩
def FLD_SHIFT_COL_BAD : Fld := ⟨0x208, 32, 25⟩
def FLD_SHIFT_COL_UNBACKED : Fld := ⟨0x208, 9, 1⟩
def FLD_SHIFT_COL_IN_USE : Fld := ⟨0x208, 8, 1⟩
def FLD_SHIFT_COL_HOLE : Fld := ⟨0x208, 0, 5⟩
def TSQ_ID_W : Fld := ⟨0, 35, 1⟩
def TSQ_ID_Y : Fld := ⟨0, 25, 10⟩
def TSQ_ID_X : Fld := ⟨0, 14, 11⟩
def TSQ_ID_T : Fld := ⟨0, 0, 4⟩
def TSQ_STATUS_START_MISS : Fld := ⟨8, 48, 16⟩
def TSQ_STATUS_FAULT_CTX : Fld := ⟨8, 32, 8⟩
def TSQ_STATUS_DONE_CTX : Fld := ⟨8, 24, 8⟩
def TSQ_STATUS_RUN_CTX : Fld := ⟨8, 16, 8⟩
def TSQ_STATUS_TAIL_DONE : Fld := ⟨8, 7, 1⟩
def TSQ_STATUS_PARKED : Fld := ⟨8, 6, 1⟩
def TSQ_STATUS_STATE : Fld := ⟨8, 0, 3⟩
def TSQ_BEAT_BEAT_NO : Fld := ⟨0x10, 16, 32⟩
def TSQ_BEAT_PARITY : Fld := ⟨0x10, 2, 1⟩
def TSQ_BEAT_PHASE : Fld := ⟨0x10, 0, 2⟩
def TSQ_BEATCFG_BEAT_MASK : Fld := ⟨0x18, 8, 8⟩
def TSQ_BEATCFG_START_MASK : Fld := ⟨0x18, 0, 8⟩
def TSQ_PP_STRIDE : Fld := ⟨0x20, 0, 13⟩
def TSQ_IFILL_CRC : Fld := ⟨0x28, 32, 32⟩
def TSQ_IFILL_BUSY : Fld := ⟨0x28, 31, 1⟩
def TSQ_IFILL_GO : Fld := ⟨0x28, 30, 1⟩
def TSQ_IFILL_NROWS : Fld := ⟨0x28, 26, 4⟩
def TSQ_IFILL_SLOT : Fld := ⟨0x28, 13, 3⟩
def TSQ_IFILL_BASE : Fld := ⟨0x28, 0, 13⟩
def TSQ_IB_ADDR_INDEX : Fld := ⟨0x30, 0, 9⟩
def TSQ_IB_DATA_INSN : Fld := ⟨0x38, 0, 64⟩
def TSQ_ERR_QCFG_OVERLAP : Fld := ⟨0x40, 8, 1⟩
def TSQ_ERR_IB_PARITY : Fld := ⟨0x40, 7, 1⟩
def TSQ_ERR_LOOP_OVF : Fld := ⟨0x40, 6, 1⟩
def TSQ_ERR_OVERSIZE_MSG : Fld := ⟨0x40, 5, 1⟩
def TSQ_ERR_PORT_DISCARD : Fld := ⟨0x40, 4, 1⟩
def TSQ_ERR_CTR_OVF : Fld := ⟨0x40, 3, 1⟩
def TSQ_ERR_ILLEGAL : Fld := ⟨0x40, 2, 1⟩
def TSQ_ERR_POISON_USED : Fld := ⟨0x40, 1, 1⟩
def TSQ_ERR_INSTAR_DISCARD : Fld := ⟨0x40, 0, 1⟩
def TSQ_CTX_CTL_RESET : Fld := ⟨0x80, 31, 1⟩
def TSQ_CTX_CTL_ENTRY : Fld := ⟨0x80, 0, 9⟩
def TSQ_CTX_STATE_FCODE : Fld := ⟨0xC0, 32, 8⟩
def TSQ_CTX_STATE_FPC : Fld := ⟨0xC0, 23, 9⟩
def TSQ_CTX_STATE_LOOP_DEPTH : Fld := ⟨0xC0, 20, 3⟩
def TSQ_CTX_STATE_BP : Fld := ⟨0xC0, 19, 1⟩
def TSQ_CTX_STATE_WHY : Fld := ⟨0xC0, 16, 3⟩
def TSQ_CTX_STATE_STATE : Fld := ⟨0xC0, 9, 2⟩
def TSQ_CTX_STATE_PC : Fld := ⟨0xC0, 0, 9⟩
def TSQ_CTR_OVF : Fld := ⟨0x100, 39, 1⟩
def TSQ_CTR_ARMED : Fld := ⟨0x100, 38, 1⟩
def TSQ_CTR_CTX : Fld := ⟨0x100, 35, 3⟩
def TSQ_CTR_THRESH : Fld := ⟨0x100, 16, 16⟩
def TSQ_CTR_COUNT : Fld := ⟨0x100, 0, 16⟩
def TSQ_CTR_SRC_PREV : Fld := ⟨0x180, 31, 1⟩
def TSQ_CTR_SRC_CARRY : Fld := ⟨0x180, 30, 1⟩
def TSQ_CTR_SRC_BCLR : Fld := ⟨0x180, 29, 1⟩
def TSQ_CTR_SRC_MODE : Fld := ⟨0x180, 24, 2⟩
def TSQ_CTR_SRC_SRC : Fld := ⟨0x180, 16, 5⟩
def TSQ_CTR_SRC_SEL : Fld := ⟨0x180, 9, 3⟩
def TSQ_CTR_SRC_LEVEL : Fld := ⟨0x180, 0, 9⟩
def TSQ_QCFG_EN : Fld := ⟨0x200, 31, 1⟩
def TSQ_QCFG_DEPTH : Fld := ⟨0x200, 16, 9⟩
def TSQ_QCFG_BASE : Fld := ⟨0x200, 0, 8⟩
def TSQ_QSTAT_DISCARDS : Fld := ⟨0x240, 48, 16⟩
def TSQ_QSTAT_MSGS : Fld := ⟨0x240, 32, 16⟩
def TSQ_QSTAT_HELD : Fld := ⟨0x240, 16, 9⟩
def TSQ_QSTAT_LEVEL : Fld := ⟨0x240, 0, 9⟩
def TSQ_ISSUE_CNT_ISSUED : Fld := ⟨0x280, 0, 48⟩
def TSQ_EMPTY_CNT_EMPTY : Fld := ⟨0x288, 0, 48⟩
def TSQ_GPOI_TAGS : Fld := ⟨0x300, 0, 16⟩
def TSQ_GREG_VALUE : Fld := ⟨0x400, 0, 64⟩
def LAT_STATUS_RAMP_Q : Fld := ⟨0x1000, 22, 2⟩
def LAT_STATUS_RAMPING : Fld := ⟨0x1000, 21, 1⟩
def LAT_STATUS_FLOOR : Fld := ⟨0x1000, 20, 1⟩
def LAT_STATUS_Q_OCC : Fld := ⟨0x1000, 18, 2⟩
def LAT_STATUS_DRAIN_BUSY : Fld := ⟨0x1000, 17, 1⟩
def LAT_STATUS_ARRAY_BUSY : Fld := ⟨0x1000, 16, 1⟩
def LAT_STATUS_LOADER_BUSY : Fld := ⟨0x1000, 15, 1⟩
def LAT_STATUS_SET1_POISON : Fld := ⟨0x1000, 14, 1⟩
def LAT_STATUS_SET0_POISON : Fld := ⟨0x1000, 13, 1⟩
def LAT_STATUS_SET1_FMT : Fld := ⟨0x1000, 9, 4⟩
def LAT_STATUS_SET0_FMT : Fld := ⟨0x1000, 5, 4⟩
def LAT_RAMP_IDLE_CNT : Fld := ⟨0x1008, 16, 16⟩
def LAT_RAMP_IDLE : Fld := ⟨0x1008, 0, 16⟩
def LAT_TALLY_LOG_VALID : Fld := ⟨0x1010, 63, 1⟩
def LAT_TALLY_LOG_KIND : Fld := ⟨0x1010, 62, 1⟩
def LAT_TALLY_LOG_DESC : Fld := ⟨0x1010, 56, 6⟩
def LAT_TALLY_LOG_BANK : Fld := ⟨0x1010, 55, 1⟩
def LAT_TALLY_LOG_ROW : Fld := ⟨0x1010, 48, 7⟩
def LAT_TALLY_LOG_GROUP : Fld := ⟨0x1010, 46, 2⟩
def LAT_TALLY_LOG_PASS : Fld := ⟨0x1010, 42, 4⟩
def LAT_TALLY_CNT_SKIPPED : Fld := ⟨0x1018, 32, 32⟩
def LAT_TALLY_CNT_COUNT : Fld := ⟨0x1018, 0, 32⟩
def LAT_TALLY_TEST_INJ_DRAIN : Fld := ⟨0x1020, 1, 1⟩
def LAT_TALLY_TEST_INJ_ARRAY : Fld := ⟨0x1020, 0, 1⟩
def LAT_ERR_SET_FMT : Fld := ⟨0x1028, 5, 1⟩
def LAT_ERR_POISON : Fld := ⟨0x1028, 4, 1⟩
def LAT_ERR_WRAP : Fld := ⟨0x1028, 3, 1⟩
def LAT_ERR_ACC_PARITY : Fld := ⟨0x1028, 2, 1⟩
def LAT_ERR_ILLEGAL : Fld := ⟨0x1028, 1, 1⟩
def LAT_ERR_TALLY : Fld := ⟨0x1028, 0, 1⟩
def LAT_ARRAY_CNT_VECTORS : Fld := ⟨0x1030, 0, 48⟩
def LAT_BUBBLE_CNT_POWER : Fld := ⟨0x1038, 32, 32⟩
def LAT_BUBBLE_CNT_RAMP : Fld := ⟨0x1038, 0, 32⟩
def LAT_FEED_CNT_WAITS : Fld := ⟨0x1040, 0, 48⟩
def LAT_FLOOR_CNT_FLOOR : Fld := ⟨0x1048, 0, 48⟩
def LAT_TRN_CNT_CODE10 : Fld := ⟨0x1050, 0, 32⟩
def LAT_DESC_LO_ASCL : Fld := ⟨0x1400, 32, 13⟩
def LAT_DESC_LO_V : Fld := ⟨0x1400, 29, 1⟩
def LAT_DESC_LO_DLANES : Fld := ⟨0x1400, 26, 2⟩
def LAT_DESC_LO_RMODE : Fld := ⟨0x1400, 24, 2⟩
def LAT_DESC_LO_ACCUM : Fld := ⟨0x1400, 23, 1⟩
def LAT_DESC_LO_MM1 : Fld := ⟨0x1400, 16, 7⟩
def LAT_DESC_LO_S24 : Fld := ⟨0x1400, 15, 1⟩
def LAT_DESC_LO_MODE : Fld := ⟨0x1400, 12, 3⟩
def LAT_DESC_LO_OFMT : Fld := ⟨0x1400, 8, 4⟩
def LAT_DESC_LO_WFMT : Fld := ⟨0x1400, 4, 4⟩
def LAT_DESC_LO_AFMT : Fld := ⟨0x1400, 0, 4⟩
def LAT_DESC_HI_OSCL : Fld := ⟨0x1408, 0, 13⟩
def LAT_SR_SEED_SEED : Fld := ⟨0x1058, 0, 32⟩
def LAT_SR_CNT_CNT : Fld := ⟨0x1060, 0, 20⟩
def LAT_FPX_NAN_SCALE : Fld := ⟨0x1068, 8, 1⟩
def LAT_FPX_V_INVALID : Fld := ⟨0x1068, 7, 1⟩
def LAT_FPX_V_OVERFLOW : Fld := ⟨0x1068, 6, 1⟩
def LAT_FPX_V_FLUSH : Fld := ⟨0x1068, 5, 1⟩
def LAT_FPX_L_INVALID : Fld := ⟨0x1068, 4, 1⟩
def LAT_FPX_L_OVERFLOW : Fld := ⟨0x1068, 3, 1⟩
def LAT_FPX_L_FLUSH : Fld := ⟨0x1068, 2, 1⟩
def LAT_FPX_CVT_NAN : Fld := ⟨0x1068, 1, 1⟩
def LAT_FPX_CVT_SAT : Fld := ⟨0x1068, 0, 1⟩
def LAT_CVT_CNT_SAT : Fld := ⟨0x1070, 32, 32⟩
def LAT_CVT_CNT_NANBLK : Fld := ⟨0x1070, 0, 32⟩
def LAT_NONFIN_CNT_SKIPPED : Fld := ⟨0x1078, 0, 48⟩
def SPU_STATUS_DESC : Fld := ⟨0x2000, 8, 8⟩
def SPU_STATUS_OP : Fld := ⟨0x2000, 5, 3⟩
def SPU_STATUS_Q_OCC : Fld := ⟨0x2000, 3, 2⟩
def SPU_STATUS_QWAIT : Fld := ⟨0x2000, 2, 1⟩
def SPU_STATUS_BUSY : Fld := ⟨0x2000, 0, 1⟩
def SPU_ERR_POISON : Fld := ⟨0x2008, 4, 1⟩
def SPU_ERR_MISS_LIMIT : Fld := ⟨0x2008, 3, 1⟩
def SPU_ERR_ILLEGAL : Fld := ⟨0x2008, 2, 1⟩
def SPU_ERR_VIOL24 : Fld := ⟨0x2008, 1, 1⟩
def SPU_ERR_MALFORMED : Fld := ⟨0x2008, 0, 1⟩
def SPU_LAST_NBLK : Fld := ⟨0x2010, 32, 7⟩
def SPU_LAST_NRUN : Fld := ⟨0x2010, 16, 13⟩
def SPU_LAST_NNZ : Fld := ⟨0x2010, 0, 13⟩
def SPU_SEL_THR_THR : Fld := ⟨0x2018, 0, 32⟩
def SPU_VSEED_SEED : Fld := ⟨0x2020, 0, 32⟩
def SPU_VCNT_CNT : Fld := ⟨0x2028, 0, 20⟩
def SPU_VERIFY_CFG_LIMIT : Fld := ⟨0x2030, 16, 16⟩
def SPU_VERIFY_CFG_RATE : Fld := ⟨0x2030, 0, 16⟩
def SPU_VERIFY_CNT_SAMPLED : Fld := ⟨0x2038, 40, 24⟩
def SPU_VERIFY_CNT_MISSED : Fld := ⟨0x2038, 16, 24⟩
def SPU_VERIFY_CNT_BEAT_MISS : Fld := ⟨0x2038, 0, 16⟩
def SPU_CNT_NANSCORE : Fld := ⟨0x2040, 48, 16⟩
def SPU_CNT_PRUNED : Fld := ⟨0x2040, 24, 24⟩
def SPU_CNT_TRN10 : Fld := ⟨0x2040, 0, 24⟩
def SPU_OP_CNT_OPS : Fld := ⟨0x2048, 0, 48⟩
def SPU_DESC_V : Fld := ⟨0x2400, 63, 1⟩
def SPU_DESC_SIDEOFF : Fld := ⟨0x2400, 48, 5⟩
def SPU_DESC_LIST : Fld := ⟨0x2400, 47, 1⟩
def SPU_DESC_MOVE : Fld := ⟨0x2400, 46, 1⟩
def SPU_DESC_RPNM1 : Fld := ⟨0x2400, 43, 3⟩
def SPU_DESC_VEN : Fld := ⟨0x2400, 42, 1⟩
def SPU_DESC_TEN : Fld := ⟨0x2400, 41, 1⟩
def SPU_DESC_K : Fld := ⟨0x2400, 28, 13⟩
def SPU_DESC_LENM1 : Fld := ⟨0x2400, 16, 12⟩
def SPU_DESC_PRUNE : Fld := ⟨0x2400, 14, 1⟩
def SPU_DESC_SOUT : Fld := ⟨0x2400, 12, 2⟩
def SPU_DESC_SINB : Fld := ⟨0x2400, 10, 2⟩
def SPU_DESC_SIN : Fld := ⟨0x2400, 8, 2⟩
def SPU_DESC_FMTB : Fld := ⟨0x2400, 4, 4⟩
def SPU_DESC_FMT : Fld := ⟨0x2400, 0, 4⟩
def CLU_MT_CTL_LEAF_MASK : Fld := ⟨0x800, 48, 16⟩
def CLU_MT_CTL_DONE_TILE : Fld := ⟨0x800, 44, 4⟩
def CLU_MT_CTL_DONE_CTR : Fld := ⟨0x800, 40, 4⟩
def CLU_MT_CTL_DONE_EN : Fld := ⟨0x800, 39, 1⟩
def CLU_MT_CTL_SRCQ : Fld := ⟨0x800, 36, 3⟩
def CLU_MT_CTL_DSTQ : Fld := ⟨0x800, 33, 3⟩
def CLU_MT_CTL_DST_TILE : Fld := ⟨0x800, 29, 4⟩
def CLU_MT_CTL_DSTK : Fld := ⟨0x800, 28, 1⟩
def CLU_MT_CTL_MODE : Fld := ⟨0x800, 26, 2⟩
def CLU_MT_CTL_BUSY : Fld := ⟨0x800, 1, 1⟩
def CLU_MT_CTL_GO : Fld := ⟨0x800, 0, 1⟩
def CLU_MT_DST_ROW : Fld := ⟨0x808, 0, 13⟩
def CLU_MT_STAT_ORDER_ERR : Fld := ⟨0x810, 32, 1⟩
def CLU_MT_STAT_GO_IGNORED : Fld := ⟨0x810, 16, 16⟩
def CLU_MT_STAT_STALL : Fld := ⟨0x810, 0, 16⟩
def CLU_MT_CNT_ELEMENTS : Fld := ⟨0x818, 0, 48⟩
def CLU_ID_W : Fld := ⟨0, 35, 1⟩
def CLU_ID_CY : Fld := ⟨0, 27, 8⟩
def CLU_ID_CX : Fld := ⟨0, 18, 9⟩
def CLU_ID_FX : Fld := ⟨0, 14, 4⟩
def CLU_ID_FY : Fld := ⟨0, 11, 3⟩
def CLU_ID_LCY : Fld := ⟨0, 5, 5⟩
def CLU_ID_LCX : Fld := ⟨0, 0, 5⟩
def CLU_STATUS_POISON_ROWS : Fld := ⟨8, 32, 14⟩
def CLU_STATUS_SHIFT : Fld := ⟨8, 2, 1⟩
def CLU_STATUS_SCRUB_LATE : Fld := ⟨8, 1, 1⟩
def CLU_STATUS_SCRUB_RUN : Fld := ⟨8, 0, 1⟩
def CLU_BUDDY_OVR : Fld := ⟨0x10, 63, 1⟩
def CLU_BUDDY_VALID : Fld := ⟨0x10, 13, 1⟩
def CLU_BUDDY_LCY : Fld := ⟨0x10, 5, 5⟩
def CLU_BUDDY_LCX : Fld := ⟨0x10, 0, 5⟩
def CLU_SCRUB_CFG_EN : Fld := ⟨0x18, 31, 1⟩
def CLU_SCRUB_CFG_TGT_EN : Fld := ⟨0x18, 30, 1⟩
def CLU_SCRUB_CFG_INTERVAL : Fld := ⟨0x18, 0, 16⟩
def CLU_SCRUB_STAT_PASSES : Fld := ⟨0x20, 32, 32⟩
def CLU_SCRUB_STAT_TGT_OVF : Fld := ⟨0x20, 16, 16⟩
def CLU_SCRUB_STAT_TGT_OCC : Fld := ⟨0x20, 13, 3⟩
def CLU_SCRUB_STAT_NEXT : Fld := ⟨0x20, 0, 13⟩
def CLU_SCRUB_LOG_VALID : Fld := ⟨0x28, 63, 1⟩
def CLU_SCRUB_LOG_KIND : Fld := ⟨0x28, 62, 1⟩
def CLU_SCRUB_LOG_NBAD : Fld := ⟨0x28, 24, 8⟩
def CLU_SCRUB_LOG_WORD : Fld := ⟨0x28, 16, 7⟩
def CLU_SCRUB_LOG_ROW : Fld := ⟨0x28, 0, 13⟩
def CLU_PAR_LOG_VALID : Fld := ⟨0x30, 63, 1⟩
def CLU_PAR_LOG_TILE : Fld := ⟨0x30, 48, 4⟩
def CLU_PAR_LOG_REQ : Fld := ⟨0x30, 44, 3⟩
def CLU_PAR_LOG_MERGED : Fld := ⟨0x30, 43, 1⟩
def CLU_PAR_LOG_NBAD : Fld := ⟨0x30, 24, 8⟩
def CLU_PAR_LOG_WORD : Fld := ⟨0x30, 16, 7⟩
def CLU_PAR_LOG_ROW : Fld := ⟨0x30, 0, 13⟩
def CLU_PAR_CNT_DEMAND : Fld := ⟨0x38, 32, 32⟩
def CLU_PAR_CNT_SCRUB : Fld := ⟨0x38, 0, 32⟩
def CLU_ERR_TGT_OVF : Fld := ⟨0x40, 3, 1⟩
def CLU_ERR_SCRUB_LATE : Fld := ⟨0x40, 2, 1⟩
def CLU_ERR_SCRUB_FOUND : Fld := ⟨0x40, 1, 1⟩
def CLU_ERR_PARITY : Fld := ⟨0x40, 0, 1⟩
def CLU_PAR_INJ_ARM : Fld := ⟨0x48, 63, 1⟩
def CLU_PAR_INJ_ARMED : Fld := ⟨0x48, 62, 1⟩
def CLU_PAR_INJ_WORD : Fld := ⟨0x48, 16, 7⟩
def CLU_PAR_INJ_ROW : Fld := ⟨0x48, 0, 13⟩
def CLU_XBAR_CNT_ACCESSES : Fld := ⟨0x100, 32, 32⟩
def CLU_XBAR_CNT_MERGED : Fld := ⟨0x100, 0, 32⟩
def CLU_XBAR_CONF_CONFLICT : Fld := ⟨0x180, 0, 32⟩
def CLU_PORT_WAIT_MAX_WAIT : Fld := ⟨0x200, 48, 16⟩
def CLU_PORT_WAIT_WAIT : Fld := ⟨0x200, 0, 48⟩
def MSH_STATUS_PASS : Fld := ⟨0x3000, 20, 1⟩
def MSH_STATUS_OUT_HELD : Fld := ⟨0x3000, 15, 5⟩
def MSH_STATUS_IN_OCC : Fld := ⟨0x3000, 10, 5⟩
def MSH_STATUS_AGE_NOW : Fld := ⟨0x3000, 2, 8⟩
def MSH_STATUS_EJ_WAIT : Fld := ⟨0x3000, 1, 1⟩
def MSH_STATUS_CLOCKED : Fld := ⟨0x3000, 0, 1⟩
def MSH_LINK_SEL_SEQ : Fld := ⟨0x3008, 16, 16⟩
def MSH_LINK_SEL_W_KIND : Fld := ⟨0x3008, 12, 4⟩
def MSH_LINK_SEL_S_KIND : Fld := ⟨0x3008, 8, 4⟩
def MSH_LINK_SEL_E_KIND : Fld := ⟨0x3008, 4, 4⟩
def MSH_LINK_SEL_N_KIND : Fld := ⟨0x3008, 0, 4⟩
def MSH_ERR_REFUSED : Fld := ⟨0x3010, 4, 1⟩
def MSH_ERR_UNBACKED : Fld := ⟨0x3010, 3, 1⟩
def MSH_ERR_BAD_DEST : Fld := ⟨0x3010, 2, 1⟩
def MSH_ERR_HPAR : Fld := ⟨0x3010, 1, 1⟩
def MSH_ERR_CRC_EXH : Fld := ⟨0x3010, 0, 1⟩
def MSH_CRC_CNT_EXHAUSTED : Fld := ⟨0x3018, 32, 32⟩
def MSH_CRC_CNT_RETRIES : Fld := ⟨0x3018, 0, 32⟩
def MSH_FLIT_CNT_FLITS : Fld := ⟨0x3040, 0, 48⟩
def MSH_HOLD_CNT_HELD : Fld := ⟨0x3080, 0, 48⟩
def MSH_INJ_CNT_WAIT : Fld := ⟨0x30C0, 32, 32⟩
def MSH_INJ_CNT_MSGS : Fld := ⟨0x30C0, 0, 32⟩
def MSH_EJ_CNT_MAX_WAIT : Fld := ⟨0x30C8, 48, 16⟩
def MSH_EJ_CNT_WAIT : Fld := ⟨0x30C8, 0, 48⟩
def MSH_DROP_CNT_REFUSED : Fld := ⟨0x30D0, 48, 16⟩
def MSH_DROP_CNT_UNBACKED : Fld := ⟨0x30D0, 32, 16⟩
def MSH_DROP_CNT_HDR : Fld := ⟨0x30D0, 16, 16⟩
def MSH_TAG_SEL_EN : Fld := ⟨0x3100, 33, 1⟩
def MSH_TAG_SEL_DIR : Fld := ⟨0x3100, 32, 1⟩
def MSH_TAG_SEL_MASK : Fld := ⟨0x3100, 16, 16⟩
def MSH_TAG_SEL_VALUE : Fld := ⟨0x3100, 0, 16⟩
def MSH_TAG_CNT_STALL : Fld := ⟨0x3140, 24, 40⟩
def MSH_TAG_CNT_MSGS : Fld := ⟨0x3140, 0, 24⟩
def RIM_STATE_CNT_CALVED : Fld := ⟨0x8000, 42, 14⟩
def RIM_STATE_CNT_FROZEN : Fld := ⟨0x8000, 28, 14⟩
def RIM_STATE_CNT_LIVE : Fld := ⟨0x8000, 14, 14⟩
def RIM_STATE_CNT_INSTAR : Fld := ⟨0x8000, 0, 14⟩
def RIM_AGE_CFG_CLOCK : Fld := ⟨0x8008, 32, 8⟩
def RIM_AGE_CFG_UNIT : Fld := ⟨0x8008, 0, 32⟩
def RIM_FLAGS_FLAG : Fld := ⟨0x8010, 0, 8⟩
def RIM_REP_LO_REC_LO : Fld := ⟨0x8018, 0, 64⟩
def RIM_REP_HI_REC_HI : Fld := ⟨0x8020, 0, 64⟩
def RIM_REP_STAT_DROPPED : Fld := ⟨0x8028, 32, 32⟩
def RIM_REP_STAT_LEVEL : Fld := ⟨0x8028, 0, 10⟩
def RIM_ERR_CRC_RETRY : Fld := ⟨0x8030, 32, 32⟩
def RIM_ERR_DROP : Fld := ⟨0x8030, 1, 1⟩
def RIM_ERR_NOACK : Fld := ⟨0x8030, 0, 1⟩
def RIM_SUMMARY_SEEN : Fld := ⟨0x8040, 0, 64⟩
def RIM_CODE_CNT_DROPPED : Fld := ⟨0x8100, 32, 32⟩
def RIM_CODE_CNT_COUNT : Fld := ⟨0x8100, 0, 32⟩
def HNG_STATUS_ROWS_DETOUR : Fld := ⟨0x800000, 44, 10⟩
def HNG_STATUS_ROWS_HALF : Fld := ⟨0x800000, 34, 10⟩
def HNG_STATUS_SPARES_USED : Fld := ⟨0x800000, 28, 6⟩
def HNG_STATUS_RX_ACTIVE : Fld := ⟨0x800000, 17, 11⟩
def HNG_STATUS_TX_ACTIVE : Fld := ⟨0x800000, 6, 11⟩
def HNG_STATUS_TRAINED : Fld := ⟨0x800000, 0, 1⟩
def HNG_CAL_CFG_EN : Fld := ⟨0x800008, 32, 1⟩
def HNG_CAL_CFG_ERR_LIM : Fld := ⟨0x800008, 16, 16⟩
def HNG_CAL_CFG_INTERVAL : Fld := ⟨0x800008, 0, 16⟩
def HNG_ERR_CRC : Fld := ⟨0x800010, 32, 32⟩
def HNG_ERR_TRAIN_FAIL : Fld := ⟨0x800010, 2, 1⟩
def HNG_ERR_DETOUR : Fld := ⟨0x800010, 1, 1⟩
def HNG_ERR_LANE_FAIL : Fld := ⟨0x800010, 0, 1⟩
def HNG_LANE_CAL_AGE : Fld := ⟨0x801000, 48, 16⟩
def HNG_LANE_TRAINS : Fld := ⟨0x801000, 32, 16⟩
def HNG_LANE_PARTNER : Fld := ⟨0x801000, 11, 11⟩
def HNG_LANE_RX_STATE : Fld := ⟨0x801000, 4, 3⟩
def HNG_LANE_TX_STATE : Fld := ⟨0x801000, 0, 3⟩
def HNG_SUMMARY_DETOUR : Fld := ⟨0x60000, 44, 12⟩
def HNG_SUMMARY_HALF : Fld := ⟨0x60000, 32, 12⟩
def HNG_SUMMARY_FAILED : Fld := ⟨0x60000, 20, 12⟩
def HNG_SUMMARY_SPARES_FREE : Fld := ⟨0x60000, 2, 6⟩
def HNG_SUMMARY_B_TRAINED : Fld := ⟨0x60000, 1, 1⟩
def HNG_SUMMARY_A_TRAINED : Fld := ⟨0x60000, 0, 1⟩
def FLD_BEAT_PER_PERIOD : Fld := ⟨0, 0, 24⟩
def FLD_BEAT_WIN_STRETCH : Fld := ⟨8, 32, 24⟩
def FLD_BEAT_WIN_WINDOW : Fld := ⟨8, 0, 24⟩
def FLD_BEAT_SKEW_OPEN_OFS : Fld := ⟨0x10, 32, 23⟩
def FLD_BEAT_SKEW_SKEW : Fld := ⟨0x10, 0, 16⟩
def FLD_BEAT_STAT_SEALED_NO : Fld := ⟨0x18, 32, 32⟩
def FLD_BEAT_STAT_OPEN_NO : Fld := ⟨0x18, 0, 32⟩
def FLD_BEAT_ERR_OVERRUN_CNT : Fld := ⟨0x20, 48, 16⟩
def FLD_BEAT_ERR_STRETCH_CNT : Fld := ⟨0x20, 32, 16⟩
def FLD_BEAT_ERR_CFG_CRC : Fld := ⟨0x20, 4, 1⟩
def FLD_BEAT_ERR_FREEZE_TO : Fld := ⟨0x20, 3, 1⟩
def FLD_BEAT_ERR_STRETCHED : Fld := ⟨0x20, 2, 1⟩
def FLD_BEAT_ERR_SEAL_LATE : Fld := ⟨0x20, 1, 1⟩
def FLD_BEAT_ERR_OVERRUN : Fld := ⟨0x20, 0, 1⟩
def FLD_TAIL_TIME_SEAL_AT : Fld := ⟨0x28, 32, 26⟩
def FLD_TAIL_TIME_TAIL_MAX : Fld := ⟨0x28, 0, 26⟩
def FLD_FREEZE_CFG_LIMIT : Fld := ⟨0x30, 0, 32⟩
def FLD_CFG_STAT_IMAGE_TAG : Fld := ⟨0x38, 32, 32⟩
def FLD_CFG_STAT_BANK : Fld := ⟨0x38, 30, 2⟩
def FLD_CFG_STAT_ECLOSED : Fld := ⟨0x38, 29, 1⟩
def FLD_CFG_STAT_CRC_FAIL : Fld := ⟨0x38, 14, 14⟩
def FLD_CFG_STAT_VERIFIED : Fld := ⟨0x38, 0, 14⟩
def TSQ_CFG_IMAGE_TAG : Fld := ⟨0x48, 32, 32⟩
def TSQ_CFG_EXCH_CNT : Fld := ⟨0x48, 16, 16⟩
def TSQ_CFG_BANK : Fld := ⟨0x48, 0, 2⟩
def TSQ_CFGB_CRC : Fld := ⟨0x50, 32, 32⟩
def TSQ_CFGB_VALID : Fld := ⟨0x50, 31, 1⟩
def TSQ_CFGB_BASE : Fld := ⟨0x50, 0, 9⟩
def TSQ_STALL_CNT_STALLS : Fld := ⟨0x290, 0, 48⟩
def CLU_RPL_STAT_REC1 : Fld := ⟨0x60, 16, 4⟩
def CLU_RPL_STAT_REC0 : Fld := ⟨0x60, 12, 4⟩
def CLU_RPL_STAT_SCRUB1 : Fld := ⟨0x60, 9, 1⟩
def CLU_RPL_STAT_SCRUB0 : Fld := ⟨0x60, 8, 1⟩
def CLU_RPL_STAT_TAINT1 : Fld := ⟨0x60, 7, 1⟩
def CLU_RPL_STAT_TAINT0 : Fld := ⟨0x60, 6, 1⟩
def CLU_RPL_STAT_SUSP1 : Fld := ⟨0x60, 5, 1⟩
def CLU_RPL_STAT_SUSP0 : Fld := ⟨0x60, 4, 1⟩
def CLU_RPL_STAT_CALVE_PEND : Fld := ⟨0x60, 1, 1⟩
def CLU_RPL_STAT_SERVING : Fld := ⟨0x60, 0, 1⟩
def CLU_RPL_CNT_FORCED : Fld := ⟨0x68, 48, 16⟩
def CLU_RPL_CNT_SERVED : Fld := ⟨0x68, 32, 16⟩
def CLU_RPL_CNT_DISAGREE : Fld := ⟨0x68, 16, 16⟩
def CLU_RPL_CNT_TRANSIENT : Fld := ⟨0x68, 0, 16⟩
def CLU_RPL_LOG_VALID : Fld := ⟨0x70, 63, 1⟩
def CLU_RPL_LOG_OUTCOME : Fld := ⟨0x70, 61, 2⟩
def CLU_RPL_LOG_KIND : Fld := ⟨0x70, 60, 1⟩
def CLU_RPL_LOG_TILE : Fld := ⟨0x70, 56, 4⟩
def CLU_RPL_LOG_DESC : Fld := ⟨0x70, 50, 6⟩
def CLU_RPL_LOG_BANK : Fld := ⟨0x70, 49, 1⟩
def CLU_RPL_LOG_ROW : Fld := ⟨0x70, 42, 7⟩
def CLU_RPL_LOG_GROUP : Fld := ⟨0x70, 40, 2⟩
def CLU_RPL_LOG_PASS : Fld := ⟨0x70, 36, 4⟩
def CLU_RPL_LOG_BEAT : Fld := ⟨0x70, 0, 16⟩
def FLD_RPL_CFG_MARGIN : Fld := ⟨0x400, 0, 16⟩
def FLD_RPL_STAT_TAINTED : Fld := ⟨0x408, 48, 16⟩
def FLD_RPL_STAT_SUSPECT : Fld := ⟨0x408, 32, 16⟩
def FLD_RPL_STAT_RECORDS : Fld := ⟨0x408, 0, 32⟩
def FLD_CALVE_STAT_CALVED : Fld := ⟨0x410, 48, 16⟩
def FLD_CALVE_STAT_PCY : Fld := ⟨0x410, 35, 5⟩
def FLD_CALVE_STAT_PCX : Fld := ⟨0x410, 30, 5⟩
def FLD_CALVE_STAT_PHASE : Fld := ⟨0x410, 24, 3⟩
def FLD_CALVE_STAT_WAY : Fld := ⟨0x410, 16, 2⟩
def FLD_CALVE_STAT_SEQ : Fld := ⟨0x410, 0, 16⟩
def LAT_REPEAT_CNT_FAILED : Fld := ⟨0x1080, 32, 32⟩
def LAT_REPEAT_CNT_REPEATS : Fld := ⟨0x1080, 0, 32⟩
def LAT_STEAL_CNT_STOLEN : Fld := ⟨0x1088, 0, 48⟩
def FRN_STATUS_FULL_CNT : Fld := ⟨0x100000, 32, 32⟩
def FRN_STATUS_OUTSTANDING : Fld := ⟨0x100000, 16, 13⟩
def FRN_STATUS_PPR_USED : Fld := ⟨0x100000, 8, 8⟩
def FRN_STATUS_STATE : Fld := ⟨0x100000, 0, 2⟩
def FRN_ECC_CNT_UNCORR : Fld := ⟨0x100008, 32, 32⟩
def FRN_ECC_CNT_CORR : Fld := ⟨0x100008, 0, 32⟩
def FRN_ECC_LOG_VALID : Fld := ⟨0x100010, 63, 1⟩
def FRN_ECC_LOG_KIND : Fld := ⟨0x100010, 62, 1⟩
def FRN_ECC_LOG_ADDR : Fld := ⟨0x100010, 0, 41⟩
def FRN_CFG_CORR_LIM : Fld := ⟨0x100018, 16, 32⟩
def FRN_CFG_PATROL_H : Fld := ⟨0x100018, 0, 8⟩
def FRN_BW_CNT_WRITES : Fld := ⟨0x100020, 32, 32⟩
def FRN_BW_CNT_READS : Fld := ⟨0x100020, 0, 32⟩
def FRN_WIN_BASE : Fld := ⟨0x108000, 0, 7⟩
def FRN_STR_PEND_PEND : Fld := ⟨0x108100, 0, 64⟩
def STR_CFG_EN : Fld := ⟨0x1000000, 63, 1⟩
def STR_CFG_KIND : Fld := ⟨0x1000000, 59, 3⟩
def STR_CFG_MODE : Fld := ⟨0x1000000, 58, 1⟩
def STR_CFG_ANCHOR : Fld := ⟨0x1000000, 36, 12⟩
def STR_CFG_BANKROWS : Fld := ⟨0x1000000, 17, 13⟩
def STR_CFG_BUFBASE : Fld := ⟨0x1000000, 0, 17⟩
def STR_FIRN_COUNT : Fld := ⟨0x1000008, 44, 20⟩
def STR_FIRN_ADDR : Fld := ⟨0x1000008, 0, 41⟩
def STR_TILE_SRCQ : Fld := ⟨0x1000010, 43, 3⟩
def STR_TILE_TAG : Fld := ⟨0x1000010, 28, 15⟩
def STR_TILE_PORT : Fld := ⟨0x1000010, 23, 4⟩
def STR_TILE_DEST : Fld := ⟨0x1000010, 0, 23⟩
def STR_SCHED_STRIDE : Fld := ⟨0x1000018, 48, 16⟩
def STR_SCHED_TIMEOUT : Fld := ⟨0x1000018, 32, 16⟩
def STR_SCHED_DEADLINE : Fld := ⟨0x1000018, 0, 26⟩
def STR_LEVEL_POS : Fld := ⟨0x1000020, 32, 20⟩
def STR_LEVEL_STATE : Fld := ⟨0x1000020, 20, 3⟩
def STR_LEVEL_CFULL : Fld := ⟨0x1000020, 19, 1⟩
def STR_LEVEL_PBANK : Fld := ⟨0x1000020, 18, 1⟩
def STR_LEVEL_LEVEL : Fld := ⟨0x1000020, 0, 18⟩
def STR_WMARK_LO_CROSS : Fld := ⟨0x1000028, 56, 8⟩
def STR_WMARK_HI_CROSS : Fld := ⟨0x1000028, 48, 8⟩
def STR_WMARK_LO_SEEN : Fld := ⟨0x1000028, 37, 1⟩
def STR_WMARK_HI_SEEN : Fld := ⟨0x1000028, 36, 1⟩
def STR_WMARK_LO : Fld := ⟨0x1000028, 18, 18⟩
def STR_WMARK_HI : Fld := ⟨0x1000028, 0, 18⟩
def STR_STAT_FLUSHES : Fld := ⟨0x1000030, 48, 16⟩
def STR_STAT_MISSES : Fld := ⟨0x1000030, 32, 16⟩
def STR_STAT_PTR_RESETS : Fld := ⟨0x1000030, 16, 16⟩
def STR_STAT_DL_MISS : Fld := ⟨0x1000030, 3, 1⟩
def STR_STAT_FLUSHED : Fld := ⟨0x1000030, 2, 1⟩
def STR_STAT_PTR : Fld := ⟨0x1000030, 1, 1⟩
def STR_STAT_POISON : Fld := ⟨0x1000030, 0, 1⟩
def STR_ENERGY_PJ : Fld := ⟨0x1000038, 0, 64⟩
def FAB_STATUS_LINKUPS : Fld := ⟨0x800000, 32, 16⟩
def FAB_STATUS_LANES_OK : Fld := ⟨0x800000, 16, 8⟩
def FAB_STATUS_MACSEC_ON : Fld := ⟨0x800000, 11, 1⟩
def FAB_STATUS_HB_LIVE : Fld := ⟨0x800000, 10, 1⟩
def FAB_STATUS_TICK_LOCK : Fld := ⟨0x800000, 9, 1⟩
def FAB_STATUS_STATE : Fld := ⟨0x800000, 0, 3⟩
def FAB_CFG_EN : Fld := ⟨0x800008, 63, 1⟩
def FAB_CFG_TICK_OUT : Fld := ⟨0x800008, 62, 1⟩
def FAB_CFG_VLAN_EN : Fld := ⟨0x800008, 61, 1⟩
def FAB_CFG_PCP : Fld := ⟨0x800008, 58, 3⟩
def FAB_CFG_VID : Fld := ⟨0x800008, 46, 12⟩
def FAB_CFG_RTO : Fld := ⟨0x800008, 16, 16⟩
def FAB_CFG_ECHO_LIM : Fld := ⟨0x800008, 8, 8⟩
def FAB_ERR_PN_HIGH : Fld := ⟨0x800010, 6, 1⟩
def FAB_ERR_CHAN_REF : Fld := ⟨0x800010, 5, 1⟩
def FAB_ERR_STALE : Fld := ⟨0x800010, 4, 1⟩
def FAB_ERR_ICV : Fld := ⟨0x800010, 3, 1⟩
def FAB_ERR_RETX_EXH : Fld := ⟨0x800010, 2, 1⟩
def FAB_ERR_ECHO_LATE : Fld := ⟨0x800010, 1, 1⟩
def FAB_ERR_LINK_LOST : Fld := ⟨0x800010, 0, 1⟩
def FAB_HB_RTT_MAX : Fld := ⟨0x800018, 48, 16⟩
def FAB_HB_RTT : Fld := ⟨0x800018, 32, 16⟩
def FAB_HB_MISSED : Fld := ⟨0x800018, 16, 16⟩
def FAB_HB_LATE : Fld := ⟨0x800018, 0, 16⟩
def FAB_CNT_TX : Fld := ⟨0x800020, 32, 32⟩
def FAB_CNT_RX : Fld := ⟨0x800020, 0, 32⟩
def FAB_DL_CNT_RETX : Fld := ⟨0x800028, 48, 16⟩
def FAB_DL_CNT_ABANDONED : Fld := ⟨0x800028, 32, 16⟩
def FAB_DL_CNT_STALE : Fld := ⟨0x800028, 16, 16⟩
def FAB_DL_CNT_DROP : Fld := ⟨0x800028, 0, 16⟩
def FAB_MACSEC_EN : Fld := ⟨0x800030, 63, 1⟩
def FAB_MACSEC_XPN : Fld := ⟨0x800030, 62, 1⟩
def FAB_MACSEC_TX_AN : Fld := ⟨0x800030, 60, 2⟩
def FAB_MACSEC_RX_AN : Fld := ⟨0x800030, 56, 4⟩
def FAB_MACSEC_ICV_FAIL : Fld := ⟨0x800030, 32, 16⟩
def FAB_MACSEC_PN_TOP : Fld := ⟨0x800030, 0, 32⟩
def FAB_MAC_ADDR : Fld := ⟨0x800038, 0, 48⟩
def FAB_KEY_KEY : Fld := ⟨0x800040, 0, 64⟩
def FAB_FOREIGN_OTHER_TYPE : Fld := ⟨0x800300, 32, 32⟩
def FAB_FOREIGN_OTHER_DEST : Fld := ⟨0x800300, 0, 32⟩
def FAB_PEER_ID : Fld := ⟨0x800100, 48, 16⟩
def FAB_PEER_MAC : Fld := ⟨0x800100, 0, 48⟩
def FAB_CHAN_EN : Fld := ⟨0x801000, 63, 1⟩
def FAB_CHAN_DIR : Fld := ⟨0x801000, 62, 1⟩
def FAB_CHAN_PEER : Fld := ⟨0x801000, 56, 6⟩
def FAB_CHAN_RCHAN : Fld := ⟨0x801000, 46, 10⟩
def FAB_CHAN_STREAM : Fld := ⟨0x801000, 30, 16⟩
def FAB_CHAN_CREDITS : Fld := ⟨0x801000, 0, 14⟩
def FAB_DOM_EPOCH : Fld := ⟨0x808000, 48, 16⟩
def FAB_DOM_TICKPORT : Fld := ⟨0x808000, 45, 3⟩
def FAB_DOM_JOINED : Fld := ⟨0x808000, 44, 1⟩
def FAB_DOM_PHASE : Fld := ⟨0x808000, 40, 4⟩
def FAB_DOM_NSECTM1 : Fld := ⟨0x808000, 34, 6⟩
def FAB_DOM_NROWM1 : Fld := ⟨0x808000, 29, 5⟩
def FAB_DOM_NSLOTM1 : Fld := ⟨0x808000, 24, 5⟩
def FAB_DOM_ID : Fld := ⟨0x808000, 0, 16⟩
def FAB_DOM_CFG_ETYPE : Fld := ⟨0x808008, 48, 16⟩
def FAB_DOM_CFG_CPORT : Fld := ⟨0x808008, 6, 5⟩
def FAB_DOM_CFG_CENTRY : Fld := ⟨0x808008, 0, 6⟩
def FAB_STEP_STATE : Fld := ⟨0x808010, 48, 2⟩
def FAB_STEP_ID : Fld := ⟨0x808010, 0, 48⟩
def FAB_POLICY_STEP_BEATS : Fld := ⟨0x808018, 40, 24⟩
def FAB_POLICY_REPLICA : Fld := ⟨0x808018, 24, 16⟩
def FAB_POLICY_VOTE_TO : Fld := ⟨0x808018, 8, 16⟩
def FAB_POLICY_SCRATCH : Fld := ⟨0x808018, 0, 1⟩
def FAB_COMMITTED_ID : Fld := ⟨0x808020, 0, 48⟩
def FAB_TICK_DELAY : Fld := ⟨0x808028, 48, 16⟩
def FAB_TICK_DEPTH : Fld := ⟨0x808028, 40, 8⟩
def FAB_TICK_MISSED : Fld := ⟨0x808028, 32, 8⟩
def FAB_TICK_BEAT : Fld := ⟨0x808028, 0, 32⟩
def PWR_STATUS_DRAW : Fld := ⟨0x30000, 48, 16⟩
def PWR_STATUS_VIN : Fld := ⟨0x30000, 40, 8⟩
def PWR_STATUS_STATE : Fld := ⟨0x30000, 29, 3⟩
def PWR_STATUS_CURTAILED : Fld := ⟨0x30000, 28, 1⟩
def PWR_STATUS_FLOOR_ON : Fld := ⟨0x30000, 27, 1⟩
def PWR_STATUS_RAMP_LIMITED : Fld := ⟨0x30000, 26, 1⟩
def PWR_STATUS_CAP_UNMET : Fld := ⟨0x30000, 25, 1⟩
def PWR_STATUS_THROTTLING : Fld := ⟨0x30000, 24, 1⟩
def PWR_CAP_CURTAIL_CAP : Fld := ⟨0x30008, 48, 8⟩
def PWR_CAP_PRIO : Fld := ⟨0x30008, 42, 3⟩
def PWR_CAP_FREQ : Fld := ⟨0x30008, 28, 12⟩
def PWR_CAP_WING_CAP : Fld := ⟨0x30008, 16, 8⟩
def PWR_CAP_CAP : Fld := ⟨0x30008, 0, 8⟩
def PWR_RAMP_DOWN : Fld := ⟨0x30010, 16, 16⟩
def PWR_RAMP_UP : Fld := ⟨0x30010, 0, 16⟩
def PWR_FLOOR_NOW : Fld := ⟨0x30018, 16, 8⟩
def PWR_FLOOR_TRACK : Fld := ⟨0x30018, 8, 1⟩
def PWR_FLOOR_KW : Fld := ⟨0x30018, 0, 8⟩
def PWR_ACT_CEIL : Fld := ⟨0x30020, 48, 8⟩
def PWR_ACT_F_LINK : Fld := ⟨0x30020, 16, 6⟩
def PWR_ACT_F_MEM : Fld := ⟨0x30020, 8, 6⟩
def PWR_ACT_F_COMP : Fld := ⟨0x30020, 0, 6⟩
def PWR_DVFS_FREQ_NOW : Fld := ⟨0x30028, 32, 12⟩
def PWR_DVFS_VCODE : Fld := ⟨0x30028, 20, 4⟩
def PWR_DVFS_BUSY : Fld := ⟨0x30028, 19, 1⟩
def PWR_DVFS_F_MIN : Fld := ⟨0x30028, 0, 12⟩
def PWR_DIN_FRZ_CHATTER : Fld := ⟨0x30030, 48, 16⟩
def PWR_DIN_CUR_CHATTER : Fld := ⟨0x30030, 32, 16⟩
def PWR_DIN_FRZ_RAW : Fld := ⟨0x30030, 3, 1⟩
def PWR_DIN_CUR_RAW : Fld := ⟨0x30030, 2, 1⟩
def PWR_DIN_FRZ_ACT : Fld := ⟨0x30030, 1, 1⟩
def PWR_DIN_CUR_ACT : Fld := ⟨0x30030, 0, 1⟩
def PWR_HOLD_E_COUL : Fld := ⟨0x30038, 52, 12⟩
def PWR_HOLD_E_VOLT : Fld := ⟨0x30038, 40, 12⟩
def PWR_HOLD_E_GOV : Fld := ⟨0x30038, 28, 12⟩
def PWR_HOLD_RIDE_MS : Fld := ⟨0x30038, 22, 6⟩
def PWR_HOLD_RIDE_EN : Fld := ⟨0x30038, 21, 1⟩
def PWR_HOLD_GAUGE_FAULT : Fld := ⟨0x30038, 20, 1⟩
def PWR_HOLD_RECAL_PEND : Fld := ⟨0x30038, 19, 1⟩
def PWR_HOLD_CHARGING : Fld := ⟨0x30038, 18, 1⟩
def PWR_HOLD_RESERVE : Fld := ⟨0x30038, 0, 12⟩
def PWR_ENERGY_UJ : Fld := ⟨0x30040, 0, 64⟩
def PWR_ERR_REFUSED : Fld := ⟨0x30070, 7, 1⟩
def PWR_ERR_CAP_UNMET : Fld := ⟨0x30070, 6, 1⟩
def PWR_ERR_STOPPED : Fld := ⟨0x30070, 5, 1⟩
def PWR_ERR_INPUT_LOST : Fld := ⟨0x30070, 4, 1⟩
def PWR_ERR_HELD : Fld := ⟨0x30070, 3, 1⟩
def PWR_ERR_GAUGE : Fld := ⟨0x30070, 2, 1⟩
def PWR_ERR_THROTTLE : Fld := ⟨0x30070, 1, 1⟩
def PWR_ERR_DROOP : Fld := ⟨0x30070, 0, 1⟩
def THM_COOL_FLOW : Fld := ⟨0x40000, 48, 16⟩
def THM_COOL_OUTLET : Fld := ⟨0x40000, 32, 16⟩
def THM_COOL_INLET : Fld := ⟨0x40000, 16, 16⟩
def THM_LIMITS_OUT_TARGET : Fld := ⟨0x40008, 48, 8⟩
def THM_LIMITS_THROTTLE : Fld := ⟨0x40008, 40, 8⟩
def THM_LIMITS_ALERT : Fld := ⟨0x40008, 32, 8⟩
def THM_LIMITS_TRIP : Fld := ⟨0x40008, 24, 8⟩
def THM_LIMITS_FLOW_MIN : Fld := ⟨0x40008, 16, 8⟩
def THM_DEMAND_FORCE : Fld := ⟨0x40010, 31, 1⟩
def THM_DEMAND_FORCE_DUTY : Fld := ⟨0x40010, 24, 7⟩
def THM_DEMAND_HELD : Fld := ⟨0x40010, 23, 1⟩
def THM_DEMAND_DUTY : Fld := ⟨0x40010, 0, 7⟩
def THM_WAFER_HOT_FIELD : Fld := ⟨0x40018, 40, 8⟩
def THM_WAFER_B_MAX : Fld := ⟨0x40018, 16, 16⟩
def THM_WAFER_A_MAX : Fld := ⟨0x40018, 0, 16⟩
def THM_ERR_COOLANT : Fld := ⟨0x40040, 2, 1⟩
def THM_ERR_TRIP : Fld := ⟨0x40040, 1, 1⟩
def THM_ERR_ALERT : Fld := ⟨0x40040, 0, 1⟩
def THM_FIELD_MAX : Fld := ⟨0x40100, 16, 16⟩
def THM_FIELD_NOW : Fld := ⟨0x40100, 0, 16⟩
def FLD_PWR_CFG_DIDT : Fld := ⟨0x600, 32, 16⟩
def FLD_PWR_CFG_DROOP_MV : Fld := ⟨0x600, 16, 8⟩
def FLD_PWR_CFG_HOLD_TC : Fld := ⟨0x600, 0, 8⟩
def FLD_PWR_STAT_DROOP_CNT : Fld := ⟨0x608, 48, 16⟩
def FLD_PWR_STAT_DIDT_CNT : Fld := ⟨0x608, 32, 16⟩
def FLD_PWR_STAT_POWER : Fld := ⟨0x608, 0, 16⟩
def FLD_ENERGY_UJ : Fld := ⟨0x610, 0, 64⟩
def CLK_STATUS_ACT : Fld := ⟨0x20000, 35, 5⟩
def CLK_STATUS_QUALIFIED : Fld := ⟨0x20000, 30, 5⟩
def CLK_STATUS_NOREF : Fld := ⟨0x20000, 23, 1⟩
def CLK_STATUS_SAFE : Fld := ⟨0x20000, 22, 1⟩
def CLK_STATUS_LOCK_B : Fld := ⟨0x20000, 21, 1⟩
def CLK_STATUS_LOCK_A : Fld := ⟨0x20000, 20, 1⟩
def CLK_STATUS_HOLD_B : Fld := ⟨0x20000, 19, 1⟩
def CLK_STATUS_HOLD_A : Fld := ⟨0x20000, 18, 1⟩
def CLK_STATUS_MUX : Fld := ⟨0x20000, 10, 3⟩
def CLK_STATUS_PEND_SRC : Fld := ⟨0x20000, 4, 3⟩
def CLK_STATUS_CUR_SRC : Fld := ⟨0x20000, 0, 3⟩
def CLK_REF_CFG_AUTO_RETURN : Fld := ⟨0x20008, 7, 1⟩
def CLK_REF_CFG_FALLBACK : Fld := ⟨0x20008, 4, 3⟩
def CLK_REF_CFG_PREF : Fld := ⟨0x20008, 0, 3⟩
def CLK_QUAL_MS : Fld := ⟨0x20010, 0, 60⟩
def CLK_MUX_FORCE : Fld := ⟨0x20018, 63, 1⟩
def CLK_MUX_LAST_FORCE : Fld := ⟨0x20018, 56, 2⟩
def CLK_MUX_WAIT_NS : Fld := ⟨0x20018, 0, 32⟩
def CLK_EVT_SWITCHES : Fld := ⟨0x20020, 48, 16⟩
def CLK_EVT_LOSSES : Fld := ⟨0x20020, 32, 16⟩
def CLK_EVT_HANGS : Fld := ⟨0x20020, 16, 16⟩
def CLK_EVT_TIMEOUTS : Fld := ⟨0x20020, 0, 16⟩
def CLK_ERR_CODE : Fld := ⟨0x20028, 0, 7⟩
def CLK_MON_EN : Fld := ⟨0x20030, 15, 1⟩
def CLK_MON_SEL : Fld := ⟨0x20030, 12, 3⟩
def CLK_MON_N_EFF : Fld := ⟨0x20030, 8, 4⟩
def CLK_MON_DIV : Fld := ⟨0x20030, 0, 4⟩
def WNG_PLL_RELOCKS : Fld := ⟨0x100, 48, 16⟩
def WNG_PLL_PHASE_PS : Fld := ⟨0x100, 32, 16⟩
def WNG_PLL_FREQ_MHZ : Fld := ⟨0x100, 20, 12⟩
def WNG_PLL_HOLD : Fld := ⟨0x100, 1, 1⟩
def WNG_PLL_LOCK : Fld := ⟨0x100, 0, 1⟩
def WNG_FWD_MAX_SKEW_PS : Fld := ⟨0x108, 48, 16⟩
def WNG_FWD_AT_LIMIT : Fld := ⟨0x108, 32, 16⟩
def WNG_FWD_EN : Fld := ⟨0x108, 16, 1⟩
def WNG_FWD_INTERVAL : Fld := ⟨0x108, 0, 16⟩
def MGT_CLK_EN_SIG : Fld := ⟨0x70100, 6, 1⟩
def MGT_CLK_EN_CLKMON : Fld := ⟨0x70100, 5, 1⟩
def MGT_CLK_EN_UART : Fld := ⟨0x70100, 4, 1⟩
def MGT_CLK_EN_TIMER : Fld := ⟨0x70100, 3, 1⟩
def MGT_CLK_EN_I3C : Fld := ⟨0x70100, 2, 1⟩
def MGT_CLK_EN_ETH : Fld := ⟨0x70100, 1, 1⟩
def MGT_CLK_EN_NVS : Fld := ⟨0x70100, 0, 1⟩
def MGT_CLK_ON_ON : Fld := ⟨0x70108, 0, 7⟩
def MBX_MIRROR_OPSEC : Fld := ⟨0x4000, 32, 32⟩
def MBX_MIRROR_HEART : Fld := ⟨0x4000, 24, 8⟩
def MBX_MIRROR_LAST_CODE : Fld := ⟨0x4000, 16, 8⟩
def MBX_MIRROR_PHASE : Fld := ⟨0x4000, 12, 4⟩
def MBX_MIRROR_DEGRADED : Fld := ⟨0x4000, 11, 1⟩
def MBX_MIRROR_CAL_USER : Fld := ⟨0x4000, 10, 1⟩
def MBX_MIRROR_JITOR_UP : Fld := ⟨0x4000, 9, 1⟩
def MBX_MIRROR_STEWARD_RESET : Fld := ⟨0x4000, 8, 1⟩
def MBX_MIRROR_STATE : Fld := ⟨0x4000, 0, 4⟩
def MBX_MIRROR_STEP_STATE : Fld := ⟨0x4008, 48, 2⟩
def MBX_MIRROR_STEP_ID : Fld := ⟨0x4008, 0, 48⟩
def MBX_MIRROR_DRAW : Fld := ⟨0x4010, 48, 16⟩
def MBX_MIRROR_HOT : Fld := ⟨0x4010, 32, 16⟩
def MBX_MIRROR_OUTLET : Fld := ⟨0x4010, 16, 16⟩
def MBX_MIRROR_GAUGE_FAULT : Fld := ⟨0x4010, 7, 1⟩
def MBX_MIRROR_CURTAILED : Fld := ⟨0x4010, 6, 1⟩
def MBX_MIRROR_FRZ_PIN : Fld := ⟨0x4010, 5, 1⟩
def MBX_MIRROR_THROTTLING : Fld := ⟨0x4010, 4, 1⟩
def MBX_MIRROR_ALERT : Fld := ⟨0x4010, 3, 1⟩
def MBX_MIRROR_TICK_LOCK : Fld := ⟨0x4010, 2, 1⟩
def MBX_MIRROR_JOINED : Fld := ⟨0x4010, 1, 1⟩
def MBX_MIRROR_HINGE : Fld := ⟨0x4010, 0, 1⟩
def MBX_DOORBELL_RING : Fld := ⟨0x1000, 0, 32⟩
def MBX_BUSY_BUSY : Fld := ⟨0x1008, 0, 32⟩
def MBX_DONE_DONE : Fld := ⟨0x1010, 0, 32⟩
def MBX_STAT_IGNORED : Fld := ⟨0x1018, 48, 16⟩
def MBX_STAT_BLOCKED : Fld := ⟨0x1018, 32, 16⟩
def MBX_STAT_ABANDONED : Fld := ⟨0x1018, 16, 16⟩
def NVS_STATUS_SEQ : Fld := ⟨0x50000, 32, 32⟩
def NVS_STATUS_STORING : Fld := ⟨0x50000, 31, 1⟩
def NVS_STATUS_CUR : Fld := ⟨0x50000, 30, 1⟩
def NVS_STATUS_B_VALID : Fld := ⟨0x50000, 29, 1⟩
def NVS_STATUS_A_VALID : Fld := ⟨0x50000, 28, 1⟩
def NVS_WEAR_STORES : Fld := ⟨0x50008, 32, 32⟩
def NVS_WEAR_CAL_WRITES : Fld := ⟨0x50008, 16, 16⟩
def NVS_WEAR_FW_WRITES : Fld := ⟨0x50008, 0, 16⟩
def NVS_CAL_CAL_CRC : Fld := ⟨0x50010, 32, 32⟩
def NVS_CAL_CAL_SEQ : Fld := ⟨0x50010, 16, 16⟩
def NVS_CAL_EXPORTED : Fld := ⟨0x50010, 1, 1⟩
def NVS_CAL_USER : Fld := ⟨0x50010, 0, 1⟩
def MGT_RESET_STEWARD : Fld := ⟨0x70000, 63, 1⟩
def MGT_RESET_CAUSE : Fld := ⟨0x70000, 8, 8⟩
def MGT_RESET_COUNT : Fld := ⟨0x70000, 0, 8⟩
def MGT_OPSEC_SECONDS : Fld := ⟨0x70008, 0, 32⟩
def EVC_CFG_SPLIT : Fld := ⟨0x10000, 0, 3⟩
def EVC_STAT_SPURIOUS : Fld := ⟨0x10008, 48, 16⟩
def EVC_STAT_BAD_COMPLETE : Fld := ⟨0x10008, 32, 16⟩
def EVC_STAT_FALLBACK_WAKES : Fld := ⟨0x10008, 16, 16⟩
def EVC_STAT_ABSORBED : Fld := ⟨0x10008, 0, 16⟩
def EVC_SWSET_ID : Fld := ⟨0x10010, 0, 10⟩
def EVC_PEND_PEND : Fld := ⟨0x10100, 0, 64⟩
def EVC_INSVC_INSVC : Fld := ⟨0x10180, 0, 64⟩
def EVC_HOLD_REMAIN : Fld := ⟨0x10200, 16, 16⟩
def EVC_HOLD_HOLD_US : Fld := ⟨0x10200, 0, 16⟩
def EVC_CORE_CTL_FLUSH : Fld := ⟨0x10400, 16, 1⟩
def EVC_CORE_CTL_MASK : Fld := ⟨0x10400, 8, 1⟩
def EVC_CORE_CTL_THRESH : Fld := ⟨0x10400, 0, 8⟩
def EVC_CLAIM_ID : Fld := ⟨0x10408, 0, 10⟩
def EVC_COMPLETE_ID : Fld := ⟨0x10410, 0, 10⟩
def EVC_CORE_STAT_WAKE_FB : Fld := ⟨0x10418, 33, 1⟩
def EVC_CORE_STAT_SLEEP : Fld := ⟨0x10418, 32, 1⟩
def EVC_CORE_STAT_RUN_GROUP : Fld := ⟨0x10418, 24, 8⟩
def EVC_CORE_STAT_DEPTH : Fld := ⟨0x10418, 16, 5⟩
def EVC_CORE_STAT_TOP : Fld := ⟨0x10418, 0, 10⟩
def EVC_SRC_EN : Fld := ⟨0x12000, 63, 1⟩
def EVC_SRC_MODE : Fld := ⟨0x12000, 62, 1⟩
def EVC_SRC_TGT : Fld := ⟨0x12000, 58, 4⟩
def EVC_SRC_HOST : Fld := ⟨0x12000, 57, 1⟩
def EVC_SRC_FUNC : Fld := ⟨0x12000, 56, 1⟩
def EVC_SRC_VEC : Fld := ⟨0x12000, 45, 11⟩
def EVC_SRC_PRIO : Fld := ⟨0x12000, 0, 8⟩
def EVC_SRC_STAT_LAST_CODE : Fld := ⟨0x14000, 16, 8⟩
def EVC_SRC_STAT_ARR : Fld := ⟨0x14000, 8, 8⟩
def EVC_SRC_STAT_CORE : Fld := ⟨0x14000, 4, 2⟩
def EVC_SRC_STAT_INSVC : Fld := ⟨0x14000, 3, 1⟩
def EVC_SRC_STAT_INPUT : Fld := ⟨0x14000, 2, 1⟩
def EVC_SRC_STAT_PEND : Fld := ⟨0x14000, 1, 1⟩
def FLD_ST_STAT_DURATION : Fld := ⟨0x700, 48, 16⟩
def FLD_ST_STAT_FAILED : Fld := ⟨0x700, 32, 10⟩
def FLD_ST_STAT_PASSED : Fld := ⟨0x700, 12, 10⟩
def FLD_ST_STAT_RUNS : Fld := ⟨0x700, 0, 8⟩

end F

end Sys2Proof.Machine
end

