-- ==== Sys2Proof/Machine/RegTable.lean ====
section
/-! DEFINITION. The register maps of the spec as tables (R9, R11, R28, R29): one row per register with its offset,
the spacing and number of its copies, the mask of each access code and the reset value. Fields whose Reset column
says NVS hold zero here (R11: zero until the start-up load completes). -/

namespace Sys2Proof.Machine

/-- One register of a map. `rw`, `ro`, `wo`, `w1c`, `rc` are the masks of its fields of each access code
(Table 00.4); `rst` is its reset value. -/
structure RegDef where
  name : String
  off : Nat
  stride : Nat
  count : Nat
  rw : Nat
  ro : Nat
  wo : Nat
  w1c : Nat
  rc : Nat
  rst : Nat
  deriving DecidableEq, Repr

def tsqRegs : List RegDef := [
  ⟨"TSQ.ID", 0, 8, 1, 0, 0xFFFFFC00F, 0, 0, 0, 0⟩,
  ⟨"TSQ.STATUS", 8, 8, 1, 0, 0xFFFFFF00C7, 0, 0, 0xFFFF000000000000, 0⟩,
  ⟨"TSQ.BEAT", 0x10, 8, 1, 0, 0xFFFFFFFF0007, 0, 0, 0, 0⟩,
  ⟨"TSQ.BEATCFG", 0x18, 8, 1, 0xFFFF, 0, 0, 0, 0, 0⟩,
  ⟨"TSQ.PP", 0x20, 8, 1, 0x1FFF, 0, 0, 0, 0, 0⟩,
  ⟨"TSQ.IFILL", 0x28, 8, 1, 0x3C00FFFF, 0xFFFFFFFF80000000, 0x40000000, 0, 0, 0⟩,
  ⟨"TSQ.IB_ADDR", 0x30, 8, 1, 0x1FF, 0, 0, 0, 0, 0⟩,
  ⟨"TSQ.IB_DATA", 0x38, 8, 1, 0xFFFFFFFFFFFFFFFF, 0, 0, 0, 0, 0⟩,
  ⟨"TSQ.ERR", 0x40, 8, 1, 0, 0, 0, 0x1FF, 0, 0⟩,
  ⟨"TSQ.CTX_CTL", 0x80, 8, 8, 0x1FF, 0, 0x80000000, 0, 0, 0⟩,
  ⟨"TSQ.CTX_STATE", 0xC0, 8, 8, 0, 0xFFFFFF07FF, 0, 0, 0, 0⟩,
  ⟨"TSQ.CTR", 0x100, 8, 16, 0x78FFFFFFFF, 0, 0, 0x8000000000, 0, 0⟩,
  ⟨"TSQ.CTR_SRC", 0x180, 8, 16, 0x631F0FFF, 0x80000000, 0, 0, 0, 0⟩,
  ⟨"TSQ.QCFG", 0x200, 8, 8, 0x81FF00FF, 0, 0, 0, 0, 0⟩,
  ⟨"TSQ.QSTAT", 0x240, 8, 8, 0, 0xFFFF01FF01FF, 0, 0, 0xFFFF000000000000, 0⟩,
  ⟨"TSQ.ISSUE_CNT", 0x280, 8, 1, 0, 0, 0, 0, 0xFFFFFFFFFFFF, 0⟩,
  ⟨"TSQ.EMPTY_CNT", 0x288, 8, 1, 0, 0, 0, 0, 0xFFFFFFFFFFFF, 0⟩,
  ⟨"TSQ.GPOI", 0x300, 8, 8, 0xFFFF, 0, 0, 0, 0, 0⟩,
  ⟨"TSQ.GREG", 0x400, 8, 128, 0xFFFFFFFFFFFFFFFF, 0, 0, 0, 0, 0⟩,
  ⟨"TSQ.CFG", 0x48, 8, 1, 0, 0xFFFFFFFFFFFF0003, 0, 0, 0, 0⟩,
  ⟨"TSQ.CFGB", 0x50, 8, 4, 0, 0xFFFFFFFF800001FF, 0, 0, 0, 0⟩,
  ⟨"TSQ.STALL_CNT", 0x290, 8, 7, 0, 0, 0, 0, 0xFFFFFFFFFFFF, 0⟩]

def latRegs : List RegDef := [
  ⟨"LAT.STATUS", 0x1000, 8, 1, 0, 0xFFFFE0, 0, 0, 0, 0xC00000⟩,
  ⟨"LAT.RAMP", 0x1008, 8, 1, 0xFFFF, 0xFFFF0000, 0, 0, 0, 0x1000⟩,
  ⟨"LAT.TALLY_LOG", 0x1010, 8, 1, 0, 0x7FFFFC0000000000, 0, 0x8000000000000000, 0, 0⟩,
  ⟨"LAT.TALLY_CNT", 0x1018, 8, 1, 0, 0, 0, 0, 0xFFFFFFFFFFFFFFFF, 0⟩,
  ⟨"LAT.TALLY_TEST", 0x1020, 8, 1, 0, 0, 3, 0, 0, 0⟩,
  ⟨"LAT.ERR", 0x1028, 8, 1, 0, 0, 0, 0x3F, 0, 0⟩,
  ⟨"LAT.ARRAY_CNT", 0x1030, 8, 1, 0, 0, 0, 0, 0xFFFFFFFFFFFF, 0⟩,
  ⟨"LAT.BUBBLE_CNT", 0x1038, 8, 1, 0, 0, 0, 0, 0xFFFFFFFFFFFFFFFF, 0⟩,
  ⟨"LAT.FEED_CNT", 0x1040, 8, 1, 0, 0, 0, 0, 0xFFFFFFFFFFFF, 0⟩,
  ⟨"LAT.FLOOR_CNT", 0x1048, 8, 1, 0, 0, 0, 0, 0xFFFFFFFFFFFF, 0⟩,
  ⟨"LAT.TRN_CNT", 0x1050, 8, 1, 0, 0, 0, 0, 0xFFFFFFFF, 0⟩,
  ⟨"LAT.DESC_LO", 0x1400, 0x10, 64, 0x1FFF0FFFFFFF, 0x20000000, 0, 0, 0, 0x20000000⟩,
  ⟨"LAT.DESC_HI", 0x1408, 0x10, 64, 0x1FFF, 0, 0, 0, 0, 0⟩,
  ⟨"LAT.SR_SEED", 0x1058, 8, 1, 0xFFFFFFFF, 0, 0, 0, 0, 0⟩,
  ⟨"LAT.SR_CNT", 0x1060, 8, 1, 0xFFFFF, 0, 0, 0, 0, 0⟩,
  ⟨"LAT.FPX", 0x1068, 8, 1, 0, 0, 0, 0x1FF, 0, 0⟩,
  ⟨"LAT.CVT_CNT", 0x1070, 8, 1, 0, 0, 0, 0, 0xFFFFFFFFFFFFFFFF, 0⟩,
  ⟨"LAT.NONFIN_CNT", 0x1078, 8, 1, 0, 0, 0, 0, 0xFFFFFFFFFFFF, 0⟩,
  ⟨"LAT.REPEAT_CNT", 0x1080, 8, 1, 0, 0, 0, 0, 0xFFFFFFFFFFFFFFFF, 0⟩,
  ⟨"LAT.STEAL_CNT", 0x1088, 8, 1, 0, 0, 0, 0, 0xFFFFFFFFFFFF, 0⟩]

def spuRegs : List RegDef := [
  ⟨"SPU.STATUS", 0x2000, 8, 1, 0, 0xFFFD, 0, 0, 0, 0⟩,
  ⟨"SPU.ERR", 0x2008, 8, 1, 0, 0, 0, 0x1F, 0, 0⟩,
  ⟨"SPU.LAST", 0x2010, 8, 1, 0, 0x7F1FFF1FFF, 0, 0, 0, 0⟩,
  ⟨"SPU.SEL_THR", 0x2018, 8, 1, 0xFFFFFFFF, 0, 0, 0, 0, 0⟩,
  ⟨"SPU.VSEED", 0x2020, 8, 1, 0xFFFFFFFF, 0, 0, 0, 0, 0⟩,
  ⟨"SPU.VCNT", 0x2028, 8, 1, 0xFFFFF, 0, 0, 0, 0, 0⟩,
  ⟨"SPU.VERIFY_CFG", 0x2030, 8, 1, 0xFFFFFFFF, 0, 0, 0, 0, 0xFFFF0000⟩,
  ⟨"SPU.VERIFY_CNT", 0x2038, 8, 1, 0, 0xFFFF, 0, 0, 0xFFFFFFFFFFFF0000, 0⟩,
  ⟨"SPU.CNT", 0x2040, 8, 1, 0, 0, 0, 0, 0xFFFFFFFFFFFFFFFF, 0⟩,
  ⟨"SPU.OP_CNT", 0x2048, 8, 1, 0, 0, 0, 0, 0xFFFFFFFFFFFF, 0⟩,
  ⟨"SPU.DESC", 0x2400, 8, 32, 0x1FFFFFFFFF7FFF, 0x8000000000000000, 0, 0, 0, 0⟩]

def mshRegs : List RegDef := [
  ⟨"MSH.STATUS", 0x3000, 8, 1, 0, 0x1FFFFF, 0, 0, 0, 1⟩,
  ⟨"MSH.LINK_SEL", 0x3008, 8, 1, 0, 0xFFFFFFFF, 0, 0, 0, 0⟩,
  ⟨"MSH.ERR", 0x3010, 8, 1, 0, 0, 0, 0x1F, 0, 0⟩,
  ⟨"MSH.CRC_CNT", 0x3018, 8, 1, 0, 0, 0, 0, 0xFFFFFFFFFFFFFFFF, 0⟩,
  ⟨"MSH.FLIT_CNT", 0x3040, 8, 5, 0, 0, 0, 0, 0xFFFFFFFFFFFF, 0⟩,
  ⟨"MSH.HOLD_CNT", 0x3080, 8, 5, 0, 0, 0, 0, 0xFFFFFFFFFFFF, 0⟩,
  ⟨"MSH.INJ_CNT", 0x30C0, 8, 1, 0, 0, 0, 0, 0xFFFFFFFFFFFFFFFF, 0⟩,
  ⟨"MSH.EJ_CNT", 0x30C8, 8, 1, 0, 0, 0, 0, 0xFFFFFFFFFFFFFFFF, 0⟩,
  ⟨"MSH.DROP_CNT", 0x30D0, 8, 1, 0, 0, 0, 0, 0xFFFFFFFFFFFF0000, 0⟩,
  ⟨"MSH.TAG_SEL", 0x3100, 8, 4, 0x3FFFFFFFF, 0, 0, 0, 0, 0⟩,
  ⟨"MSH.TAG_CNT", 0x3140, 8, 4, 0, 0, 0, 0, 0xFFFFFFFFFFFFFFFF, 0⟩]

/-- Tile registers, at the tile base with the block in bits 13:12 (Table 01.5). -/
def tileRegs : List RegDef := tsqRegs ++ latRegs ++ spuRegs ++ mshRegs

def cluRegs : List RegDef := [
  ⟨"CLU.MT_CTL", 0x800, 8, 1, 0xFFFFFFFFFC000000, 2, 1, 0, 0, 0⟩,
  ⟨"CLU.MT_DST", 0x808, 8, 1, 0x1FFF, 0, 0, 0, 0, 0⟩,
  ⟨"CLU.MT_STAT", 0x810, 8, 1, 0, 0, 0, 0x100000000, 0xFFFFFFFF, 0⟩,
  ⟨"CLU.MT_CNT", 0x818, 8, 1, 0, 0, 0, 0, 0xFFFFFFFFFFFF, 0⟩,
  ⟨"CLU.ID", 0, 8, 1, 0, 0xFFFFFFBFF, 0, 0, 0, 0⟩,
  ⟨"CLU.STATUS", 8, 8, 1, 0, 0x3FFF00000007, 0, 0, 0, 1⟩,
  ⟨"CLU.BUDDY", 0x10, 8, 1, 0x80000000000003FF, 0x2000, 0, 0, 0, 0⟩,
  ⟨"CLU.SCRUB_CFG", 0x18, 8, 1, 0xC000FFFF, 0, 0, 0, 0, 0xC0000400⟩,
  ⟨"CLU.SCRUB_STAT", 0x20, 8, 1, 0, 0xFFFFFFFF0000FFFF, 0, 0, 0xFFFF0000, 0⟩,
  ⟨"CLU.SCRUB_LOG", 0x28, 8, 1, 0, 0x40000000FF7F1FFF, 0, 0x8000000000000000, 0, 0⟩,
  ⟨"CLU.PAR_LOG", 0x30, 8, 1, 0, 0xF7800FF7F1FFF, 0, 0x8000000000000000, 0, 0⟩,
  ⟨"CLU.PAR_CNT", 0x38, 8, 1, 0, 0, 0, 0, 0xFFFFFFFFFFFFFFFF, 0⟩,
  ⟨"CLU.ERR", 0x40, 8, 1, 0, 0, 0, 0xF, 0, 0⟩,
  ⟨"CLU.PAR_INJ", 0x48, 8, 1, 0x7F1FFF, 0x4000000000000000, 0x8000000000000000, 0, 0, 0⟩,
  ⟨"CLU.XBAR_CNT", 0x100, 8, 16, 0, 0, 0, 0, 0xFFFFFFFFFFFFFFFF, 0⟩,
  ⟨"CLU.XBAR_CONF", 0x180, 8, 16, 0, 0, 0, 0, 0xFFFFFFFF, 0⟩,
  ⟨"CLU.PORT_WAIT", 0x200, 8, 16, 0, 0, 0, 0, 0xFFFFFFFFFFFFFFFF, 0⟩,
  ⟨"CLU.RPL_STAT", 0x60, 8, 1, 0, 0xFF3F3, 0, 0, 0, 0⟩,
  ⟨"CLU.RPL_CNT", 0x68, 8, 1, 0, 0, 0, 0, 0xFFFFFFFFFFFFFFFF, 0⟩,
  ⟨"CLU.RPL_LOG", 0x70, 8, 1, 0, 0x7FFFFFF00000FFFF, 0, 0x8000000000000000, 0, 0⟩]

/-- Cluster registers. -/
def clusterRegs : List RegDef := cluRegs

def fldRegs : List RegDef := [
  ⟨"FLD.SHIFT_ROW", 0x200, 8, 1, 0, 0xFFFF7F1F, 0, 0, 0, 0⟩,
  ⟨"FLD.SHIFT_COL", 0x208, 8, 25, 0, 0x1FFFFFF0000031F, 0, 0, 0, 0⟩,
  ⟨"FLD.BEAT_PER", 0, 8, 1, 0xFFFFFF, 0, 0, 0, 0, 0⟩,
  ⟨"FLD.BEAT_WIN", 8, 8, 1, 0xFFFFFF00FFFFFF, 0, 0, 0, 0, 0⟩,
  ⟨"FLD.BEAT_SKEW", 0x10, 8, 1, 0xFFFF, 0x7FFFFF00000000, 0, 0, 0, 0x40⟩,
  ⟨"FLD.BEAT_STAT", 0x18, 8, 1, 0, 0xFFFFFFFFFFFFFFFF, 0, 0, 0, 0⟩,
  ⟨"FLD.BEAT_ERR", 0x20, 8, 1, 0, 0, 0, 0x1F, 0xFFFFFFFF00000000, 0⟩,
  ⟨"FLD.TAIL_TIME", 0x28, 8, 1, 0, 0x3FFFFFF03FFFFFF, 0, 0, 0, 0⟩,
  ⟨"FLD.FREEZE_CFG", 0x30, 8, 1, 0xFFFFFFFF, 0, 0, 0, 0, 0x4E20⟩,
  ⟨"FLD.CFG_STAT", 0x38, 8, 1, 0, 0xFFFFFFFFEFFFFFFF, 0, 0, 0, 0⟩,
  ⟨"FLD.RPL_CFG", 0x400, 8, 1, 0xFFFF, 0, 0, 0, 0, 0x400⟩,
  ⟨"FLD.RPL_STAT", 0x408, 8, 1, 0, 0, 0, 0, 0xFFFFFFFFFFFFFFFF, 0⟩,
  ⟨"FLD.CALVE_STAT", 0x410, 8, 1, 0, 0xFFFF00FFC703FFFF, 0, 0, 0, 0⟩,
  ⟨"FLD.PWR_CFG", 0x600, 8, 1, 0xFFFF00FF00FF, 0, 0, 0, 0, 0⟩,
  ⟨"FLD.PWR_STAT", 0x608, 8, 1, 0, 0xFFFF, 0, 0, 0xFFFFFFFF00000000, 0⟩,
  ⟨"FLD.ENERGY", 0x610, 8, 1, 0, 0xFFFFFFFFFFFFFFFF, 0, 0, 0, 0⟩,
  ⟨"FLD.ST_STAT", 0x700, 8, 1, 0, 0xFFFF03FF003FF0FF, 0, 0, 0, 0⟩]

def rimRegs : List RegDef := [
  ⟨"RIM.STATE_CNT", 0x8000, 8, 1, 0, 0xFFFFFFFFFFFFFF, 0, 0, 0, 0⟩,
  ⟨"RIM.AGE_CFG", 0x8008, 8, 1, 0, 0xFFFFFFFFFF, 0, 0, 0, 1⟩,
  ⟨"RIM.FLAGS", 0x8010, 8, 1, 0xFF, 0, 0, 0, 0, 0⟩,
  ⟨"RIM.REP_LO", 0x8018, 8, 1, 0, 0, 0, 0, 0xFFFFFFFFFFFFFFFF, 0⟩,
  ⟨"RIM.REP_HI", 0x8020, 8, 1, 0, 0xFFFFFFFFFFFFFFFF, 0, 0, 0, 0⟩,
  ⟨"RIM.REP_STAT", 0x8028, 8, 1, 0, 0x3FF, 0, 0, 0xFFFFFFFF00000000, 0⟩,
  ⟨"RIM.ERR", 0x8030, 8, 1, 0, 0, 0, 3, 0xFFFFFFFF00000000, 0⟩,
  ⟨"RIM.SUMMARY", 0x8040, 8, 4, 0, 0, 0, 0xFFFFFFFFFFFFFFFF, 0, 0⟩,
  ⟨"RIM.CODE_CNT", 0x8100, 8, 256, 0, 0, 0, 0, 0xFFFFFFFFFFFFFFFF, 0⟩]

/-- Field registers. -/
def fieldRegs : List RegDef := fldRegs ++ rimRegs

def hngRegs : List RegDef := [
  ⟨"HNG.STATUS", 0x800000, 8, 1, 0, 0x3FFFFFFFFFFFC1, 0, 0, 0, 0⟩,
  ⟨"HNG.CAL_CFG", 0x800008, 8, 1, 0x1FFFFFFFF, 0, 0, 0, 0, 0⟩,
  ⟨"HNG.ERR", 0x800010, 8, 1, 0, 0, 0, 7, 0xFFFFFFFF00000000, 0⟩,
  ⟨"HNG.LANE", 0x801000, 8, 1386, 0, 0xFFFFFFFF003FF877, 0, 0, 0, 0⟩]

def wngRegs : List RegDef := [
  ⟨"WNG.PLL", 0x100, 8, 1, 0, 0xFFFFFFF00003, 0, 0, 0xFFFF000000000000, 0x4E200000⟩,
  ⟨"WNG.FWD", 0x108, 8, 1, 0x1FFFF, 0xFFFFFFFF00000000, 0, 0, 0, 0⟩]

/-- Wing registers. -/
def wingRegs : List RegDef := hngRegs ++ wngRegs

def hngGlobalRegs : List RegDef := [
  ⟨"HNG.SUMMARY", 0x60000, 8, 1, 0, 0xFFFFFFFFF000FF, 0, 0, 0, 0⟩]

/-- Registers of one firn stack, at its 64 KiB. -/
def frnStackRegs : List RegDef := [
  ⟨"FRN.STATUS", 0x0, 8, 1, 0, 0x1FFFFF03, 0, 0, 0xFFFFFFFF00000000, 0⟩,
  ⟨"FRN.ECC_CNT", 0x8, 8, 1, 0, 0, 0, 0, 0xFFFFFFFFFFFFFFFF, 0⟩,
  ⟨"FRN.ECC_LOG", 0x10, 8, 1, 0, 0x400001FFFFFFFFFF, 0, 0x8000000000000000, 0, 0⟩,
  ⟨"FRN.CFG", 0x18, 8, 1, 0xFFFFFFFF00FF, 0, 0, 0, 0, 0⟩,
  ⟨"FRN.BW_CNT", 0x20, 8, 1, 0, 0, 0, 0, 0xFFFFFFFFFFFFFFFF, 0⟩]

/-- FRN registers at stack 0 alone. -/
def frnTopRegs : List RegDef := [
  ⟨"FRN.WIN", 0x108000, 8, 1, 0x7F, 0, 0, 0, 0, 0⟩,
  ⟨"FRN.STR_PEND", 0x108100, 8, 1024, 0, 0xFFFFFFFFFFFFFFFF, 0, 0, 0, 0⟩]

def strGlobalRegs : List RegDef := [
  ⟨"STR.CFG", 0x1000000, 0x40, 65536, 0xBC00FFF03FFFFFFF, 0, 0, 0, 0, 0⟩,
  ⟨"STR.FIRN", 0x1000008, 0x40, 65536, 0xFFFFF1FFFFFFFFFF, 0, 0, 0, 0, 0⟩,
  ⟨"STR.TILE", 0x1000010, 0x40, 65536, 0x3FFFF7FFFFFF, 0, 0, 0, 0, 0⟩,
  ⟨"STR.SCHED", 0x1000018, 0x40, 65536, 0xFFFFFFFF03FFFFFF, 0, 0, 0, 0, 0⟩,
  ⟨"STR.LEVEL", 0x1000020, 0x40, 65536, 0, 0xFFFFF007FFFFF, 0, 0, 0, 0⟩,
  ⟨"STR.WMARK", 0x1000028, 0x40, 65536, 0xFFFFFFFFF, 0, 0, 0x3000000000, 0xFFFF000000000000, 0⟩,
  ⟨"STR.STAT", 0x1000030, 0x40, 65536, 0, 0, 0, 0xF, 0xFFFFFFFFFFFF0000, 0⟩,
  ⟨"STR.ENERGY", 0x1000038, 0x40, 65536, 0, 0, 0, 0, 0xFFFFFFFFFFFFFFFF, 0⟩]

/-- Registers of one fabric port, at its 64 KiB. -/
def fabPortRegs : List RegDef := [
  ⟨"FAB.STATUS", 0x0, 8, 1, 0, 0xFFFF00FF0E07, 0, 0, 0, 0⟩,
  ⟨"FAB.CFG", 0x8, 8, 1, 0xFFFFC000FFFFFF00, 0, 0, 0, 0, 0⟩,
  ⟨"FAB.ERR", 0x10, 8, 1, 0, 0, 0, 0x7F, 0, 0⟩,
  ⟨"FAB.HB", 0x18, 8, 1, 0, 0xFFFF00000000, 0, 0, 0xFFFF0000FFFFFFFF, 0⟩,
  ⟨"FAB.CNT", 0x20, 8, 1, 0, 0, 0, 0, 0xFFFFFFFFFFFFFFFF, 0⟩,
  ⟨"FAB.DL_CNT", 0x28, 8, 1, 0, 0, 0, 0, 0xFFFFFFFFFFFFFFFF, 0⟩,
  ⟨"FAB.MACSEC", 0x30, 8, 1, 0xFF00000000000000, 0xFFFFFFFF, 0, 0, 0xFFFF00000000, 0⟩,
  ⟨"FAB.MAC", 0x38, 8, 1, 0, 0xFFFFFFFFFFFF, 0, 0, 0, 0⟩,
  ⟨"FAB.KEY", 0x40, 8, 24, 0, 0, 0xFFFFFFFFFFFFFFFF, 0, 0, 0⟩,
  ⟨"FAB.FOREIGN", 0x300, 8, 1, 0, 0, 0, 0, 0xFFFFFFFFFFFFFFFF, 0⟩,
  ⟨"FAB.PEER", 0x100, 8, 64, 0xFFFFFFFFFFFFFFFF, 0, 0, 0, 0, 0xFFFF000000000000⟩,
  ⟨"FAB.CHAN", 0x1000, 8, 1024, 0xFFFFFFFFC0000000, 0x3FFF, 0, 0, 0, 0⟩]

/-- Domain registers, at port 0 alone. -/
def fabDomRegs : List RegDef := [
  ⟨"FAB.DOM", 0x808000, 8, 1, 0, 0xFFFFFFFFFF00FFFF, 0, 0, 0, 0xFFFF⟩,
  ⟨"FAB.DOM_CFG", 0x808008, 8, 1, 0xFFFF000000000000, 0x7FF, 0, 0, 0, 0⟩,
  ⟨"FAB.STEP", 0x808010, 8, 1, 0, 0x3FFFFFFFFFFFF, 0, 0, 0, 0⟩,
  ⟨"FAB.POLICY", 0x808018, 8, 1, 0, 0xFFFFFFFFFFFFFF01, 0, 0, 0, 0xFFFF138800⟩,
  ⟨"FAB.COMMITTED", 0x808020, 8, 1, 0, 0xFFFFFFFFFFFF, 0, 0, 0, 0⟩,
  ⟨"FAB.TICK", 0x808028, 8, 1, 0, 0xFFFFFF00FFFFFFFF, 0, 0, 0xFF00000000, 0⟩]

def pwrGlobalRegs : List RegDef := [
  ⟨"PWR.STATUS", 0x30000, 8, 1, 0, 0xFFFFFF00FF000000, 0, 0, 0, 0⟩,
  ⟨"PWR.CAP", 0x30008, 8, 1, 0xFF1CFFF00000FF, 0xFF0000, 0, 0, 0, 0x280000⟩,
  ⟨"PWR.RAMP", 0x30010, 8, 1, 0xFFFFFFFF, 0, 0, 0, 0, 0⟩,
  ⟨"PWR.FLOOR", 0x30018, 8, 1, 0x1FF, 0xFF0000, 0, 0, 0, 0⟩,
  ⟨"PWR.ACT", 0x30020, 8, 1, 0, 0xFF0000003F3F3F, 0, 0, 0, 0x58000000000000⟩,
  ⟨"PWR.DVFS", 0x30028, 8, 1, 0, 0xFFF00F80FFF, 0, 0, 0, 0x4E200600258⟩,
  ⟨"PWR.DIN", 0x30030, 8, 1, 0, 0xF, 0, 0, 0xFFFFFFFF00000000, 0⟩,
  ⟨"PWR.HOLD", 0x30038, 8, 1, 0xFE00000, 0xFFFFFFFFF01C0FFF, 0, 0, 0, 0x190⟩,
  ⟨"PWR.ENERGY", 0x30040, 8, 6, 0, 0xFFFFFFFFFFFFFFFF, 0, 0, 0, 0⟩,
  ⟨"PWR.ERR", 0x30070, 8, 1, 0, 0, 0, 0xFF, 0, 0⟩]

def thmGlobalRegs : List RegDef := [
  ⟨"THM.COOL", 0x40000, 8, 1, 0, 0xFFFFFFFFFFFF0000, 0, 0, 0, 0⟩,
  ⟨"THM.LIMITS", 0x40008, 8, 1, 0xFFFFFF00FF0000, 0xFF000000, 0, 0, 0, 0x69000000⟩,
  ⟨"THM.DEMAND", 0x40010, 8, 1, 0xFF000000, 0x80007F, 0, 0, 0, 0x64000064⟩,
  ⟨"THM.WAFER", 0x40018, 8, 1, 0, 0xFF00FFFFFFFF, 0, 0, 0, 0⟩,
  ⟨"THM.ERR", 0x40040, 8, 1, 0, 0, 0, 7, 0, 0⟩,
  ⟨"THM.FIELD", 0x40100, 8, 168, 0, 0xFFFF, 0, 0, 0xFFFF0000, 0⟩]

def clkGlobalRegs : List RegDef := [
  ⟨"CLK.STATUS", 0x20000, 8, 1, 0, 0xFFC0FC1C77, 0, 0, 0, 0x8400000004⟩,
  ⟨"CLK.REF_CFG", 0x20008, 8, 1, 0xF0, 7, 0, 0, 0, 4⟩,
  ⟨"CLK.QUAL", 0x20010, 8, 1, 0, 0xFFFFFFFFFFFFFFF, 0, 0, 0, 0⟩,
  ⟨"CLK.MUX", 0x20018, 8, 1, 0, 0x3000000FFFFFFFF, 0x8000000000000000, 0, 0, 0⟩,
  ⟨"CLK.EVT", 0x20020, 8, 1, 0, 0, 0, 0, 0xFFFFFFFFFFFFFFFF, 0⟩,
  ⟨"CLK.ERR", 0x20028, 8, 1, 0, 0, 0, 0x7F, 0, 0⟩,
  ⟨"CLK.MON", 0x20030, 8, 1, 0xF00F, 0xF00, 0, 0, 0, 0⟩]

def mgtGlobalRegs : List RegDef := [
  ⟨"MGT.CLK_EN", 0x70100, 8, 1, 0x7F, 0, 0, 0, 0, 0x7F⟩,
  ⟨"MGT.CLK_ON", 0x70108, 8, 1, 0, 0x7F, 0, 0, 0, 0x7F⟩,
  ⟨"MGT.RESET", 0x70000, 8, 1, 0, 0xFFFF, 0x8000000000000000, 0, 0, 0⟩,
  ⟨"MGT.OPSEC", 0x70008, 8, 1, 0, 0xFFFFFFFF, 0, 0, 0, 0⟩]

def mbxGlobalRegs : List RegDef := [
  ⟨"MBX.MIRROR", 0x4000, 8, 1, 0, 0xFFFFFFFFFFFFFF0F, 0, 0, 0, 0⟩,
  ⟨"MBX.MIRROR", 0x4008, 8, 1, 0, 0x3FFFFFFFFFFFF, 0, 0, 0, 0⟩,
  ⟨"MBX.MIRROR", 0x4010, 8, 1, 0, 0xFFFFFFFFFFFF00FF, 0, 0, 0, 0⟩,
  ⟨"MBX.DOORBELL", 0x1000, 8, 1, 0, 0, 0xFFFFFFFF, 0, 0, 0⟩,
  ⟨"MBX.BUSY", 0x1008, 8, 1, 0, 0xFFFFFFFF, 0, 0, 0, 0⟩,
  ⟨"MBX.DONE", 0x1010, 8, 1, 0, 0, 0, 0xFFFFFFFF, 0, 0⟩,
  ⟨"MBX.STAT", 0x1018, 8, 1, 0, 0, 0, 0, 0xFFFFFFFFFFFF0000, 0⟩]

def nvsGlobalRegs : List RegDef := [
  ⟨"NVS.STATUS", 0x50000, 8, 1, 0, 0xFFFFFFFFF0000000, 0, 0, 0, 0⟩,
  ⟨"NVS.WEAR", 0x50008, 8, 1, 0, 0xFFFFFFFFFFFFFFFF, 0, 0, 0, 0⟩,
  ⟨"NVS.CAL", 0x50010, 8, 1, 0, 0xFFFFFFFFFFFF0003, 0, 0, 0, 0⟩]

def evcGlobalRegs : List RegDef := [
  ⟨"EVC.CFG", 0x10000, 8, 1, 7, 0, 0, 0, 0, 0⟩,
  ⟨"EVC.STAT", 0x10008, 8, 1, 0, 0, 0, 0, 0xFFFFFFFFFFFFFFFF, 0⟩,
  ⟨"EVC.SWSET", 0x10010, 8, 1, 0, 0, 0x3FF, 0, 0, 0⟩,
  ⟨"EVC.PEND", 0x10100, 8, 16, 0, 0, 0, 0xFFFFFFFFFFFFFFFF, 0, 0⟩,
  ⟨"EVC.INSVC", 0x10180, 8, 16, 0, 0xFFFFFFFFFFFFFFFF, 0, 0, 0, 0⟩,
  ⟨"EVC.HOLD", 0x10200, 8, 32, 0xFFFF, 0xFFFF0000, 0, 0, 0, 0⟩,
  ⟨"EVC.CORE_CTL", 0x10400, 0x40, 4, 0x1FF, 0, 0x10000, 0, 0, 0x100⟩,
  ⟨"EVC.CLAIM", 0x10408, 0x40, 4, 0, 0, 0, 0, 0x3FF, 0x3FF⟩,
  ⟨"EVC.COMPLETE", 0x10410, 0x40, 4, 0, 0, 0x3FF, 0, 0, 0⟩,
  ⟨"EVC.CORE_STAT", 0x10418, 0x40, 4, 0, 0x3FF1F03FF, 0, 0, 0, 0x3FF⟩,
  ⟨"EVC.SRC", 0x12000, 8, 1023, 0xFFFFE000000000FF, 0, 0, 0, 0, 0⟩,
  ⟨"EVC.SRC_STAT", 0x14000, 8, 1023, 0, 0xFFFF3E, 0, 0, 0, 0⟩]

/-- Engine-global registers of the blocks that do not repeat. -/
def globalRegs : List RegDef := hngGlobalRegs ++ pwrGlobalRegs ++ thmGlobalRegs ++ clkGlobalRegs ++ mgtGlobalRegs ++ mbxGlobalRegs ++ nvsGlobalRegs ++ evcGlobalRegs

end Sys2Proof.Machine
end

