-- ==== Sys2Proof/Machine/Sparse.lean ====
section
/-! DEFINITION. Sparse maps with a default: the one canonical form of every memory and table of the model.
A map lists (key, value) pairs in strictly rising order of key and lists no value equal to what an unlisted key reads
as, so equal maps are equal data. -/

namespace Sys2Proof.Machine

/-- The value at key `k`: the listed one, else the default `d k`. -/
def Sparse.get {α : Type} (d : Nat → α) : List (Nat × α) → Nat → α
  | [], k => d k
  | (j, v) :: r, k => if j = k then v else Sparse.get d r k

/-- The pair put into its place among rising keys. -/
def Sparse.insert {α : Type} (k : Nat) (v : α) : List (Nat × α) → List (Nat × α)
  | [] => [(k, v)]
  | (j, w) :: r => if k < j then (k, v) :: (j, w) :: r else (j, w) :: Sparse.insert k v r

/-- The map without the keys that `p` holds of. -/
def Sparse.drop {α : Type} (p : Nat → Bool) (m : List (Nat × α)) : List (Nat × α) :=
  m.filter fun e => !p e.1

/-- The map with `v` at `k`; the default value is not listed. -/
def Sparse.set {α : Type} [DecidableEq α] (d : Nat → α) (m : List (Nat × α)) (k : Nat) (v : α) :
    List (Nat × α) :=
  let r := Sparse.drop (fun j => decide (j = k)) m
  if v = d k then r else Sparse.insert k v r

/-- The canonical form. -/
def Sparse.wf {α : Type} [DecidableEq α] (d : Nat → α) : List (Nat × α) → Bool
  | [] => true
  | (k, v) :: r => (match r with | [] => true | e :: _ => decide (k < e.1)) && decide (v ≠ d k) && Sparse.wf d r

/-! ### Byte memories: an unlisted byte reads as 0 -/

/-- One byte. -/
def Mem.read (m : List Host.Cell) (a : Nat) : Byte := Sparse.get (fun _ => 0) m a

/-- The cells that hold a byte string at `a`. -/
def Mem.cells : Nat → List Byte → List Host.Cell
  | _, [] => []
  | a, b :: r => if b = 0 then Mem.cells (a + 1) r else (a, b) :: Mem.cells (a + 1) r

/-- The memory with the bytes `bs` at `a`, `a + 1`, …; every other byte as before. -/
def Mem.write (m : List Host.Cell) (a : Nat) (bs : List Byte) : List Host.Cell :=
  m.filter (fun c => decide (c.1 < a)) ++ Mem.cells a bs ++
    m.filter (fun c => decide (a + bs.length ≤ c.1))

/-- `n` bytes from `a` up. -/
def Mem.bytes (m : List Host.Cell) (a n : Nat) : List Byte :=
  let w := m.filter fun c => decide (a ≤ c.1) && decide (c.1 < a + n)
  (List.range n).map fun i => Mem.read w (a + i)

/-- The canonical form of a byte memory. -/
def Mem.wf (m : List Host.Cell) : Bool := Sparse.wf (fun _ => (0 : Byte)) m

/-- The number that bytes spell, byte 0 least significant (R7). -/
def ofBytes (bs : List Byte) : Nat := bs.foldr (fun b acc => b.toNat + 256 * acc) 0

/-- The `n` low bytes of a number, least significant first (R7). -/
def toBytes (n v : Nat) : List Byte :=
  (List.range n).map fun i => BitVec.ofNat 8 (v >>> (8 * i))

/-- A memory without the bytes at addresses from `a` below `a + n`, which so read as 0. -/
def Mem.clear (m : List Host.Cell) (a n : Nat) : List Host.Cell :=
  m.filter fun c => decide (c.1 < a) || decide (a + n ≤ c.1)

end Sys2Proof.Machine
end

