-- ==== Sys2Proof/Machine/State.lean ====
section
/-! DEFINITION. The state of the engine as plain data. Addressable registers live in `State.csr`; the structures below
hold what no register holds. -/

namespace Sys2Proof.Machine

/-- Why the machine stops. -/
inductive Fault where
  /-- Raised by `mainInputReturn` and `powerControlInterval` for a main input above 900 V: beyond the operating limits, where
  the spec says that operation is not specified (R386). Safe. -/
  | beyondRatings
  deriving DecidableEq, Repr

/-- What the model gives no meaning to. -/
inductive Refusal where
  /-- Raised by `exec` for a command without a meaning yet. Safe. -/
  | notModelled (mnemonic : String)
  deriving DecidableEq, Repr

/-! ### The tile sequencer -/

/-- A loop stack entry (R47). -/
structure LoopEnt where
  start : Nat
  fin : Nat
  count : Nat
  deriving DecidableEq, Repr

/-- A prefetched instruction (R41): its position, its word, and whether its parity was wrong when fetched. -/
structure PreEnt where
  pc : Nat
  insn : Word
  bad : Bool
  deriving DecidableEq, Repr

/-- What an issued instruction still blocks its context for (Table 02.2). -/
inductive Hold where
  | none
  /-- An RLDG or RSTG result (WHY 4). -/
  | row
  /-- A CSRR result (WHY 4). -/
  | csr
  /-- An RFENCE (WHY 4). -/
  | rfence
  /-- An IFENCE that waits for these stores (WHY 4). -/
  | ifence (ids : List Nat)
  /-- A WAIT of amount `n` on counter `c` (WHY 3). -/
  | wait (c n : Nat)
  /-- A YIELD that waits for these contexts to issue, and no longer than to tc `last` (WHY 7). -/
  | yield (others : List Nat) (last : Nat)
  deriving DecidableEq, Repr

/-- A MUL or MULHU result on its way (R44). -/
structure MulPend where
  d : Nat
  v : Word
  poison : Bool
  /-- tc from which the result is available. -/
  due : Nat := 0
  deriving DecidableEq, Repr

/-- What a context holds beside its registers. -/
structure Ctx where
  loops : List LoopEnt := []
  pre : List PreEnt := []
  muls : List MulPend := []
  hold : Hold := .none
  /-- Row moves and SENDROW reads outstanding (R56). -/
  rowsOut : Nat := 0
  /-- Its CSRWs to IB_DATA whose stores are not yet made, oldest first: the access, and how many further positions the context
  may fetch before that store is made (R41). -/
  ibStores : List (Nat × Nat) := []
  /-- First tc in which it may issue: after a start, a block that cleared, a branch or an IFENCE (R36, R42, R46, R58). -/
  resume : Nat := 0
  deriving DecidableEq, Repr

/-- One flit place of an operand queue, reserved or written (R61 to R63). -/
structure Slot where
  id : Nat
  data : Option Flit := none
  poison : Bool := false
  /-- Words already popped. -/
  popped : Nat := 0
  /-- tc in which it was written. -/
  at_ : Nat := 0
  /-- Brought by a message, with its TAG, LEN and CLASS. -/
  msg : Bool := false
  first : Bool := false
  last : Bool := false
  tag : Nat := 0
  len : Nat := 0
  cls : Nat := 0
  deriving DecidableEq, Repr

/-- A flit with its sideband (R171). -/
structure MFlit where
  data : Flit
  /-- 0 header, 1 rectangle, 2 payload, 3 last payload. -/
  kind : Nat
  poison : Bool := false
  /-- Attempts that failed on the link it is crossing (R182). -/
  tries : Nat := 0
  deriving DecidableEq, Repr

/-- What a read row is for. -/
inductive Use where
  | rldq (n q id bp : Nat)
  | rldg (n d w bp : Nat)
  | rcpy (n dst bp : Nat)
  | sendrow (n id : Nat)
  | ifill (n slot id : Nat)
  | fill (k : Nat)
  | lat (id k : Nat)
  | spu (k : Nat)
  | spuMove (q id : Nat)
  | scan
  deriving DecidableEq, Repr

/-- What a written row counts for when it is done. -/
inductive Done where
  | store (n bp : Nat)
  | drain
  | spu
  | merge
  | config
  deriving DecidableEq, Repr

inductive XKind where
  | read (u : Use)
  | write (row : Row) (poison : Bool) (d : Done)
  /-- One 64-bit word (RSTG). -/
  | part (w : Nat) (v : Word) (poison : Bool) (d : Done)
  deriving DecidableEq, Repr

/-- A crossbar request (R151). -/
structure XReq where
  row : Nat
  kind : XKind
  bp : Nat := 0
  /-- tc this request has waited at the head. -/
  wait : Nat := 0
  /-- First tc in which it may be presented (R154). -/
  from_ : Nat := 0
  /-- Presented together with the request before it, as one paired request (R83). -/
  paired : Bool := false
  deriving DecidableEq, Repr

/-- A vector instruction (Table 02.6). -/
structure VInsn where
  n : Nat
  op : Nat
  vd : Nat
  fmt : Nat
  dir : Bool
  rep : Nat
  sa : Nat
  sb : Nat
  sc : Nat
  dq : Bool
  /-- The broadcast operands, read at issue: lane value and tag of SA, SB, SC. -/
  g : List (BitVec 32 × Bool)
  /-- tc in which it issued. -/
  issued : Nat := 0
  deriving DecidableEq, Repr

/-- A repetition's result before its writeback (R54): to register `dst`, or to the two flits `ids` of queue `dst`. -/
structure VRes where
  toQ : Bool
  dst : Nat
  ids : List Nat
  v : BitVec 512
  poison : Bool
  /-- What the lanes noted for LAT.FPX: flush, invalid, overflow, NaN to integer; elements saturated. -/
  flush : Bool
  invalid : Bool
  overflow : Bool
  cvtNan : Bool
  sat : Nat
  /-- tc in which it is written: the repetition's, and the latency of Table 02.7. -/
  due : Nat := 0
  deriving DecidableEq, Repr

/-- A send in the send queue (R51). -/
structure SendEnt where
  id : Nat
  n : Nat
  bp : Nat
  dest : Nat
  rect : Option Nat
  port : Nat
  tag : Nat
  len : Nat
  cls : Nat
  /-- 0 SENDQ, 1 SENDROW, 2 SENDG. -/
  kind : Nat
  srcQ : Nat
  /-- Payload flits at hand, oldest first. -/
  payload : List (Flit × Bool)
  headerOut : Bool := false
  sent : Nat := 0
  deriving DecidableEq, Repr

/-- A CSRR or CSRW on its way to its register (R55). -/
structure CsrAcc where
  n : Nat
  write : Bool
  addr : Nat
  v : Word
  d : Nat
  id : Nat
  /-- tc in which it reaches its register: its issue plus 2, or plus 8 for CLU. -/
  due : Nat := 0
  deriving DecidableEq, Repr

/-- A fetched row of instructions not yet written into the buffer (R40). -/
structure FillRow where
  id : Nat
  fromReg : Bool
  slot : Nat
  row : Row
  poison : Bool
  last : Bool
  n : Nat
  /-- Positions already written, 8 a tc. -/
  done : Nat := 0
  deriving DecidableEq, Repr

/-- An instruction buffer position: the word, and whether its stored parity bit is wrong (R39, R158). -/
structure IbEnt where
  insn : Word := 0
  bad : Bool := false
  deriving DecidableEq, Repr

/-! ### The lattice -/

/-- A weight set (R73, R395): the weight bytes as read, the side section, and the set's record. -/
structure WSet where
  /-- 0 clear, 1 loaded by an LWLD, 2 multi-pass pieces. -/
  kind : Nat := 0
  fmt : Nat := 0
  s24 : Bool := false
  data : Row := 0
  side : BitVec 512 := 0
  poison : Bool := false
  deriving DecidableEq, Repr

/-- A lattice issue-queue entry, the descriptor copied (R80, R81). -/
structure LEnt where
  id : Nat
  op : Nat
  n : Nat
  bp : Nat
  a : Nat
  b : Nat
  aq : Bool
  ce : Bool
  c : Nat
  acc0 : Nat
  bank : Nat
  set : Nat
  part : Nat
  qn : Nat
  lane : Nat
  descNo : Nat
  lo : Nat
  hi : Nat
  /-- tc of its issue. -/
  issued : Nat := 0
  deriving DecidableEq, Repr

/-- A vector in the array: where it goes and what it was computed from (R231). -/
structure LVec where
  op : Nat
  m : Nat
  pass : Nat
  act : BitVec 512
  scale : Nat
  wset : WSet
  poison : Bool
  /-- tc in which its result reaches the accumulators (Table 03.5). -/
  due : Nat := 0
  deriving DecidableEq, Repr

/-- A lattice operation in an engine. -/
structure LOp where
  e : LEnt
  rows : List (Nat × Row × Bool) := []
  /-- tc in which each of its rows came. -/
  came : List (Nat × Nat) := []
  /-- Row reads already presented. -/
  asked : Nat := 0
  pass : Nat := 0
  next : Nat := 0
  /-- tc of its dispatch, and the first tc in which it may complete (Table 03.5). -/
  since : Nat := 0
  due : Nat := 0
  mismatched : Bool := false
  poisoned : Bool := false
  wrapped : Bool := false
  /-- Drain: seed and count captured; elements formed; flits left to write. -/
  seed : Nat := 0
  cnt : Nat := 0
  started : Bool := false
  flits : List (Flit × Bool) := []
  writes : Nat := 0
  /-- LISS computing with zero weights (R395). -/
  zeroSet : Bool := false
  deriving DecidableEq, Repr

/-- The tally's record of one accumulator row and group (R92). -/
structure TEnt where
  c : BitVec 32 := 0
  pm : BitVec 32 := 0
  a : Nat := 0
  fp : Bool := false
  poison : Bool := false
  deriving DecidableEq, Repr

/-- The pre-image of one increment (R231). -/
structure PreImg where
  op : Nat
  m : Nat
  pass : Nat
  bank : Nat
  row : Nat
  group : Nat
  lanes : List (BitVec 32)
  tally : TEnt
  deriving DecidableEq, Repr

/-- An array check that failed and awaits its repeat (R229). -/
structure Failed where
  vec : LVec
  bank : Nat
  row : Nat
  group : Nat
  desc : Nat
  bp : Nat
  so : List (BitVec 32)
  tFirst : Int × Int
  /-- The group was poisoned before the mismatch, so a passing repeat leaves its mark. -/
  wasPoison : Bool
  deriving DecidableEq, Repr

structure Lattice where
  set0 : WSet := {}
  set1 : WSet := {}
  acc : List (Nat × BitVec 32) := []
  accBad : List (Nat × Bool) := []
  tally : List (Nat × TEnt) := []
  queue : List LEnt := []
  loader : Option LOp := none
  liss : List LOp := []
  drain : Option LOp := none
  inArray : List LVec := []
  history : List LVec := []
  preImages : List PreImg := []
  failed : List Failed := []
  injArray : Bool := false
  injDrain : Bool := false
  /-- tc at which the last ramp began; none once no ramp runs (R86). -/
  rampAt : Option Nat := none
  /-- tc in which the array last accepted a vector, and the first in which it may accept the next: one in each tc (R86, R87). -/
  lastVec : Nat := 0
  entryTc : Nat := 0
  /-- tc in which load-floor work last ran. -/
  floorAt : Option Nat := none
  /-- tc of the last LWLD completed to each set, of the last drain's accumulator reads, and of the last repeat's end. -/
  setTc : List (Nat × Nat) := []
  bankTc : List (Nat × Nat) := []
  heldTc : Nat := 0
  /-- First tc in which the drain engine is free of a replay record (R233). -/
  drainTc : Nat := 0
  /-- tc before which the tc of waiting and of bubbles are counted (LAT.FEED_CNT, LAT.BUBBLE_CNT). -/
  countTc : Nat := 0
  deriving DecidableEq, Repr

/-! ### The sparse unit -/

structure SEnt where
  op : Nat
  n : Nat
  bp : Nat
  a : Nat
  b : Nat
  d : Nat
  ce : Bool
  c : Nat
  part : Nat
  qn : Nat
  descNo : Nat
  desc : Nat
  deriving DecidableEq, Repr

structure SOp where
  e : SEnt
  thr : Nat
  vseed : Nat
  vcnt : Nat
  vcfg : Nat
  rows : List (Nat × Row × Bool) := []
  asked : Nat := 0
  /-- Output formed; row writes not yet granted. -/
  formed : Bool := false
  writes : Nat := 0
  /-- SFETCH: rows still to move, and rows being moved. -/
  moves : List Nat := []
  moving : Nat := 0
  nnz : Nat := 0
  nrun : Nat := 0
  nblk : Nat := 0
  poisoned : Bool := false
  deriving DecidableEq, Repr

structure Spu where
  queue : List SEnt := []
  cur : Option SOp := none
  deriving DecidableEq, Repr

/-! ### Mesh, reports and beats of a tile -/

/-- The message an input is passing: its outputs (d in 0..3, 4 local), and whether it is being discarded (R173, R182). -/
structure Worm where
  /-- Its outputs (d in 0..3, 4 local). -/
  outs : List Nat
  /-- Outputs granted to it. -/
  granted : List Nat
  discard : Bool := false
  deriving DecidableEq, Repr

/-- The message being ejected (R174): its queue, reservations left, and what kind of message it is. -/
structure Eject where
  input : Nat
  q : Nat
  ids : List Nat
  cls : Nat
  row : Nat
  /-- CLASS 2: payload so far. -/
  acc : List (Flit × Bool) := []
  discard : Bool := false
  deriving DecidableEq, Repr

/-- A detail record (Table 07.9). -/
structure Rec where
  code : Nat
  unit : Nat
  source : Nat
  beat : Nat
  detail : Nat
  deriving DecidableEq, Repr

/-- What a tile holds beside its registers. Lists of pairs are sparse maps. -/
structure Tile where
  p : Nat := 0
  /-- By queue: a flit already freed of the message at its head was poisoned (R171). -/
  msgBad : List (Nat × Bool) := []
  /-- First tc in which the tile may issue again: it issues at most one instruction per tc (R34). -/
  issueTc : Nat := 0
  ctx : List (Nat × Ctx) := []
  ib : List (Nat × IbEnt) := []
  vreg : List (Nat × BitVec 512) := []
  vpoison : List (Nat × Bool) := []
  vq : List VInsn := []
  vrun : Option (VInsn × Nat) := none
  vres : List VRes := []
  /-- First tc in which the vector unit may run its next repetition (R54). -/
  vecTc : Nat := 0
  q : List (Nat × List Slot) := []
  sendq : List SendEnt := []
  acc : List CsrAcc := []
  /-- tc of the last own CSR instruction to reach a register, and the local addresses reached in that tc (R32). -/
  landTc : Nat := 0
  landed : List Nat := []
  arrivals : List (Nat × Nat) := []
  reqs : List (Nat × List XReq) := []
  rr : List (Nat × Nat) := []
  fills : List FillRow := []
  /-- First tc in which the next 8 positions of a fill may be written (R40). -/
  fillTc : Nat := 0
  /-- tc of the last write through IB_DATA, and the positions so written in that tc (R41). -/
  ibTc : Nat := 0
  ibWrote : List Nat := []
  /-- Rows of a TSQ.IFILL fill still to write. -/
  fillLeft : Nat := 0
  /-- The filled instructions so far, for the CRC of R40. -/
  fillBytes : List Byte := []
  fillId : Nat := 0
  /-- Stores into the instruction buffer that an IFENCE would wait for (R42). -/
  stores : List Nat := []
  /-- Edge detectors re-armed by an exchange (Table 08.9). -/
  rearm : List (Nat × Bool) := []
  lat : Lattice := {}
  spu : Spu := {}
  nextId : Nat := 0
  -- beats
  /-- BEATENDs executed, by `8 * parity + context`. -/
  ended : List (Nat × Bool) := []
  /-- Row stores outstanding, by `8 * parity + context`. -/
  storesOut : List (Nat × Nat) := []
  /-- Beats of its field that the tile has opened, signalled tail done, and had its overrun looked at. -/
  seen : Nat := 0
  tails : Nat := 0
  overruns : Nat := 0
  /-- Engine number of the beat most recently opened, since eclosion (R196). -/
  openNo : Option Nat := none
  -- router
  inq : List (Nat × List MFlit) := []
  /-- Under key d the message whose flits head input d; under 8 + d the one whose arriving flits are discarded. -/
  worm : List (Nat × Option Worm) := []
  outHold : List (Nat × Option Nat) := []
  outRr : List (Nat × Nat) := []
  link : List (Nat × List MFlit) := []
  eject : Option Eject := none
  -- reports
  tokens : List (Nat × Nat) := []
  details : List Rec := []
  -- configuration
  /-- CLASS 2 rows counted since the load or the last resend began (R209). -/
  rowsSeen : Nat := 0
  /-- The bank whose header has arrived and whose check has not ended, and the tc in which that check ends. -/
  headerSeen : Option Nat := none
  checkTc : Nat := 0
  /-- Checks failed in this load. -/
  tries : Nat := 0
  verified : Bool := false
  failedCheck : Bool := false
  /-- Banks that passed their check in this load. -/
  passed : List Nat := []
  /-- A beat open that waits for the tile's exchange (R214). -/
  exchWait : Bool := false
  deriving DecidableEq, Repr, Inhabited

/-- The states of Table 01.3 that a tile is put into; CALVED by an unbacked cluster is seen from the shift tables. -/
inductive Life where
  | dark | selftest | instar | live | frozen | calved
  deriving DecidableEq, Repr

/-- A tile's state and its parked flag. -/
structure LifeSt where
  st : Life := .dark
  parked : Bool := false
  deriving DecidableEq, Repr

/-! ### Clusters -/

/-- A granted read (R154): the row as it stood at the grant, and who gets it. -/
structure RdAcc where
  row : Nat
  data : Row
  badWords : List Nat
  poison : Bool
  tile : Nat
  req : Nat
  bp : Nat
  dests : List (Nat × Use)
  /-- tc in which its data reaches the requestors: the grant's, and 5 (R154). -/
  due : Nat := 0
  deriving DecidableEq, Repr

/-- A replay record (R232). -/
structure RRec where
  tile : Nat
  drain : Bool
  desc : Nat
  pass : Nat
  bank : Nat
  row : Nat
  group : Nat
  parity : Nat
  beat : Nat
  /-- Engine beat number of the beat it belongs to. -/
  no : Nat := 0
  vec : LVec
  so : List (BitVec 32)
  sr : List (BitVec 32)
  tFirst : Int × Int
  tr : Int × Int
  /-- The descriptor fields and, of a drain record, C, PM and A. -/
  lo : Nat
  tally : TEnt := {}
  /-- Moved to the buddy; served; the buddy agreed. -/
  moved : Bool := false
  served : Bool := false
  agreed : Bool := false
  deriving DecidableEq, Repr

/-- A head element of a merge leaf: index, value, poison. -/
structure MElt where
  idx : Nat
  val : Nat
  poison : Bool
  deriving DecidableEq, Repr

/-- A merge in progress (R144 to R146): the settings at its start and what it has collected. -/
structure Merge where
  mask : Nat
  srcq : Nat
  mode : Nat
  dstk : Bool
  dstTile : Nat
  dstq : Nat
  doneEn : Bool
  doneTile : Nat
  doneCtr : Nat
  row : Nat
  heads : List (Nat × List MElt) := []
  ended : List (Nat × Bool) := []
  lastIdx : List (Nat × Nat) := []
  /-- The run of equal indices being combined. -/
  cur : Option MElt := none
  out : List MElt := []
  orderErr : Bool := false
  finished : Bool := false
  writes : Nat := 0
  deriving DecidableEq, Repr

structure Cluster where
  /-- P_s (R152). -/
  ps : List (Nat × Nat) := []
  /-- First tc in which each slice may make its next access (R150). -/
  sliceTc : List (Nat × Nat) := []
  reads : List RdAcc := []
  targeted : List (Nat × Nat) := []
  /-- 0xD2 raised in the open beat of a parity (R161). -/
  tgtOvf : List (Nat × Bool) := []
  /-- tc of the last sequential scrub read, and the first in which another scrub read may be made (R159). -/
  scrubAt : Nat := 0
  scrubTc : Nat := 0
  /-- The pass under way: the tc it began, moved on by the tc in which EN or a calving stopped the scrubber; the tc of parking
  before it; and tc and parking of a stop that lasts (R162). -/
  passFrom : Nat := 0
  passParked : Nat := 0
  stopAt : Option (Nat × Nat) := none
  scrubLate : Bool := false
  scrubRaised : Bool := false
  merge : Option Merge := none
  records : List RRec := []
  /-- Targeted reads whose outcome a parity awaits (R236). -/
  scrubWait : List (Nat × Nat) := []
  taint : List (Nat × Bool) := []
  calvePend : Bool := false
  shift : Bool := false
  /-- The step that its work tainted in the running attempt, and in the attempt before it (R237). -/
  tainted : Option Nat := none
  lastTainted : Option Nat := none
  details : List Rec := []
  deriving DecidableEq, Repr

/-! ### Fields -/

/-- A beat a field has opened and not sealed. -/
structure OpenBeat where
  /-- Engine beat number. -/
  no : Nat
  parity : Nat
  /-- tc at which its tiles open it, and the latest tail done after that. -/
  openTc : Nat
  tailMax : Nat := 0
  overrun : Bool := false
  /-- The first beat after a barrier, which ramps (R202). -/
  ramp : Bool := false
  /-- A tile has opened it, at `openTc`: the field has opened it. -/
  opened : Bool := false
  deriving DecidableEq, Repr

structure Field where
  /-- Detail records held at the hub. -/
  details : List Rec := []
  /-- 0xE7 raised since the last beat opened. -/
  dropRaised : Bool := false
  /-- Beats whose open pulse was issued, and those sealed, since the last load (the model's own counts). -/
  pulses : Nat := 0
  seals : Nat := 0
  /-- Beats opened and not sealed, oldest first. -/
  beats : List OpenBeat := []
  /-- Engine beat number of the last beat sealed, and of the last beat opened. -/
  lastSealed : Option Nat := none
  openNo : Option Nat := none
  /-- Parity of the beat last opened; engine beat number the next pulse opens, none before a barrier; that beat is the
  first after a barrier (R202). -/
  par : Nat := 0
  nextNo : Option Nat := none
  ramp : Bool := false
  /-- tc of the last ramp trigger of the whole field: THAW or the end of parking (R86). -/
  rampAt : Option Nat := none
  /-- Condition 0x31: no further beat opens until a barrier (R199). -/
  withheld : Bool := false
  /-- A freeze has reached the hub (R203), at this tc. -/
  freezeReq : Option Nat := none
  /-- The last freeze was forced with beats open; it was so by the limit of FLD.FREEZE_CFG, with 0x33 (R199, R203). -/
  forced : Bool := false
  timedOut : Bool := false
  /-- START has come since the last load, so that beats open after a barrier (R212). -/
  started : Bool := false
  taintRaised : List (Nat × Bool) := []
  suspectSeen : List (Nat × Bool) := []
  /-- All backed tiles verified (R211). -/
  ready : Bool := false
  /-- Repeats of a rime command that is not acknowledged, and tc of the last (R188). -/
  repeats : Nat := 0
  repeatAt : Nat := 0
  /-- tc of the last droop event (R307); tc until which the di/dt limiter withholds vectors (R308); the last window's
  average current. -/
  droopAt : Option Nat := none
  /-- First tc of the next pass of the forwarded clock's calibration (R327). -/
  fwdAt : Nat := 0
  didtUntil : Nat := 0
  amps : Nat := 0
  /-- The cold start's self-test of the field has ended, with these physical clusters failed, by `25 * row + column` (R392). -/
  tested : Bool := false
  testFailed : List Nat := []
  /-- The microsecond last counted in FLD.PWR_STAT.DIDT_CNT. -/
  didtUs : Option Nat := none
  /-- tc at which the field last parked, and the tc it was parked before that (R162). -/
  parkedAt : Nat := 0
  parkedFor : Nat := 0
  /-- tc in which it last became FROZEN (R219). -/
  frozenAt : Nat := 0
  deriving DecidableEq, Repr

/-! ### The engine -/

/-- A summary entry of the moraine log (Table 09.5). -/
structure MorEnt where
  state : Nat := 0
  nrec : Nat := 0
  events : Nat := 0
  calvedAt : Nat := 0
  lastSeq : Nat := 0
  times : List Nat := []
  deriving DecidableEq, Repr

/-- An event record of the moraine log (Table 09.4). -/
structure MorRec where
  time : Nat
  pcx : Nat
  pcy : Nat
  field : Nat
  code : Nat
  outcome : Nat
  source : Nat
  beat : Nat
  seq : Nat
  deriving DecidableEq, Repr

/-- A copy of the moraine log: the summary by index, the ring by record number, the next record number (R240). -/
structure MorLog where
  summary : List (Nat × MorEnt) := []
  ring : List MorRec := []
  seq : Nat := 0
  deriving DecidableEq, Repr

/-- A physical cluster that awaits calving (R242, R245). -/
structure CalveReq where
  field : Nat
  pcx : Nat
  pcy : Nat
  /-- At the next commit, or now by a rollback. -/
  now : Bool
  /-- Mailbox slot of a RETIRE that answers when the calving completes. -/
  slot : Option Nat := none
  /-- SOURCE and BEAT of its moraine records (Table 09.4). -/
  source : Nat := 0
  beat : Nat := 0
  /-- Spares, by column and row, that failed their self-test in this calving (R244). -/
  failed : List (Nat × Nat) := []
  deriving DecidableEq, Repr

/-- An event that waits for Jitor to write it (Table 09.3), with the logical cluster whose threshold is then looked at. -/
structure HeldEvent where
  field : Nat
  pcx : Nat
  pcy : Nat
  code : Nat
  outcome : Nat
  source : Nat
  beat : Nat
  time : Nat
  cluster : Option Nat := none
  deriving DecidableEq, Repr

/-- A firn transaction that a controller holds (R253). -/
inductive FirnTx where
  /-- A granule read for entry `seq` of stream `n`. -/
  | read (n seq : Nat) (addr : Nat)
  /-- A posted write of a granule with its poison flag. -/
  | write (addr : Nat) (row : Row) (poison : Bool)
  deriving DecidableEq, Repr

structure Dependability where
  /-- The log in steward RAM, and as appended to NVS (R241). -/
  log : MorLog := {}
  nvs : MorLog := {}
  /-- The policy in the shadow (R242). -/
  policyN : Nat := 3
  policyWin : Nat := 86400
  calves : List CalveReq := []
  /-- Events met while Jitor is down, oldest first (Table 09.3). -/
  held : List HeldEvent := []
  /-- A cluster went unbacked in service: the engine stays FROZEN until an image is loaded (R245, R250). -/
  stuck : Bool := false
  deriving DecidableEq, Repr

/-- The beat tick train (R396). -/
structure Beats where
  /-- A train runs; its first tick has come. -/
  running : Bool := false
  ticked : Bool := false
  /-- Number and tc of the last tick, and tc of the next. -/
  no : Nat := 0
  at_ : Nat := 0
  due : Nat := 0
  /-- Period, ns. -/
  period : Nat := 0
  /-- Firn offset of the image last loaded in full. -/
  image : Option Nat := none
  deriving DecidableEq, Repr

/-- An exchange accepted (R213). -/
structure Exch where
  bank : Nat
  beat : Nat
  slot : Nat
  /-- Backed tiles that have not yet opened the beat; those that have run the exchange. -/
  left : Nat
  done : List Nat := []
  deriving DecidableEq, Repr

/-- An image load in progress or the last one made (R207). -/
structure Load where
  base : Nat
  standby : Bool
  slot : Nat
  running : Bool := true
  /-- The reload of tiles that a calving shifted (Table 09.6). -/
  calve : Bool := false
  /-- Tiles whose checks have not ended, tiles verified, and tiles that failed three times. -/
  left : Nat := 0
  verified : Nat := 0
  failed : List Nat := []
  deriving DecidableEq, Repr

/-- The I3C target (R347). -/
structure I3c where
  /-- Dynamic address; none until one is assigned. -/
  addr : Option Nat := none
  /-- Read pointer into the mirror. -/
  ptr : Nat := 0
  /-- Event enables of ENEC and DISEC; bit 0 is the in-band interrupt's. -/
  events : Nat := 0
  /-- Mandatory bytes of the in-band interrupts raised, oldest first (the model's own observation). -/
  ibi : List Byte := []
  deriving DecidableEq, Repr

/-! ### The TAP (R388 to R390) -/

/-- What drives the pins while a test instruction is in force; none: their functions. -/
inductive TapDrive where
  | none
  | extest
  | clamp
  | highz
  | extestPulse
  | extestTrain
  deriving DecidableEq, Repr

/-- The instruction register, the boundary register's preloaded values, what was last captured, and what drives the pins. -/
structure Jtag where
  ir : Nat := 2
  boundary : BitVec 92 := 0
  captured : BitVec 92 := 0
  drive : TapDrive := .none
  deriving DecidableEq, Repr

/-! ### Power, cooling and clocks -/

/-- The power controller beside its registers (R304 to R316). -/
structure Power where
  /-- Input draws of the last 100 control intervals in W, latest first. -/
  hist : List Nat := []
  /-- The compute fractions of the wings under the wing core cap, in 64ths. -/
  wing : List (Nat × Nat) := []
  /-- tc of the last 0x61; intervals over C with every class at its largest fraction. -/
  lastThrottle : Option Nat := none
  overFor : Nat := 0
  /-- tc at which the input was lost that the engine rides through (R316). -/
  ride : Option Nat := none
  /-- A frequency in MHz that waits for a tick, and the frequency a running change leads to (R301). -/
  freqPend : Option Nat := none
  freqGoal : Option Nat := none
  /-- The frequency asked for last while a change ran. -/
  freqAsked : Option Nat := none
  /-- Condition 0x60 raised in the open beat, by field (R307). -/
  droopRaised : List (Nat × Bool) := []
  /-- tc from which CURTAIL and FREEZE_N have been active, or of the last 0x63 for them. -/
  curAt : Option Nat := none
  frzAt : Option Nat := none
  /-- Parking in progress, resuming in progress. -/
  parking : Bool := false
  resuming : Bool := false
  /-- tc of the last reset, from which scrubbers and idle arrays count (R86, R162). -/
  scrubFrom : Nat := 0
  deriving DecidableEq, Repr

structure Thermal where
  /-- Consecutive 1 ms samples at a trip level (R319). -/
  tripFor : Nat := 0
  /-- The thermal cap, W. -/
  cap : Nat := 88000
  /-- THERM_ALERT_N low; the coolant outside its limits. -/
  alert : Bool := false
  coolant : Bool := false
  /-- tc at which a steward reset began to hold COOL_DEMAND (R320). -/
  heldAt : Option Nat := none
  deriving DecidableEq, Repr

structure Clocks where
  /-- tc at which the present switch began (R329). -/
  switchAt : Nat := 0
  /-- tc of the last changeover. -/
  doneAt : Nat := 0
  /-- tc at which LOCAL last became active or was lost. -/
  localAt : Nat := 0
  /-- A switch has changed over and its relock is to come. -/
  relock : Bool := false
  /-- A joined engine's tick has been realigned since the last loss (R333). -/
  realigned : Bool := true
  /-- A source that CLOCK_SELECT named and that has still to qualify. -/
  want : Option Nat := none
  deriving DecidableEq, Repr

/-! ### The steward -/

/-- What a command of a mailbox slot still waits for before it responds. -/
inductive Wait where
  | freeze
  | thaw
  | exchange
  | load
  | park
  | resume
  | retire
  | clock
  | join
  /-- COCOON_OUT, since this tc. -/
  | cocoonOut (since : Nat)
  deriving DecidableEq, Repr

/-- A body of calibration trims: what the factory or live calibration left, whose bytes the spec does not give, by number;
or the bytes of an imported set (R355). -/
inductive CalSet where
  | open_ (n : Nat)
  | bytes (l : List Byte)
  deriving DecidableEq, Repr

/-- A settings copy in NVS that passes its CRC: SEQ, the settings that differ from their factory values by address, and
Jitor's own (R350, R351). -/
structure Copy where
  seq : Nat := 0
  vals : List (Nat × Nat) := []
  policyN : Nat := 3
  policyWin : Nat := 86400
  ethPort : Nat := 30517
  ethFull : Nat := 0
  deriving DecidableEq, Repr

/-- The image of a Jitor slot: the factory's, whose bytes the spec does not give, or one that FW_UPDATE wrote. -/
inductive JitorImg where
  | factory
  | bytes (l : List Byte)
  deriving DecidableEq, Repr

/-- The steward's NVS but for the moraine log (Table 14.5). -/
structure Nvs where
  /-- The settings copies A and B; none where the CRC is bad. The copy a store is writing. -/
  a : Option Copy := some {}
  b : Option Copy := none
  /-- The last store left its copy invalid (R352). -/
  unfinished : Bool := false
  stores : Nat := 0
  calWrites : Nat := 1
  fwWrites : Nat := 0
  cal : CalSet := .open_ 0
  calSeq : Nat := 0
  exported : Bool := false
  user : Bool := false
  /-- Jitor slots A and B; none where no whole image is held. -/
  jitorA : Option JitorImg := some .factory
  jitorB : Option JitorImg := none
  /-- Minimum version in OTP and how often it was raised (R358). -/
  minVersion : Nat := 0
  /-- The firn repair list: how many soft repairs it has for a stack (R252). -/
  firnRepairs : List (Nat × Nat) := []
  raised : Nat := 0
  opsec : Nat := 0
  deriving DecidableEq, Repr

/-- The steward beside its registers. -/
structure Steward where
  /-- Request and response records, by `8 * slot + word`; slots 32 and 33 are management Ethernet's (R339, R348). -/
  req : List (Nat × Word) := []
  resp : List (Nat × Word) := []
  busy : List (Nat × Bool) := []
  /-- Busy slots in doorbell order. -/
  queue : List Nat := []
  waits : List (Nat × Option Wait) := []
  /-- Slots whose command a steward reset abandoned (R365). -/
  abandoned : List Nat := []
  /-- Words of the MSI-X tables, by `4096 * function + word` (Table 14.2). -/
  msixTab : List (Nat × Word) := []
  /-- A PCIe function that has been reset and not yet rung again gets no notification (Table 14.7). -/
  quiet : List Nat := []
  /-- 12 V present; ENGINE_RESET_N held low; main input within its range. -/
  aux : Bool := true
  resetLow : Bool := false
  mainOk : Bool := true
  /-- The steward runs: 12 V present and no reset held. -/
  on : Bool := true
  /-- A cold start runs, in MBX.MIRROR(0).PHASE; it stopped in a phase (STATE 7); the wings are unpowered (STATE 6). -/
  starting : Bool := false
  failed : Bool := false
  stopped : Bool := false
  /-- After a thermal trip only a reset starts the engine again (R364). -/
  tripped : Bool := false
  /-- Only the boot ROM answers (R358). -/
  romOnly : Bool := false
  /-- tc at which the present start began, and the phase it began from. -/
  startAt : Nat := 0
  startFrom : Nat := 0
  /-- The code of the last start and its phase (GET_STATUS word 4); the code of a stop that the next start reports, and
  whether its stop record was written (R316, R354). -/
  startCode : Nat := 0
  startPhase : Nat := 0
  stopCode : Nat := 0
  stopRecord : Bool := false
  /-- 0x88 raised in the present phase. -/
  late : Bool := false
  /-- Owner recorded by the first load, and whether an image was loaded since the cold start. -/
  owner : Option Nat := none
  loaded : Bool := false
  /-- 0x8A raised since the NVS gate was cleared; the gate clear at the last write of its enable (R354). -/
  heldRaised : Bool := false
  /-- A save of MGT.OPSEC held in steward RAM (R354). -/
  opsecHeld : Option Nat := none
  /-- The 16 MiB recovery buffer (R360). -/
  recovery : List Host.Cell := []
  /-- The settings MGT.ETH_PORT and MGT.ETH_FULL. -/
  ethPort : Nat := 0
  ethFull : Nat := 0
  nvs : Nvs := {}
  /-- The live calibration trims (R355). -/
  calLive : CalSet := .open_ 0
  /-- The Jitor slot that runs: false A, true B. -/
  jitorSlot : Bool := false
  /-- What resets the steward next writes to MGT.RESET.CAUSE. -/
  cause : Nat := 0
  /-- RESET_ENGINE accepted, at this tc. -/
  resetAt : Option Nat := none
  deriving DecidableEq, Repr

/-- What the event concentrator holds beside its registers (R367 to R377). -/
structure Evc where
  /-- Pulses that wait to be seen at a source. -/
  pulses : List (Nat × Nat) := []
  /-- tc at which a rate group's hold-off ends, while it runs (R374). -/
  hold : List (Nat × Option Nat) := []
  /-- Level sources that became pending during their group's hold-off and owe the host a message (R375). -/
  owed : List Nat := []
  /-- Sources in service on each core, the latest claimed first. -/
  insvc : List (Nat × List Nat) := []
  /-- MSI-X messages sent, function and vector, oldest first (the model's own observation). -/
  msix : List (Nat × Nat) := []
  deriving DecidableEq, Repr
/-! ### Edge streams (R258 to R269) -/

/-- A row on its way into a producer bank: a firn read asked for, or a row that a frame brought. -/
structure InRow where
  key : Nat
  addr : Nat
  data : Option (Row × Bool) := none
  /-- Ends a transfer. -/
  fin : Bool := false
  deriving DecidableEq, Repr

/-- A flit in a bank, with the firn address its row goes to and the parity of its row's run. -/
structure SFlit where
  data : Flit := 0
  poison : Bool := false
  addr : Nat := 0
  par : Nat := 0
  fin : Bool := false
  deriving DecidableEq, Repr

structure Strm where
  /-- The bank being filled and the one handed over, flits oldest first; which of the two is being filled. -/
  prod : List SFlit := []
  cons : List SFlit := []
  pbank : Nat := 0
  /-- The bank being filled is due for hand-over though not full. -/
  fin : Bool := false
  rows : List InRow := []
  key : Nat := 0
  /-- The run: its parity, its granules, those asked for and those that have entered a bank. -/
  par : Nat := 0
  run : Bool := false
  done : Bool := false
  total : Nat := 0
  asked : Nat := 0
  got : Nat := 0
  pendRun : Option Nat := none
  /-- Granules written since the position of a parity returned to its start. -/
  wpos : List (Nat × Nat) := []
  /-- Fetch list: its granules in order, and entries still to come; none before its count is read. -/
  list : List Nat := []
  listLeft : Option Nat := none
  /-- Zero flits that still pad the row being drained. -/
  pad : Nat := 0
  /-- Payload flits sent of the message being delivered, and flits owed to its router before any other. -/
  sent : Nat := 0
  out : List MFlit := []
  /-- The edge link of the message being delivered: its router and that router's input (R258). -/
  link : Nat × Nat := (0, 0)
  /-- Flits of the row on its way to the firn or the fabric that have left the bank. -/
  held : List SFlit := []
  /-- Flits of the row being filled that have entered a bank, and the last of them. -/
  rowAt : Nat := 0
  head : SFlit := {}
  /-- A poisoned frame is owed to the fabric, or a poisoned granule to this address of the firn (R265). -/
  owed : Bool := false
  owedAt : Nat := 0
  /-- First tc in which either side may move its next flit (R261). -/
  inTc : Nat := 0
  outTc : Nat := 0
  /-- First tc in which the thresholds of STR.WMARK apply, and HI and LO until then (R264). -/
  wmFrom : Nat := 0
  hiOld : Nat := 0
  loOld : Nat := 0
  /-- tc of the first flit in the bank being filled, and of the other's becoming empty (R262). -/
  first : Nat := 0
  empty : Nat := 0
  /-- tc from which the deadline counts, and whether the bank handed over has missed it (R266). -/
  base : Nat := 0
  missed : Bool := false
  deriving DecidableEq, Repr

/-- Streams that wait for a full controller (R253), and the tc from which FRN.STATUS.FULL_CNT has still to count. -/
structure FrnWait where
  since : Nat := 0
  who : List Nat := []
  deriving DecidableEq, Repr

/-- The resources that streams share (R266): controllers waited for by stack, the stream that follows the one served last in
round-robin (0..31 a stack, 32 + p a port, 64 + 8 k + d an edge link), and the first tc in which an edge link is free. -/
structure Edge where
  wait : List (Nat × FrnWait) := []
  turn : List (Nat × Nat) := []
  linkTc : List (Nat × Nat) := []
  deriving DecidableEq, Repr

/-! ### Fabric ports and the tick domain -/

/-- A DATA frame not yet acknowledged (R279). -/
structure InFlight where
  tag : Nat
  chan : Nat
  fr : Frame
  /-- Retransmissions so far, and tc at which it was last sent. -/
  retx : Nat := 0
  at_ : Nat := 0
  deriving DecidableEq, Repr

/-- A fabric port beside its registers (R273 to R286). -/
structure Port where
  inflight : List InFlight := []
  /-- Next sequence number to send, and next expected, by channel. -/
  txSeq : List (Nat × Nat) := []
  rxSeq : List (Nat × Nat) := []
  /-- Rows of credit granted and not used, by receiving channel. -/
  granted : List (Nat × Nat) := []
  /-- Heartbeats: the next HB_SEQ, the last received with its time in ns, and tc of the last valid one. -/
  hbSeq : Nat := 0
  hbSeen : Option Nat := none
  hbAt : Nat := 0
  hbTc : Nat := 0
  /-- First tc at which the next heartbeat leaves. -/
  hbDue : Nat := 0
  /-- Send times in ns of the heartbeats still to be echoed, by HB_SEQ. -/
  hbSent : List (Nat × Nat) := []
  /-- tc at which TRAIN or LOST was entered. -/
  since : Nat := 0
  /-- Round trips of the heartbeats in ns, by the tc at which they ended: those that no later one has undercut. -/
  rtts : List (Nat × Nat) := []
  /-- Packet numbers used on the transmit SA, whether 0x4B has been raised for it, its association, and the associations whose key was written since they
  were last used up (R284). -/
  pn : Nat := 0
  pnHigh : Bool := false
  an : Nat := 0
  keys : List Nat := []
  /-- Tag last accepted, by receiving channel. -/
  lastTag : List (Nat × Nat) := []
  deriving DecidableEq, Repr

/-- A vote a head holds (R293). -/
structure VoteRec where
  from_ : Nat
  step : Nat
  result : Nat
  deriving DecidableEq, Repr

/-- The hinge (R184 to R186). A lane's number is `2048 * wing + lane`, a group's `64 * wing + group`. -/
structure Hinge where
  /-- Failed training attempts of a lane, and the tc at which it was last trained. -/
  tries : List (Nat × Nat) := []
  trained : List (Nat × Nat) := []
  /-- tc of the CRC errors of a lane, latest first, as far as they may count for ERR_LIM. -/
  errs : List (Nat × List Nat) := []
  /-- Of a group: the first lane that may have the next turn, and the tc of the last visit. -/
  turn : List (Nat × Nat) := []
  visits : List (Nat × Nat) := []
  deriving DecidableEq, Repr

/-- The tick domain beside its registers (R287 to R297). -/
structure Dom where
  /-- FABRIC_JOIN accepted before the engine is ready: its three argument words (R291). -/
  asked : Option (Nat × Nat × Nat) := none
  /-- tc at which the engine reported ready. -/
  readyTc : Nat := 0
  /-- Period of the TICK frames, ns; number of the last tick whose TICK frame has come, or been counted as missing; tc at
  which 0x48 was last raised (R288, R289). -/
  period : Nat := 0
  tickFor : Option Nat := none
  tickLost : Option Nat := none
  /-- The step that opens at the next barrier; the engine beat number of the open step's first beat. -/
  opens : Option Nat := none
  first : Option Nat := none
  /-- The step whose beats run, and the step whose checkpoint is written and whose vote is not decided. -/
  running : Option Nat := none
  voting : Option Nat := none
  /-- The engine's own vote by step: 0 or the causing code; and what has gone upward, or been decided by the root. -/
  own : List (Nat × Nat) := []
  sent : List (Nat × Nat) := []
  votes : List VoteRec := []
  /-- tc of the first vote for the step that is to be committed next. -/
  firstVote : Option Nat := none
  /-- Code of a cause to vote FAIL that is not yet voted; 0 none. -/
  fail : Nat := 0
  /-- Checkpoint slot written last, the steps the two slots hold, and the two areas of COMMIT_POLICY. -/
  slot : Nat := 0
  slots : List (Nat × Nat) := []
  ckpt : Nat := 0
  hold : Nat := 0
  /-- Frozen at a step's checkpoint, while a calving goes on (R246); FROZEN already before the checkpoint. -/
  atCkpt : Bool := false
  ckptHeld : Bool := false
  /-- Frozen for a step's checkpoint that waits for the mesh to empty (R219, R238). -/
  ckptFreeze : Bool := false
  /-- Frozen by a rollback, until RESTART; the beat number of its barrier. -/
  rolled : Bool := false
  restart : Option Nat := none
  /-- An ORDER THAW waits for a freeze under way. -/
  thawWait : Bool := false
  /-- Engines reported lost. -/
  lost : List Nat := []
  /-- The epoch in which frames of another were last reported (R282). -/
  stale : Option Nat := none
  /-- Driftline frames sent other than DATA, by port, oldest first (the model's own observation). -/
  out : List (Nat × Frame) := []
  deriving DecidableEq, Repr

/-- What the engine laid out in the rows of a cocoon's frames for which Table 08.13 lists contents and no places: parts of
tiles, their registers, the clusters whose frames are marked CALVED, and by tile those rows as written, and the CRC of its
frame (R220). -/
structure Snap where
  tiles : List (Nat × Tile) := []
  csr : List (Nat × Word) := []
  calved : List Nat := []
  rows : List (Nat × List Row) := []
  crcs : List (Nat × Nat) := []
  deriving DecidableEq, Repr

/-- The engine, and the queue of commands that wait. Lists of pairs are sparse maps in one canonical form. -/
structure State where
  /-- The commands waiting, first in, first out. -/
  pending : List Instr := []
  /-- Tile cycles passed (the model's own clock). -/
  tc : Nat := 0
  /-- Names the next free value (the model's own). -/
  free : Nat := 0
  /-- What the last register read returned (the model's own observation). -/
  rdata : Word := 0
  /-- What the last bus or serial read returned (the model's own observation). -/
  bus : List Byte := []
  /-- Every addressable register, by 40-bit CSR address (R28). -/
  csr : List (Nat × Word) := []
  tiles : List (Nat × Tile) := []
  clusters : List (Nat × Cluster) := []
  fields : List (Nat × Field) := []
  /-- Life state of a tile where it differs from its field's. -/
  lifeT : List (Nat × Option LifeSt) := []
  /-- Life state of a field's tiles. -/
  lifeF : List (Nat × LifeSt) := []
  /-- Scratch, byte `4194304 * cluster + 512 * row + i` (R149). -/
  scratch : List Host.Cell := []
  /-- Scratch words whose stored parity bit is wrong, `128 * (8192 * cluster + row) + word` (R156). -/
  badPar : List (Nat × Bool) := []
  /-- Scratch rows whose poison bit is set, `8192 * cluster + row` (R149). -/
  poisonRow : List (Nat × Bool) := []
  /-- The firn, and the granules (address / 512) whose poison flag is set (R251, R254). -/
  firn : List Host.Cell := []
  firnPoison : List (Nat × Bool) := []
  /-- Transactions outstanding in each stack's controller, oldest first (R253). -/
  firnQ : List (Nat × List FirnTx) := []
  /-- A beat of the open step was tainted: the engine votes the step failed (R227). -/
  stepFail : Bool := false
  dep : Dependability := {}
  beats : Beats := {}
  evc : Evc := {}
  power : Power := {}
  thermal : Thermal := {}
  clocks : Clocks := {}
  steward : Steward := {}
  i3c : I3c := {}
  jtag : Jtag := {}
  load : Option Load := none
  exch : Option Exch := none
  hinge : Hinge := {}
  /-- Streams 0..65535 (R258). -/
  streams : List (Nat × Strm) := []
  edge : Edge := {}
  ports : List (Nat × Port) := []
  dom : Dom := {}
  /-- What the engine laid out in the frames behind a cocoon header that it wrote, by the header's firn address. -/
  cocoons : List (Nat × Option Snap) := []
  deriving DecidableEq, Repr

/-- The machine right after reset: every register at its Reset value, memories zero, queues empty (R11, R149). -/
def State.reset : State := {}

end Sys2Proof.Machine
end

