-- ==== Sys2Proof/Machine/Csr.lean ====
section
/-! DEFINITION. Addresses of the CSR space (R28), the stored registers, and their fields. -/

namespace Sys2Proof.Machine

/-! ### Coordinates (R21) -/

def tileNo (t : TileId) : Nat := (t.w.val * 672 + t.y.val) * 1152 + t.x.val
def clusterNo (c : ClusterId) : Nat := (c.w.val * 168 + c.cy.val) * 288 + c.cx.val

/-- The cluster of tile number `k`. -/
def tileCluster (k : Nat) : Nat := (k / 1152 / 4) * 288 + k % 1152 / 4
/-- T, the tile's index in its cluster. -/
def tileT (k : Nat) : Nat := 4 * (k / 1152 % 4) + k % 1152 % 4
/-- The engine field of cluster number `c`. -/
def clusterField (c : Nat) : Nat := (c / 288 / 168) * 84 + 12 * (c / 288 % 168 / 24) + c % 288 / 24
def tileField (k : Nat) : Nat := clusterField (tileCluster k)
/-- Tile number of tile T of cluster `c`. -/
def clusterTile (c t : Nat) : Nat := (c / 288 * 4 + t / 4) * 1152 + (c % 288 * 4 + t % 4)
def tileW (k : Nat) : Nat := k / 1152 / 672
def tileY (k : Nat) : Nat := k / 1152 % 672
def tileX (k : Nat) : Nat := k % 1152
def lcx (c : Nat) : Nat := c % 288 % 24
def lcy (c : Nat) : Nat := c / 288 % 168 % 24
/-- The cluster at (lcx, lcy) of field `f`. -/
def fieldCluster (f x y : Nat) : Nat :=
  ((f / 84) * 168 + (f % 84 / 12) * 24 + y) * 288 + (f % 84 % 12) * 24 + x
/-- The clusters of a field. -/
def fieldClusters (f : Nat) : List Nat :=
  (List.range 24).flatMap fun y => (List.range 24).map fun x => fieldCluster f x y
def clusterTiles (c : Nat) : List Nat := (List.range 16).map (clusterTile c)
def fieldTiles (f : Nat) : List Nat := (fieldClusters f).flatMap clusterTiles

/-! ### Addresses (Table 01.5) -/

def tileBase (k : Nat) : Nat := 0x4000000000 + tileW k * 0x800000000 + tileY k * 0x2000000 + tileX k * 0x4000
def cluBase (c : Nat) : Nat :=
  0x3000000000 + c / 288 / 168 * 0x800000000 + c / 288 % 168 * 0x8000000 + c % 288 * 0x40000
def fieldBase (f : Nat) : Nat :=
  0x2000000000 + f / 84 * 0x800000000 + f % 84 / 12 * 0x100000000 + f % 84 % 12 * 0x10000000
def wingBase (w : Nat) : Nat := 0x1000000000 + w * 0x800000000

/-- The register that covers offset `o` of a map. -/
def findReg (l : List RegDef) (o : Nat) : Option RegDef :=
  l.find? fun r => decide (r.off ≤ o) && (o - r.off) % r.stride == 0 && decide ((o - r.off) / r.stride < r.count)

/-- Registers of the engine-global space; the FRN and FAB blocks repeat every 64 KiB. -/
def findGlobal (a : Nat) : Option RegDef :=
  if 0x1000000 ≤ a then findReg strGlobalRegs a
  else if 0x800000 ≤ a then
    match findReg fabPortRegs (a % 0x10000) with
    | some r => if decide (a < 0xA00000) then some r else none
    | none => findReg fabDomRegs a
  else if 0x100000 ≤ a then
    match findReg frnStackRegs (a % 0x10000) with
    | some r => if decide (a < 0x300000) then some r else none
    | none => findReg frnTopRegs a
  else findReg globalRegs a

/-- The register at a 40-bit address (R28). -/
def regAt (a : Nat) : Option RegDef :=
  match a / 0x1000000000 with
  | 4 => findReg tileRegs (a % 0x4000)
  | 3 => findReg clusterRegs (a % 0x1000)
  | 2 => findReg fieldRegs (a % 0x10000)
  | 1 => findReg wingRegs (a % 0x1000000)
  | 0 => findGlobal a
  | _ => none

/-- What a register holds after reset (R11). TSQ.CFGB(0).BASE and FAB.PEER(0) differ from the other copies. -/
def resetWord (a : Nat) : Word :=
  match regAt a with
  | none => 0
  | some r =>
    if a / 0x1000000000 == 4 && a % 0x4000 == 0x50 then 0x1E0 else BitVec.ofNat 64 r.rst

/-! ### Registers and fields -/

/-- The stored word at an address. -/
def rd (s : State) (a : Nat) : Nat := (Sparse.get resetWord s.csr a).toNat

/-- The state with a word stored at an address. -/
def wr (s : State) (a v : Nat) : State :=
  { s with csr := Sparse.set resetWord s.csr a (BitVec.ofNat 64 v) }

/-- A word with bits `lo + w - 1 : lo` replaced. -/
def setBits (old lo w v : Nat) : Nat :=
  old / 2 ^ (lo + w) * 2 ^ (lo + w) + v % 2 ^ w * 2 ^ lo + old % 2 ^ lo

/-- A field of the block at `b`. -/
def getF (s : State) (b : Nat) (f : Fld) : Nat := bits (rd s (b + f.off)) f.lo f.w
def isF (s : State) (b : Nat) (f : Fld) : Bool := getF s b f != 0

/-- The state with a field replaced. -/
def putF (s : State) (b : Nat) (f : Fld) (v : Nat) : State :=
  wr s (b + f.off) (setBits (rd s (b + f.off)) f.lo f.w v)

/-- A saturating count. -/
def incF (s : State) (b : Nat) (f : Fld) (n : Nat) : State :=
  putF s b f (satAdd (2 ^ f.w - 1) (getF s b f) n)

/-- A count that wraps. -/
def wrapF (s : State) (b : Nat) (f : Fld) (n : Nat) : State := putF s b f (getF s b f + n)

/-- The largest value seen. -/
def maxF (s : State) (b : Nat) (f : Fld) (v : Nat) : State :=
  putF s b f (min (2 ^ f.w - 1) (max (getF s b f) v))

def setF (s : State) (b : Nat) (f : Fld) : State := putF s b f 1

/-- The state with the registers of addresses that `p` holds of at their reset values. -/
def resetRegs (s : State) (p : Nat → Bool) : State := { s with csr := Sparse.drop p s.csr }

/-! ### Parts of the state -/

def tile (s : State) (k : Nat) : Tile := Sparse.get (fun _ => {}) s.tiles k
def setTile (s : State) (k : Nat) (t : Tile) : State :=
  { s with tiles := Sparse.set (fun _ => {}) s.tiles k t }
def modTile (s : State) (k : Nat) (f : Tile → Tile) : State := setTile s k (f (tile s k))
def cluster (s : State) (c : Nat) : Cluster := Sparse.get (fun _ => {}) s.clusters c
def setCluster (s : State) (c : Nat) (v : Cluster) : State :=
  { s with clusters := Sparse.set (fun _ => {}) s.clusters c v }
def modCluster (s : State) (c : Nat) (f : Cluster → Cluster) : State := setCluster s c (f (cluster s c))
def field (s : State) (f : Nat) : Field := Sparse.get (fun _ => {}) s.fields f
def setField (s : State) (f : Nat) (v : Field) : State :=
  { s with fields := Sparse.set (fun _ => {}) s.fields f v }
def modField (s : State) (f : Nat) (g : Field → Field) : State := setField s f (g (field s f))

/-- A small sparse map with one default. -/
abbrev look {α : Type} (d : α) (m : List (Nat × α)) (k : Nat) : α := Sparse.get (fun _ => d) m k
abbrev put {α : Type} [DecidableEq α] (d : α) (m : List (Nat × α)) (k : Nat) (v : α) : List (Nat × α) :=
  Sparse.set (fun _ => d) m k v

def ctxOf (s : State) (k n : Nat) : Ctx := look {} (tile s k).ctx n
def setCtx (s : State) (k n : Nat) (c : Ctx) : State := modTile s k fun t => { t with ctx := put {} t.ctx n c }
def modCtx (s : State) (k n : Nat) (f : Ctx → Ctx) : State := setCtx s k n (f (ctxOf s k n))
def queueOf (s : State) (k q : Nat) : List Slot := look [] (tile s k).q q
def setQueue (s : State) (k q : Nat) (l : List Slot) : State := modTile s k fun t => { t with q := put [] t.q q l }
def reqsOf (s : State) (k r : Nat) : List XReq := look [] (tile s k).reqs r
def setReqs (s : State) (k r : Nat) (l : List XReq) : State :=
  modTile s k fun t => { t with reqs := put [] t.reqs r l }
/-- Adds a request behind requestor `r`'s others (R151). It may be presented from the next tc on (R154). -/
def present (s : State) (k r : Nat) (x : XReq) : State :=
  setReqs s k r (reqsOf s k r ++ [{ x with from_ := s.tc + 1 }])

/-! ### Life states (Table 01.3) -/

/-- The field's column hole stands elsewhere than on a bad cluster of a row in use: the cluster is unbacked (R24). -/
def backed (s : State) (c : Nat) : Bool :=
  let b := fieldBase (clusterField c)
  let pcy := lcy c + b2n (decide (getF s b F.FLD_SHIFT_ROW_HOLE ≤ lcy c))
  let d := 8 * pcy
  let pcx := lcx c + b2n (decide (getF s b (F.FLD_SHIFT_COL_HOLE.at d) ≤ lcx c))
  !(bit (getF s b (F.FLD_SHIFT_COL_BAD.at d)) pcx)

/-- What a tile was last put into. -/
def lifeSt (s : State) (k : Nat) : LifeSt :=
  match look none s.lifeT k with
  | some l => l
  | none => look {} s.lifeF (tileField k)

/-- The state a tile is in: CALVED while its cluster is unbacked (R24). -/
def life (s : State) (k : Nat) : Life := if backed s (tileCluster k) then (lifeSt s k).st else .calved

/-- The tile's clock runs: parking has not stopped it (R67). -/
def clockOn (s : State) (k : Nat) : Bool := !(lifeSt s k).parked

def setLife (s : State) (k : Nat) (l : LifeSt) : State := { s with lifeT := put none s.lifeT k (some l) }

/-- Puts every tile of a field into a state. -/
def setLifeField (s : State) (f : Nat) (l : LifeSt) : State :=
  { s with lifeF := put {} s.lifeF f l, lifeT := Sparse.drop (fun k => tileField k == f) s.lifeT }

/-- The number a life state has in TSQ.STATUS.STATE. -/
def Life.code : Life → Nat
  | .dark => 0 | .selftest => 1 | .instar => 2 | .live => 3 | .frozen => 4 | .calved => 5

end Sys2Proof.Machine
end

