-- ==== Sys2Proof/Machine/Flags.lean ====
section
/-! DEFINITION. Conditions: tokens, counts and detail records (R189, R190), error bits, and taint (R226). -/

namespace Sys2Proof.Machine

/-- The latest condition behind EVC source `n` has a code (R367). -/
def condition (s : State) (n code : Nat) : State :=
  putF (putF s 0 (F.EVC_SRC_STAT_LAST_CODE.at (8 * n)) code) 0 F.MBX_MIRROR_LAST_CODE code

/-- The hub of field `f` adds `n` reports of a code to its count and marks the code seen (R189). -/
def hubCount (s : State) (f code n : Nat) : State :=
  let b := fieldBase f
  let s := incF s b (F.RIM_CODE_CNT_COUNT.at (8 * code)) n
  let m := F.RIM_SUMMARY_SEEN.at (8 * (code / 64))
  condition (putF s b m (getF s b m ||| 2 ^ (code % 64))) f code

/-- A detail record found no room (R190): it is counted, and the first one of a beat raises 0xE7 as a token. -/
def dropRecord (s : State) (f code : Nat) : State :=
  let b := fieldBase f
  let s := incF s b (F.RIM_CODE_CNT_DROPPED.at (8 * code)) 1
  let s := incF s b F.RIM_REP_STAT_DROPPED 1
  if (field s f).dropRaised then s
  else setF (hubCount (modField s f fun v => { v with dropRaised := true }) f 0xE7 1) b F.RIM_ERR_DROP

/-- A record arrives at the hub, which holds 512 (R190). -/
def hubRecord (s : State) (f : Nat) (r : Rec) : State :=
  if (field s f).details.length < 512 then modField s f fun v => { v with details := v.details ++ [r] }
  else dropRecord s f r.code

/-- A condition that a field hub raises itself. -/
def hubReport (s : State) (f code detail : Nat) : State :=
  let src := f / 84 * 2 ^ 21 + f % 84 / 12 * 96 * 2 ^ 11 + f % 84 % 12 * 96
  hubRecord (hubCount s f code 1) f { code, unit := 5, source := src, beat := 0, detail }

/-- A condition that a tile reports (R189, R190): a token in its queue, and a detail record while a place is free. -/
def report (s : State) (k code unit detail : Nat) : State :=
  let r : Rec := { code, unit, source := tileW k * 2 ^ 21 + tileY k * 2 ^ 11 + tileX k,
                   beat := getF s (tileBase k) F.TSQ_BEAT_BEAT_NO % 65536, detail }
  let s := modTile s k fun t => { t with tokens := put 0 t.tokens code (look 0 t.tokens code + 1) }
  if (tile s k).details.length < 2 then modTile s k fun t => { t with details := t.details ++ [r] }
  else dropRecord s (tileField k) code

/-- Work of parity `p` in cluster `c` is tainted for a cause (R226): the hub reports 0x24 once per beat, and the engine
votes the open step failed (R227). -/
def taint (s : State) (c p code : Nat) : State :=
  let f := clusterField c
  let s := modCluster s c fun v => { v with taint := put false v.taint p true, tainted := s.dom.running }
  let s := { s with stepFail := true }
  if look false (field s f).taintRaised p then s
  else
    let s := modField s f fun v => { v with taintRaised := put false v.taintRaised p true }
    hubReport (incF s (fieldBase f) F.FLD_RPL_STAT_TAINTED 1) f 0x24 code

/-- The beat parity most recently opened in a tile (TSQ.BEAT.PARITY). -/
def parity (s : State) (k : Nat) : Nat := getF s (tileBase k) F.TSQ_BEAT_PARITY

/-- The beat parity of a context (R33). -/
def bpOf (s : State) (k n : Nat) : Nat := getF s (tileBase k) (F.TSQ_CTX_STATE_BP.at (8 * n))

/-- Poison is consumed by unit `unit` of tile `k` in work of parity `bp`: condition 0x11, and the beat is tainted
(R38, R95, R133, R226). -/
def poisonConsumed (s : State) (k unit bp detail : Nat) : State :=
  taint (report s k 0x11 unit detail) (tileCluster k) bp 0x11

/-- A poisoned register is used where R38 raises 0x11. -/
def poisonUsed (s : State) (k n : Nat) : State :=
  setF (poisonConsumed s k (n * 32) (bpOf s k n) 0) (tileBase k) F.TSQ_ERR_POISON_USED

/-- A context faults with a code (R68): it enters FAULT, keeps its PC and the code, and reports. -/
def ctxFault (s : State) (k n code : Nat) : State :=
  let b := tileBase k
  let pc := getF s b (F.TSQ_CTX_STATE_PC.at (8 * n))
  let s := putF s b (F.TSQ_CTX_STATE_STATE.at (8 * n)) 3
  let s := putF s b (F.TSQ_CTX_STATE_FPC.at (8 * n)) pc
  let s := putF s b (F.TSQ_CTX_STATE_FCODE.at (8 * n)) code
  report s k code (n * 32) pc

/-- The illegal-instruction fault (R43). -/
def illegal (s : State) (k n : Nat) : State := setF (ctxFault s k n 0x90) (tileBase k) F.TSQ_ERR_ILLEGAL

/-- The instruction-parity fault (R39): the beat is tainted (R226). -/
def ibParity (s : State) (k n : Nat) : State :=
  taint (setF (ctxFault s k n 0x96) (tileBase k) F.TSQ_ERR_IB_PARITY) (tileCluster k) (bpOf s k n) 0x96

/-- A bit of LAT.FPX is noted; the change from zero reports 0xB0 once (R116). -/
def noteFpx (s : State) (k : Nat) (f : Fld) : State :=
  let b := tileBase k
  let was := rd s (b + f.off)
  let s := setF s b f
  if was == 0 then report s k 0xB0 1 0 else s

/-- A pulse at EVC source `n` (Table 15.1), seen when the source's input is next sampled. -/
def pulse (s : State) (n : Nat) : State :=
  { s with evc := { s.evc with pulses := put 0 s.evc.pulses n (look 0 s.evc.pulses n + 1) } }

end Sys2Proof.Machine
end

