-- ==== Sys2Proof/Machine/Ops.lean ====
section
/-! DEFINITION. The named operations over a tile's registers, counters and queues, and over scratch rows. -/

namespace Sys2Proof.Machine

/-! ### Time -/

/-- The clock moved on to tc `n`, the earliest in which the command that takes place may do so; not back (log entry 4). -/
def waitTc (s : State) (n : Nat) : State := { s with tc := max s.tc n }

/-! ### General registers (R37, R38) -/

/-- The address of TSQ.GREG(n, i). -/
def gAddr (k n i : Nat) : Nat := tileBase k + 0x400 + 128 * n + 8 * i

def getG (s : State) (k n i : Nat) : Word := BitVec.ofNat 64 (rd s (gAddr k n i))
def gPoison (s : State) (k n i : Nat) : Bool := bit (getF s (tileBase k) (F.TSQ_GPOI_TAGS.at (8 * n))) i

/-- Sets or clears the poison tag of a register. -/
def setTag (s : State) (k n i : Nat) (p : Bool) : State :=
  putF s (tileBase k) ⟨F.TSQ_GPOI_TAGS.off + 8 * n, i, 1⟩ (b2n p)

/-- Writes a register and its tag. A result still on its way to the register is superseded (R44). -/
def setG (s : State) (k n i : Nat) (v : Word) (p : Bool) : State :=
  let s := setTag (wr s (gAddr k n i) v.toNat) k n i p
  if (ctxOf s k n).muls.isEmpty then s
  else modCtx s k n fun c => { c with muls := c.muls.filter fun m => m.d != i }

/-! ### Contexts (Table 02.1) -/

def ctxState (s : State) (k n : Nat) : Nat := getF s (tileBase k) (F.TSQ_CTX_STATE_STATE.at (8 * n))
def setCtxState (s : State) (k n v : Nat) : State := putF s (tileBase k) (F.TSQ_CTX_STATE_STATE.at (8 * n)) v
def pcOf (s : State) (k n : Nat) : Nat := getF s (tileBase k) (F.TSQ_CTX_STATE_PC.at (8 * n))
def setPc (s : State) (k n v : Nat) : State := putF s (tileBase k) (F.TSQ_CTX_STATE_PC.at (8 * n)) v

/-- The context is blocked no longer, and first eligible to issue in the tc after this one (R36). -/
def Ctx.release (c : Ctx) (tc : Nat) : Ctx := { c with hold := .none, resume := max c.resume (tc + 1) }

/-- Starts a context at its ENTRY with parity `p`; it first issues in the following tc (R58, R65). -/
def startCtx (s : State) (k n p : Nat) : State :=
  let b := tileBase k
  let s := setPc s k n (getF s b (F.TSQ_CTX_CTL_ENTRY.at (8 * n)))
  let s := putF s b (F.TSQ_CTX_STATE_BP.at (8 * n)) p
  let s := modCtx s k n fun c => { c.release s.tc with pre := [] }
  setCtxState s k n 1

/-! ### Event counters (R58 to R60) -/

/-- `e` events reach counter `c` in this tc (R59). -/
def event (s : State) (k c e : Nat) : State :=
  modTile s k fun t => { t with arrivals := put 0 t.arrivals c (look 0 t.arrivals c + e) }

/-- Events for every counter whose event source and selector match (Table 02.8). -/
def sourceEvent (s : State) (k src sel : Nat) : State :=
  let b := tileBase k
  (List.range 16).foldl (fun s c =>
    if getF s b (F.TSQ_CTR_SRC_SRC.at (8 * c)) == src &&
        (src != 1 || getF s b (F.TSQ_CTR_SRC_SEL.at (8 * c)) == sel) then event s k c 1 else s) s

/-! ### Times in tc (R6) -/

/-- The tile frequency, MHz. -/
def freq (s : State) : Nat := getF s 0 F.PWR_DVFS_FREQ_NOW

/-- Nanoseconds and microseconds as tc at the present frequency. -/
def nsTc (s : State) (ns : Nat) : Nat := ns * freq s / 1000
def usTc (s : State) (us : Nat) : Nat := us * freq s
/-- tc of an on-wafer time in us, which scales with the tile clock (R6). -/
def waferTc (us : Nat) : Nat := 1250 * us

/-! ### Operand queues (R61 to R63) -/

def qEn (s : State) (k q : Nat) : Bool := isF s (tileBase k) (F.TSQ_QCFG_EN.at (8 * q))
def qDepth (s : State) (k q : Nat) : Nat := getF s (tileBase k) (F.TSQ_QCFG_DEPTH.at (8 * q))
/-- Flits neither written nor reserved. -/
def qFree (s : State) (k q : Nat) : Nat :=
  if qEn s k q then qDepth s k q - (queueOf s k q).length else 0
/-- Flits written and not yet freed, TSQ.QSTAT.LEVEL. -/
def qLevel (s : State) (k q : Nat) : Nat := ((queueOf s k q).filter fun f => f.data.isSome).length
def qHeld (s : State) (k q : Nat) : Nat := ((queueOf s k q).filter fun f => f.data.isNone).length

/-- Written flits at the head of a queue, up to the first reservation. -/
def qReady (s : State) (k q : Nat) : List Slot := (queueOf s k q).takeWhile fun f => f.data.isSome

/-- Whole flits a function unit can take: a partly popped head does not count (R63). -/
def qWhole (s : State) (k q : Nat) : Nat := ((qReady s k q).filter fun f => f.popped == 0).length

/-- Whole messages held, TSQ.QSTAT.MSGS. -/
def qMsgs (s : State) (k q : Nat) : Nat :=
  ((queueOf s k q).filter fun f => f.msg && f.last && f.data.isSome &&
    ((queueOf s k q).any fun g => g.msg && g.first && g.popped == 0 && decide (g.id + g.len = f.id))).length

/-- A fresh number of the tile. -/
def freshId (s : State) (k n : Nat) : State × Nat :=
  let i := (tile s k).nextId
  (modTile s k fun t => { t with nextId := t.nextId + n }, i)

/-- Reserves `n` flits of a queue; the first gets the number answered, the others count on. -/
def reserve (s : State) (k q n : Nat) (mk : Nat → Nat → Slot) : State × Nat :=
  let (s, i) := freshId s k n
  (setQueue s k q (queueOf s k q ++ (List.range n).map fun j => mk (i + j) j), i)

/-- Writes a reserved flit. A reservation that was released is no longer there, and nothing is written. -/
def fillSlot (s : State) (k q id : Nat) (v : Flit) (p : Bool) : State :=
  setQueue s k q ((queueOf s k q).map fun f => if f.id == id && f.data.isNone then { f with data := some v, poison := p, at_ := s.tc } else f)

/-- Whether flits freed before it carried poison in the message that the next flit goes on with (R171). -/
def freedPoison (was : Bool) (l : List Slot) : Bool := l.foldl (fun b f => f.msg && !f.last && (b || f.poison)) was

/-- The `n` head flits of a queue leave it. -/
def qFreed (s : State) (k q n : Nat) : State :=
  let l := queueOf s k q
  modTile (setQueue s k q (l.drop n)) k fun t => { t with msgBad := put false t.msgBad q (freedPoison (look false t.msgBad q) (l.take n)) }

/-- Frees the `n` head flits; one of which words are popped counts as one of them (log entry 127). -/
def qDrop (s : State) (k q n : Nat) : State := qFreed s k q n

/-- A function unit takes `n` whole flits: a partly popped head is discarded first (R63). -/
def qTake (s : State) (k q n : Nat) : State × List (Flit × Bool) :=
  let l := (queueOf s k q).dropWhile fun f => f.popped != 0
  (qFreed s k q ((queueOf s k q).length - l.length + n), (l.take n).map fun f => (f.data.getD 0, f.poison))

/-- A queue that holds nothing (R61). -/
def qEmpty (s : State) (k q : Nat) : State := modTile (setQueue s k q []) k fun t => { t with msgBad := put false t.msgBad q false }

/-- Words of a flit. -/
def flitWord (v : Flit) (i : Nat) : Word := v.extractLsb' (64 * i) 64

/-! ### Scratch rows (R149, R150, R156 to R158) -/

/-- The key of a row of cluster `c`. -/
def rowKey (c r : Nat) : Nat := 8192 * c + r % 8192

/-- The 512 bytes of a row. -/
def readRow (s : State) (c r : Nat) : Row :=
  BitVec.ofNat 4096 (ofBytes (Mem.bytes s.scratch (512 * rowKey c r) 512))

def rowPoisoned (s : State) (c r : Nat) : Bool := look false s.poisonRow (rowKey c r)

/-- Words of a row whose stored parity is wrong. -/
def rowBad (s : State) (c r : Nat) : List Nat :=
  (s.badPar.filter fun e => e.2 && e.1 / 128 == rowKey c r).map fun e => e.1 % 128

/-- An armed parity injection falls on a write of row `r` that writes word `w`: its parity is stored inverted
(CLU.PAR_INJ). -/
def inject (s : State) (c r : Nat) (covers : Nat → Bool) : State :=
  let b := cluBase c
  if isF s b F.CLU_PAR_INJ_ARMED && getF s b F.CLU_PAR_INJ_ROW == r % 8192 && covers (getF s b F.CLU_PAR_INJ_WORD) then
    let s := { s with badPar := put false s.badPar (128 * rowKey c r + getF s b F.CLU_PAR_INJ_WORD) true }
    putF s b F.CLU_PAR_INJ_ARMED 0
  else s

/-- A whole-row write: data, valid parity, and the mark of the data (Table 06.1). -/
def writeRow (s : State) (c r : Nat) (v : Row) (p : Bool) : State :=
  let s := { s with scratch := Mem.write s.scratch (512 * rowKey c r) (toBytes 512 v.toNat),
                    badPar := Sparse.drop (fun k => k / 128 == rowKey c r) s.badPar,
                    poisonRow := put false s.poisonRow (rowKey c r) p }
  inject s c r fun _ => true

/-- A partial write of 64-bit word `w`: the parity of its two 32-bit words, and the poison bit only set (R150). -/
def writePart (s : State) (c r w : Nat) (v : Word) (p : Bool) : State :=
  let s := { s with scratch := Mem.write s.scratch (512 * rowKey c r + 8 * w) (toBytes 8 v.toNat),
                    badPar := Sparse.drop (fun k => k / 2 == 64 * rowKey c r + w) s.badPar,
                    poisonRow := if p then put false s.poisonRow (rowKey c r) true else s.poisonRow }
  inject s c r fun i => i / 2 == w

/-- Sets a row's poison bit (R160). -/
def poisonRowSet (s : State) (c r : Nat) : State := { s with poisonRow := put false s.poisonRow (rowKey c r) true }

/-- Word `w` of a row, and its flits. -/
def rowWord (v : Row) (w : Nat) : Word := v.extractLsb' (64 * w) 64
def rowFlit (v : Row) (j : Nat) : Flit := v.extractLsb' (256 * j) 256
def rowByte (v : Row) (i : Nat) : Byte := v.extractLsb' (8 * i) 8
def rowOfFlits (l : List Flit) : Row := BitVec.ofNat 4096 (l.foldr (fun f acc => f.toNat + 2 ^ 256 * acc) 0)
/-- A row with the bytes `bs` put at byte `i`. -/
def rowPatch (v : Row) (i : Nat) (bs : List Byte) : Row :=
  BitVec.ofNat 4096 (setBits v.toNat (8 * i) (8 * bs.length) (ofBytes bs))

/-- The row address an instruction forms (R49). -/
def rowAddr (s : State) (k bp : Nat) (pp : Bool) (a : Nat) : Nat :=
  (a + (if pp then getF s (tileBase k) F.TSQ_PP_STRIDE * bp else 0)) % 8192

/-! ### CRC-32C (R40, R204) -/

/-- One byte of a CRC-32C, the polynomial reflected. -/
def crcByte (crc : Nat) (b : Byte) : Nat :=
  (List.range 8).foldl (fun c _ => if c % 2 == 1 then c / 2 ^^^ 0x82F63B78 else c / 2) (crc ^^^ b.toNat)

/-- CRC-32C of a byte string. -/
def crc32c (bs : List Byte) : Nat := bs.foldl crcByte 0xFFFFFFFF ^^^ 0xFFFFFFFF

/-! ### Completion of row moves, stores and instruction-buffer writes -/

/-- A row move of context `n` completes in tc `at_`; an RFENCE that waited for the last one ends (R56). -/
def rowDone (s : State) (k n at_ : Nat) : State :=
  modCtx s k n fun c =>
    let left := c.rowsOut - 1
    if left == 0 && c.hold == .rfence then { c.release at_ with rowsOut := left } else { c with rowsOut := left }

/-- A row store of parity `bp` by context `n`, granted now, completes 4 tc on (R66, R154). -/
def storeDone (s : State) (k n bp : Nat) : State :=
  rowDone (modTile s k fun t => { t with storesOut := put 0 t.storesOut (8 * bp + n) (look 0 t.storesOut (8 * bp + n) - 1) }) k n (s.tc + 4)

/-- An instruction-buffer store has completed: an IFENCE that waited for the last one ends, its context's prefetch
buffer emptied (R42). -/
def ibStoreDone (s : State) (k id : Nat) : State :=
  let s := modTile s k fun t => { t with stores := t.stores.filter fun x => x != id }
  (List.range 8).foldl (fun s n =>
    match (ctxOf s k n).hold with
    | .ifence l =>
      let l' := l.filter fun x => x != id
      modCtx s k n fun c => if l'.isEmpty then { c.release s.tc with pre := [] } else { c with hold := .ifence l' }
    | _ => s) s

/-- Writes one instruction-buffer position. -/
def setIb (s : State) (k pc : Nat) (v : Word) (bad : Bool) : State :=
  modTile s k fun t => { t with ib := put {} t.ib (pc % 512) { insn := v, bad } }

/-- Every context of BEAT_MASK has executed its BEATEND for the beat of parity `p` (R66). -/
def maskEnded (s : State) (k p : Nat) : Bool :=
  (List.range 8).all fun n => !(bit (getF s (tileBase k) F.TSQ_BEATCFG_BEAT_MASK) n) || look false (tile s k).ended (8 * p + n)

/-- TSQ.BEAT.PHASE: SEALED once the field has sealed the beat most recently opened (R196). -/
def phaseOf (s : State) (k : Nat) : Nat :=
  if (tile s k).openNo.isSome && (tile s k).openNo == (field s (tileField k)).lastSealed then 2
  else getF s (tileBase k) F.TSQ_BEAT_PHASE

/-- The beat most recently opened passes from OPEN to TAIL once every BEATEND of it is executed (R196). -/
def phaseUpdate (s : State) (k : Nat) : State :=
  let b := tileBase k
  if (tile s k).openNo.isSome && getF s b F.TSQ_BEAT_PHASE == 0 && maskEnded s k (parity s k) then putF s b F.TSQ_BEAT_PHASE 1
  else s

/-- The next free value's name. -/
def nextFree (s : State) : State × Nat := ({ s with free := s.free + 1 }, s.free)

end Sys2Proof.Machine
end

