-- ==== Sys2Proof/Machine/TileDecode.lean ====
section
/-! DEFINITION. The 64-bit instruction of the tile sequencer: its fields, which words are legal (R43 to R57,
Tables 02.3 to 02.7, 03.3, 05.2), and an encoder. -/

namespace Sys2Proof.Machine

/-- The operations of the tile sequencer. -/
inductive TOp where
  | add
  | sub
  | and
  | or
  | xor
  | shl
  | shr
  | sra
  | mul
  | mulhu
  | min
  | max
  | minu
  | maxu
  | cmpeq
  | cmplt
  | cmpltu
  | movhi
  | popc
  | clz
  | qpop
  | qpeek
  | qhdr
  | qdrop
  | br
  | beqz
  | bnez
  | bltz
  | bgez
  | call
  | jr
  | loop
  | stop
  | nop
  | arm
  | disarm
  | wait
  | signal
  | ctrrd
  | rldq
  | rstq
  | rldg
  | rstg
  | rcpy
  | rzero
  | ifill
  | sendq
  | sendrow
  | sendg
  | liss
  | lwld
  | ldrain
  | vadd
  | vsub
  | vmul
  | vfma
  | vmax
  | vmin
  | vmov
  | vrcp
  | vrsq
  | vexp2
  | vlog2
  | vcvt
  | vrsum
  | vrmax
  | viadd
  | scvt
  | smatch
  | stopk
  | sfetch
  | sverify
  | csrr
  | csrw
  | ifence
  | rfence
  | beatend
  | yield
  deriving DecidableEq, Repr

/-- CLASS and OP of an operation. -/
def TOp.code : TOp → Nat × Nat
  | .add => (0, 0)
  | .sub => (0, 1)
  | .and => (0, 2)
  | .or => (0, 3)
  | .xor => (0, 4)
  | .shl => (0, 5)
  | .shr => (0, 6)
  | .sra => (0, 7)
  | .mul => (0, 8)
  | .mulhu => (0, 9)
  | .min => (0, 10)
  | .max => (0, 11)
  | .minu => (0, 12)
  | .maxu => (0, 13)
  | .cmpeq => (0, 14)
  | .cmplt => (0, 15)
  | .cmpltu => (0, 16)
  | .movhi => (0, 17)
  | .popc => (0, 18)
  | .clz => (0, 19)
  | .qpop => (1, 0)
  | .qpeek => (1, 1)
  | .qhdr => (1, 2)
  | .qdrop => (1, 3)
  | .br => (2, 0)
  | .beqz => (2, 1)
  | .bnez => (2, 2)
  | .bltz => (2, 3)
  | .bgez => (2, 4)
  | .call => (2, 5)
  | .jr => (2, 6)
  | .loop => (2, 8)
  | .stop => (2, 9)
  | .nop => (2, 10)
  | .arm => (3, 0)
  | .disarm => (3, 1)
  | .wait => (3, 2)
  | .signal => (3, 3)
  | .ctrrd => (3, 4)
  | .rldq => (4, 0)
  | .rstq => (4, 1)
  | .rldg => (4, 2)
  | .rstg => (4, 3)
  | .rcpy => (4, 4)
  | .rzero => (4, 5)
  | .ifill => (4, 6)
  | .sendq => (5, 0)
  | .sendrow => (5, 1)
  | .sendg => (5, 2)
  | .liss => (6, 0)
  | .lwld => (6, 1)
  | .ldrain => (6, 2)
  | .vadd => (7, 0)
  | .vsub => (7, 1)
  | .vmul => (7, 2)
  | .vfma => (7, 3)
  | .vmax => (7, 4)
  | .vmin => (7, 5)
  | .vmov => (7, 6)
  | .vrcp => (7, 7)
  | .vrsq => (7, 8)
  | .vexp2 => (7, 9)
  | .vlog2 => (7, 10)
  | .vcvt => (7, 11)
  | .vrsum => (7, 12)
  | .vrmax => (7, 13)
  | .viadd => (7, 14)
  | .scvt => (8, 0)
  | .smatch => (8, 1)
  | .stopk => (8, 2)
  | .sfetch => (8, 3)
  | .sverify => (8, 4)
  | .csrr => (9, 0)
  | .csrw => (9, 1)
  | .ifence => (10, 0)
  | .rfence => (10, 1)
  | .beatend => (11, 0)
  | .yield => (11, 1)

/-- The operation that CLASS and OP name; none for a reserved class or an OP that its class does not define (R43). -/
def TOp.ofCode : Nat → Nat → Option TOp
  | 0, 0 => some .add
  | 0, 1 => some .sub
  | 0, 2 => some .and
  | 0, 3 => some .or
  | 0, 4 => some .xor
  | 0, 5 => some .shl
  | 0, 6 => some .shr
  | 0, 7 => some .sra
  | 0, 8 => some .mul
  | 0, 9 => some .mulhu
  | 0, 10 => some .min
  | 0, 11 => some .max
  | 0, 12 => some .minu
  | 0, 13 => some .maxu
  | 0, 14 => some .cmpeq
  | 0, 15 => some .cmplt
  | 0, 16 => some .cmpltu
  | 0, 17 => some .movhi
  | 0, 18 => some .popc
  | 0, 19 => some .clz
  | 1, 0 => some .qpop
  | 1, 1 => some .qpeek
  | 1, 2 => some .qhdr
  | 1, 3 => some .qdrop
  | 2, 0 => some .br
  | 2, 1 => some .beqz
  | 2, 2 => some .bnez
  | 2, 3 => some .bltz
  | 2, 4 => some .bgez
  | 2, 5 => some .call
  | 2, 6 => some .jr
  | 2, 8 => some .loop
  | 2, 9 => some .stop
  | 2, 10 => some .nop
  | 3, 0 => some .arm
  | 3, 1 => some .disarm
  | 3, 2 => some .wait
  | 3, 3 => some .signal
  | 3, 4 => some .ctrrd
  | 4, 0 => some .rldq
  | 4, 1 => some .rstq
  | 4, 2 => some .rldg
  | 4, 3 => some .rstg
  | 4, 4 => some .rcpy
  | 4, 5 => some .rzero
  | 4, 6 => some .ifill
  | 5, 0 => some .sendq
  | 5, 1 => some .sendrow
  | 5, 2 => some .sendg
  | 6, 0 => some .liss
  | 6, 1 => some .lwld
  | 6, 2 => some .ldrain
  | 7, 0 => some .vadd
  | 7, 1 => some .vsub
  | 7, 2 => some .vmul
  | 7, 3 => some .vfma
  | 7, 4 => some .vmax
  | 7, 5 => some .vmin
  | 7, 6 => some .vmov
  | 7, 7 => some .vrcp
  | 7, 8 => some .vrsq
  | 7, 9 => some .vexp2
  | 7, 10 => some .vlog2
  | 7, 11 => some .vcvt
  | 7, 12 => some .vrsum
  | 7, 13 => some .vrmax
  | 7, 14 => some .viadd
  | 8, 0 => some .scvt
  | 8, 1 => some .smatch
  | 8, 2 => some .stopk
  | 8, 3 => some .sfetch
  | 8, 4 => some .sverify
  | 9, 0 => some .csrr
  | 9, 1 => some .csrw
  | 10, 0 => some .ifence
  | 10, 1 => some .rfence
  | 11, 0 => some .beatend
  | 11, 1 => some .yield
  | _, _ => none

/-- An instruction: its operation, the register fields D, A, B and the class-specific bits 41:0 (Table 02.3). -/
structure TInsn where
  op : TOp
  d : BitVec 4
  a : BitVec 4
  b : BitVec 4
  low : BitVec 42
  deriving DecidableEq, Repr

/-- The word of an instruction. -/
def TInsn.encode (i : TInsn) : Word :=
  BitVec.ofNat 4 i.op.code.1 ++ BitVec.ofNat 6 i.op.code.2 ++ i.d ++ i.a ++ i.b ++ i.low

/-- The instruction a word spells, before its zero fields are looked at. -/
def TInsn.decode (w : Word) : Option TInsn :=
  (TOp.ofCode (w.extractLsb' 60 4).toNat (w.extractLsb' 54 6).toNat).map fun op =>
    { op, d := w.extractLsb' 50 4, a := w.extractLsb' 46 4, b := w.extractLsb' 42 4, low := w.extractLsb' 0 42 }

/-- Bits `lo + n - 1 : lo` of the class-specific part. -/
def TInsn.fld (i : TInsn) (lo n : Nat) : Nat := bits i.low.toNat lo n
def TInsn.flag (i : TInsn) (k : Nat) : Bool := bit i.low.toNat k

/-- Only the bits of `mask` are set in the class-specific part. -/
def TInsn.only (i : TInsn) (mask : Nat) : Bool := i.low &&& BitVec.ofNat 42 mask == i.low

/-- The class-specific bits that an operation may set (R43). -/
def TOp.mask : TOp → Nat
  | .movhi => 0x200FFFFFFFF
  | .popc | .clz => 0
  | .qpop | .qpeek | .qhdr => 0x700000000
  | .qdrop => 0x7000001FF
  | .br | .beqz | .bnez | .bltz | .bgez | .call => 0x1FF
  | .jr | .stop | .nop => 0
  | .loop => 0x200FFFF01FF
  | .arm => 0xF0007FFFF
  | .disarm | .ctrrd => 0xF00000000
  | .wait | .signal => 0xF0000FFFF
  | .rldq | .rstq => 0x18700000000
  | .rldg | .rstg => 0x1800000003F
  | .rcpy | .rzero => 0x18000000000
  | .ifill => 0x18000000007
  | .sendq => 0xFFFFFFC07
  | .sendrow => 0x18FFFFFFC00
  | .sendg => 0xFFFFF0C00
  | .lwld => 0x29F007F00FF
  | .liss => 0x29F7FFFC0FF
  | .ldrain => 0x29F7F8700FF
  | .vcvt => 0xFF3E004000
  | .vadd | .vsub | .vmul | .vmax | .vmin | .viadd => 0x73FF04000
  | .vfma => 0x73FFFC000
  | .vmov | .vrcp | .vrsq | .vexp2 | .vlog2 | .vrsum | .vrmax => 0x73E004000
  | .scvt | .smatch | .stopk | .sverify => 0x9F003800FF
  | .sfetch => 0x9F003F00FF
  | .csrr | .csrw => 0x7FFF
  | .ifence | .rfence | .beatend | .yield => 0
  | _ => 0x200FFFFFFFF

/-- Which of D, A, B an operation's description names. -/
def TOp.regs : TOp → Bool × Bool × Bool
  | .movhi | .popc | .clz => (true, true, false)
  | .qpop | .qpeek | .qhdr | .ctrrd | .csrr => (true, false, false)
  | .beqz | .bnez | .bltz | .bgez | .jr | .loop => (false, true, false)
  | .qdrop | .br | .call | .stop | .nop | .arm | .disarm | .wait | .signal => (false, false, false)
  | .rldq | .rstq | .rzero | .ifill => (false, true, false)
  | .rldg => (true, true, false)
  | .rstg | .rcpy => (false, true, true)
  | .sendq => (false, true, true)
  | .sendrow | .sendg => (true, true, true)
  | .lwld | .liss => (false, true, true)
  | .ldrain => (false, false, true)
  | .vadd | .vsub | .vmul | .vfma | .vmax | .vmin | .vmov | .vrcp | .vrsq | .vexp2 | .vlog2 | .vcvt | .vrsum | .vrmax
  | .viadd => (true, false, false)
  | .scvt => (true, true, false)
  | .smatch | .stopk | .sfetch | .sverify => (true, true, true)
  | .csrw => (false, false, true)
  | .ifence | .rfence | .beatend | .yield => (false, false, false)
  | _ => (true, true, true)

/-- Illegal operand values and zero fields that depend on other bits of the same instruction. -/
def TInsn.operandsOk (i : TInsn) : Bool :=
  match i.op with
  | .movhi => i.flag 41
  | .loop => if i.flag 41 then i.a == 0 else i.fld 16 16 == 0
  | .qdrop => decide (1 ≤ i.fld 0 9) && decide (i.fld 0 9 ≤ 256)
  | .sendq | .sendrow => decide (i.fld 10 2 ≤ 1) && (i.fld 10 2 == 1 || i.b == 0)
  | .sendg => decide (i.fld 10 2 ≤ 1) && (i.fld 10 2 == 1 || i.b == 0) && i.d.toNat % 4 == 0
  | .vcvt => decide (i.d.toNat < 8) && decide (i.fld 36 4 ≤ 5)
  | .vadd | .vsub | .vmul | .vfma | .vmax | .vmin | .vmov | .vrcp | .vrsq | .vexp2 | .vlog2 | .vrsum | .vrmax
  | .viadd => decide (i.d.toNat < 8)
  | .csrr | .csrw => i.fld 0 3 == 0 && (!i.flag 14 || i.fld 12 2 == 0)
  | .add | .sub | .and | .or | .xor | .shl | .shr | .sra | .mul | .mulhu | .min | .max | .minu | .maxu | .cmpeq
  | .cmplt | .cmpltu => if i.flag 41 then i.b == 0 else i.fld 0 32 == 0
  | _ => true

/-- The instruction breaks none of R43's rules. -/
def TInsn.legal (i : TInsn) : Bool :=
  i.only i.op.mask && (i.op.regs.1 || i.d == 0) && (i.op.regs.2.1 || i.a == 0) && (i.op.regs.2.2 || i.b == 0) &&
    i.operandsOk

/-- The legal instruction a word spells; none where R43 faults the context with 0x90. -/
def TInsn.ofWord (w : Word) : Option TInsn := (TInsn.decode w).filter TInsn.legal

end Sys2Proof.Machine
end

