-- ==== Sys2Proof/Machine/Issue.lean ====
section
/-! DEFINITION. Fetching, blocking and issuing a tile instruction (R34, R36, R39, R41, R43, R47). -/

namespace Sys2Proof.Machine

/-- The outcome type of every meaning. -/
abbrev Out := Host.Outcome State Fault Refusal

/-- The position after `pc`, and the loop stack after the instruction at `pc` has issued (R47). -/
def succPc (pc : Nat) (l : List LoopEnt) : Nat × List LoopEnt :=
  match l with
  | [] => ((pc + 1) % 512, [])
  | e :: r =>
    if e.fin != pc then ((pc + 1) % 512, e :: r)
    else if e.count ≤ 1 then ((pc + 1) % 512, r)
    else (e.start, { e with count := e.count - 1 } :: r)

/-- What stands at a buffer position. -/
def ibAt (s : State) (k pc : Nat) : PreEnt :=
  let e := look {} (tile s k).ib pc
  { pc, insn := e.insn, bad := e.bad }

/-- The instruction a context issues next: prefetched, or fetched anew (R41). -/
def fetch (s : State) (k n : Nat) : PreEnt :=
  match (ctxOf s k n).pre with
  | e :: _ => if e.pc == pcOf s k n then e else ibAt s k (pcOf s k n)
  | [] => ibAt s k (pcOf s k n)

/-- How many positions a context may fetch now: it fetches no position past PC + 2 of a CSRW to IB_DATA whose store is not
yet made (R41), and otherwise two ahead. -/
def fetchQuota (c : Ctx) : Nat := (c.ibStores.map Prod.snd).foldl min 2

/-- The prefetched positions kept where the context goes on at `pc` and then at `pc2`. -/
def keptPre (old : List PreEnt) (pc pc2 : Nat) : List PreEnt :=
  match old with
  | e :: r => if e.pc == pc then e :: (r.takeWhile fun f => f.pc == pc2).take 1 else []
  | [] => []

/-- The prefetch buffer after an issue: old entries kept, the next two positions fetched as far as `quota` goes (R41). -/
def refill (s : State) (k quota : Nat) (old : List PreEnt) (pc : Nat) (loops : List LoopEnt) : List PreEnt :=
  let pc2 := (succPc pc loops).1
  let kept := keptPre old pc pc2
  kept ++ (([pc, pc2].drop kept.length).take quota).map (ibAt s k)

/-- The registers an instruction reads at issue. -/
def sources (i : TInsn) : List Nat :=
  let a := i.a.toNat; let b := i.b.toNat; let d := i.d.toNat
  let g (x : Nat) : List Nat := if x ≥ 16 then [x - 16] else []
  match i.op with
  | .movhi | .popc | .clz => [a]
  | .qpop | .qpeek | .qhdr | .ctrrd | .csrr => []
  | .qdrop | .br | .call | .stop | .nop | .arm | .disarm | .wait | .signal => []
  | .ifence | .rfence | .beatend | .yield => []
  | .beqz | .bnez | .bltz | .bgez | .jr => [a]
  | .loop => if i.flag 41 then [] else [a]
  | .rldq | .rstq | .rldg | .rzero | .ifill => [a]
  | .rstg | .rcpy => [a, b]
  | .sendq => if i.fld 10 2 == 1 then [a, b] else [a]
  | .sendrow => if i.fld 10 2 == 1 then [a, b, d] else [a, d]
  | .sendg => (if i.fld 10 2 == 1 then [a, b] else [a]) ++ [d, d + 1, d + 2, d + 3]
  | .lwld | .liss => [a, b]
  | .ldrain => [b]
  | .scvt => [a, d]
  | .smatch | .stopk | .sfetch | .sverify => [a, b, d]
  | .csrw => [b]
  | .vadd | .vsub | .vmul | .vfma | .vmax | .vmin | .vmov | .vrcp | .vrsq | .vexp2 | .vlog2 | .vcvt | .vrsum | .vrmax
  | .viadd => g (i.fld 25 5) ++ g (i.fld 20 5) ++ g (i.fld 15 5)
  | _ => if i.flag 41 then [a] else [a, b]

/-- The blocking reason an instruction itself meets (Table 02.2). -/
def insnWhy (s : State) (k n : Nat) (i : TInsn) : Nat :=
  let q := i.fld 32 3
  if (ctxOf s k n).muls.any fun m => (sources i).contains m.d then 6
  else match i.op with
    | .qpop | .qpeek | .qhdr => if (qReady s k q).isEmpty then 1 else 0
    | .qdrop => if (qReady s k q).length < i.fld 0 9 then 1 else 0
    | .rldq => if qFree s k q < 16 then 2 else 0
    | .rstq => if qWhole s k q < 16 then 1 else 0
    | .sendq | .sendrow | .sendg => if 4 ≤ (tile s k).sendq.length then 5 else 0
    | .lwld | .liss | .ldrain => if 2 ≤ (tile s k).lat.queue.length then 5 else 0
    | .scvt | .smatch | .stopk | .sfetch | .sverify => if 2 ≤ (tile s k).spu.queue.length then 5 else 0
    | .vadd | .vsub | .vmul | .vfma | .vmax | .vmin | .vmov | .vrcp | .vrsq | .vexp2 | .vlog2 | .vcvt | .vrsum | .vrmax
    | .viadd => if 2 ≤ (tile s k).vq.length then 5 else 0
    | _ => 0

/-- TSQ.CTX_STATE.WHY: why a context does not issue, 0 when it is ready. The prefetch buffer is empty after a taken branch, and
where it may not yet be filled again (R41), under WHY 6. -/
def why (s : State) (k n : Nat) : Nat :=
  let c := ctxOf s k n
  let w := match c.hold with
    | .row | .csr | .rfence | .ifence _ => 4
    | .wait _ _ => 3
    | .yield _ last => if last < s.tc then 0 else 7
    | .none => 0
  if w != 0 then w
  else
    if c.pre.isEmpty && (decide (s.tc < c.resume) || fetchQuota c == 0) then 6
    else
      let e := fetch s k n
      if e.bad then 0
      else match TInsn.ofWord e.insn with
        | none => 0
        | some i => insnWhy s k n i

/-- A context in RUN that nothing blocks, in a tc in which it may issue (R36), in a LIVE tile whose clock runs (R67). -/
def ready (s : State) (k n : Nat) : Bool :=
  life s k == .live && clockOn s k && ctxState s k n == 1 && decide ((ctxOf s k n).resume ≤ s.tc) && why s k n == 0

/-- The context that issues: the first ready one from P, where the tile has not issued in this tc (R34). -/
def issuer (s : State) (k : Nat) : Option Nat :=
  if s.tc < (tile s k).issueTc then none
  else ((List.range 8).map fun j => ((tile s k).p + j) % 8).find? fun n => ready s k n

/-- The tcs after this one from which more of a tile may issue: the next issue slot, contexts that resume, YIELDs that end. -/
def turns (s : State) (k : Nat) : List Nat :=
  ((tile s k).issueTc :: (List.range 8).flatMap fun n =>
    let c := ctxOf s k n
    c.resume :: (match c.hold with | .yield _ last => [last + 1] | _ => [])).filter fun x => s.tc < x

/-- The clock at the first tc from this one on in which a context of the tile issues, with no further event (log entry 4). -/
def nextTurn (s : State) (k : Nat) : State :=
  if (issuer s k).isSome then s
  else
    match ((turns s k).filter fun x => (issuer (waitTc s x) k).isSome).min? with
    | some x => waitTc s x
    | none => s

/-- Where an instruction leaves its context. -/
inductive Flow where
  /-- On to the next position. -/
  | next
  /-- As `next`, and no position past the next two is fetched until the store of this CSRW is made (R41). -/
  | store (id : Nat)
  /-- A taken branch, jump or call (R46). -/
  | jump (pc : Nat)
  /-- A loop entry pushed (R47). -/
  | push (e : LoopEnt)
  /-- The context leaves RUN for IDLE (0) or DONE (2), its loop stack empty (R46, R57). -/
  | leave (st : Nat)
  /-- The context has faulted; its PC stays (R68). -/
  | fault

/-- After an issue by `n`: the tile's slot of this tc is used, P moves on (R34), and a YIELD that waited for `n` waits for it no
longer (R57). -/
def afterIssue (s : State) (k n : Nat) : State :=
  let s := modTile s k fun t => { t with p := (n + 1) % 8, issueTc := s.tc + 1 }
  (List.range 8).foldl (fun s j =>
    match (ctxOf s k j).hold with
    | .yield l last =>
      let l' := l.filter fun x => x != n
      if l'.isEmpty then modCtx s k j fun c => c.release s.tc
      else if l'.length == l.length then s else modCtx s k j fun c => { c with hold := .yield l' last }
    | _ => s) s

/-- The context's stores to IB_DATA after it has fetched `n` more positions. -/
def Ctx.fetched (c : Ctx) (n : Nat) : List (Nat × Nat) := c.ibStores.map fun e => (e.1, e.2 - n)

/-- Moves a context past its instruction at `pc`, whose prefetch buffer and loop stack were `c`'s. A taken branch delays its
next issue by 2 tc (R46). -/
def advance (s : State) (k n pc : Nat) (c : Ctx) (f : Flow) : State :=
  let atHand := match c.pre with | e :: _ => e.pc == pc | [] => false
  let old := if atHand then c.pre.drop 1 else []
  let c := if atHand then c else { c with ibStores := c.fetched 1 }
  let (p1, l1) := succPc pc c.loops
  let goTo (s : State) (p : Nat) (l : List LoopEnt) : State :=
    let kept := keptPre old p (succPc p l).1
    let pre := refill s k (fetchQuota c) old p l
    modCtx (setPc s k n p) k n fun x => { x with loops := l, pre, ibStores := c.fetched (pre.length - kept.length) }
  match f with
  | .next => goTo s p1 l1
  | .store id =>
    modCtx (goTo s p1 l1) k n fun x => { x with ibStores := x.ibStores ++ [(id, 2 - x.pre.length)] }
  | .jump p =>
    modCtx (setPc s k n p) k n fun x => { x with loops := l1, pre := [], ibStores := c.fetched 2, resume := max x.resume (s.tc + 3) }
  | .push e => goTo s ((pc + 1) % 512) (e :: l1)
  | .leave st => modCtx (setPc (setCtxState s k n st) k n p1) k n fun x => { x with loops := [], pre := [] }
  | .fault => s

/-- Context `n` of tile `k` issues the instruction it fetches, which is an `op` (R34 to R43). An instruction with bad
parity or an illegal one faults the context instead. The clock moves on to the tile's next issue (log entry 4). Where another
context issues or nothing does, or the instruction fetched is another one, the command's step does not come about (log entry 1). -/
def issue (op : TOp) (t : TileId) (n : Fin 8) (body : State → TInsn → State × Flow) (s0 : State) : Out :=
  let k := tileNo t
  let s := nextTurn s0 k
  if issuer s k != some n.val then .next s0
  else
    let e := fetch s k n
    if e.bad then .next (afterIssue (ibParity s k n) k n)
    else match TInsn.ofWord e.insn with
      | none => .next (afterIssue (illegal s k n) k n)
      | some i =>
        if i.op != op then .next s0
        else
          let pc := pcOf s k n
          let c := ctxOf s k n
          let (s, f) := body (modCtx s k n fun x => { x with hold := .none }) i
          let s := match f with | .fault => s | _ => wrapF s (tileBase k) F.TSQ_ISSUE_CNT_ISSUED 1
          .next (afterIssue (advance s k n pc c f) k n)

end Sys2Proof.Machine
end

