-- ==== Sys2Proof/Machine/Operands.lean ====
section
/-! DEFINITION. The operand forms of the tile instructions (R44, R49, R50). -/

namespace Sys2Proof.Machine

/-- A of an ALU instruction. -/
def operandA (s : State) (k n : Nat) (i : TInsn) : Word := getG s k n i.a.toNat

/-- The immediate of an ALU instruction: bits 31:0, sign-extended (R44). -/
def aluImm (i : TInsn) : Word := (i.low.extractLsb' 0 32).signExtend 64

/-- The second operand: the immediate when bit 41 is 1, else B (R44). -/
def operand2 (s : State) (k n : Nat) (i : TInsn) : Word :=
  if i.flag 41 then aluImm i else getG s k n i.b.toNat

/-- A source register is poisoned (R38). -/
def operandsPoisoned (s : State) (k n : Nat) (i : TInsn) : Bool :=
  gPoison s k n i.a.toNat || (!i.flag 41 && gPoison s k n i.b.toNat)

/-- The effective row address in register `x` (R49). -/
def rowOperand (s : State) (k n : Nat) (i : TInsn) (x : Nat) : Nat :=
  rowAddr s k (bpOf s k n) (i.flag 39) (getG s k n x).toNat

/-- Register `x` after its row address was formed: one more when PI is 1 (R49). -/
def postInc (s : State) (k n : Nat) (i : TInsn) (x : Nat) : State :=
  if i.flag 40 then setG s k n x (getG s k n x + 1) (gPoison s k n x) else s

/-- 0x11 where register `x` is poisoned and used as R38 lists. -/
def usePoison (s : State) (k n : Nat) (xs : List Nat) : State :=
  if xs.any fun x => gPoison s k n x then poisonUsed s k n else s

end Sys2Proof.Machine
end

