-- ==== Sys2Proof/Machine/Alu.lean ====
section
/-! DEFINITION. ALU instructions, class 0x0 (R44, Table 02.4). -/

namespace Sys2Proof.Machine

/-- D takes `f` of A and the second operand; the tag is set when a source is poisoned (R38). -/
def aluBody (k n : Nat) (f : Word → Word → Word) (s : State) (i : TInsn) : State × Flow :=
  (setG s k n i.d.toNat (f (operandA s k n i) (operand2 s k n i)) (operandsPoisoned s k n i), .next)

def alu (op : TOp) (f : Word → Word → Word) (t : TileId) (n : Fin 8) (s : State) : Out :=
  issue op t n (aluBody (tileNo t) n f) s

/-- D takes `f` of A alone. -/
def alu1 (op : TOp) (f : Word → Word) (t : TileId) (n : Fin 8) (s : State) : Out :=
  issue op t n (fun s i => (setG s (tileNo t) n i.d.toNat (f (operandA s (tileNo t) n i))
    (gPoison s (tileNo t) n i.a.toNat), .next)) s

/-- As `alu`, with the result on its way until MUL_RESULT_READY. -/
def aluSlow (op : TOp) (f : Word → Word → Word) (t : TileId) (n : Fin 8) (s : State) : Out :=
  issue op t n (fun s i =>
    let k := tileNo t
    let m : MulPend := { d := i.d.toNat, v := f (operandA s k n i) (operand2 s k n i), poison := operandsPoisoned s k n i, due := s.tc + 3 }
    (modCtx s k n fun c => { c with muls := (c.muls.filter fun x => x.d != m.d) ++ [m] }, .next)) s

def shiftOf (b : Word) : Nat := b.toNat % 64
def ofBool (b : Bool) : Word := if b then 1 else 0

/-- Number of set bits. -/
def popcount (a : Word) : Word := BitVec.ofNat 64 ((List.range 64).foldl (fun acc i => acc + b2n (a.getLsbD i)) 0)
/-- Leading zeros, 0..64. -/
def leadingZeros (a : Word) : Word := if a = 0 then 64 else BitVec.ofNat 64 (63 - Nat.log2 a.toNat)

def mulOf (a b : Word) : Word := a * b
def mulhuOf (a b : Word) : Word := BitVec.ofNat 64 (a.toNat * b.toNat / 2 ^ 64)
def minOf (a b : Word) : Word := if a.slt b then a else b
def maxOf (a b : Word) : Word := if a.slt b then b else a
def minuOf (a b : Word) : Word := if a.ult b then a else b
def maxuOf (a b : Word) : Word := if a.ult b then b else a
/-- A with bits 63:32 replaced by the immediate (MOVHI). -/
def movhiOf (a b : Word) : Word := b.extractLsb' 0 32 ++ a.extractLsb' 0 32

def execAdd (t : TileId) (n : Fin 8) (s : State) : Out := alu .add (· + ·) t n s
def execSub (t : TileId) (n : Fin 8) (s : State) : Out := alu .sub (· - ·) t n s
def execAnd (t : TileId) (n : Fin 8) (s : State) : Out := alu .and (· &&& ·) t n s
def execOr (t : TileId) (n : Fin 8) (s : State) : Out := alu .or (· ||| ·) t n s
def execXor (t : TileId) (n : Fin 8) (s : State) : Out := alu .xor (· ^^^ ·) t n s
def execShl (t : TileId) (n : Fin 8) (s : State) : Out := alu .shl (fun a b => a <<< shiftOf b) t n s
def execShr (t : TileId) (n : Fin 8) (s : State) : Out := alu .shr (fun a b => a >>> shiftOf b) t n s
def execSra (t : TileId) (n : Fin 8) (s : State) : Out := alu .sra (fun a b => a.sshiftRight (shiftOf b)) t n s
def execMul (t : TileId) (n : Fin 8) (s : State) : Out := aluSlow .mul mulOf t n s
def execMulhu (t : TileId) (n : Fin 8) (s : State) : Out := aluSlow .mulhu mulhuOf t n s
def execMin (t : TileId) (n : Fin 8) (s : State) : Out := alu .min minOf t n s
def execMax (t : TileId) (n : Fin 8) (s : State) : Out := alu .max maxOf t n s
def execMinu (t : TileId) (n : Fin 8) (s : State) : Out := alu .minu minuOf t n s
def execMaxu (t : TileId) (n : Fin 8) (s : State) : Out := alu .maxu maxuOf t n s
def execCmpeq (t : TileId) (n : Fin 8) (s : State) : Out := alu .cmpeq (fun a b => ofBool (a == b)) t n s
def execCmplt (t : TileId) (n : Fin 8) (s : State) : Out := alu .cmplt (fun a b => ofBool (a.slt b)) t n s
def execCmpltu (t : TileId) (n : Fin 8) (s : State) : Out := alu .cmpltu (fun a b => ofBool (a.ult b)) t n s
def execMovhi (t : TileId) (n : Fin 8) (s : State) : Out := alu .movhi movhiOf t n s
def execPopc (t : TileId) (n : Fin 8) (s : State) : Out := alu1 .popc popcount t n s
def execClz (t : TileId) (n : Fin 8) (s : State) : Out := alu1 .clz leadingZeros t n s

/-- The oldest MUL or MULHU result of a context reaches its register, 3 tc after its issue (R44). -/
def execMulResultReady (t : TileId) (n : Fin 8) (s : State) : Out :=
  let k := tileNo t
  match (ctxOf s k n).muls with
  | [] => .next s
  | m :: r =>
    if clockOn s k then
      let s := waitTc s m.due
      .next (setG (modCtx s k n fun c => { c with muls := r }) k n m.d m.v m.poison)
    else .next s

end Sys2Proof.Machine
end

