-- ==== Sys2Proof/Config.lean ====
section
/-! DEFINITION. What the spec leaves open as a value: opaque constants that nothing in Lean can evaluate (log entry 2). -/

namespace Sys2Proof.Config

/-- A word the spec does not fix, by its number. -/
opaque freeWord : Nat → BitVec 64
/-- Whether something outside the engine that the spec gives no command for has come about, by its number: the replica
partner's acknowledgement (R293). -/
opaque freeBit : Nat → Bool
/-- A row the spec does not fix, by its number: what a granule beyond correction holds (R254). -/
opaque freeRow : Nat → BitVec 4096
/-- A row of a tile's frame for which Table 08.13 lists the contents and no places, by its number in the frame and the values it
holds; and from such rows the tile's state, its CRC, and what they restore (R220, R221). -/
opaque frameRow : Nat → List Nat → BitVec 4096
opaque frameState : BitVec 4096 → Nat
opaque frameCrc : BitVec 4096 → Nat
/-- Row `i` of the `n`-th checkpoint that comes back from the replica partner's firn, after its header (R239). -/
opaque replicaRow : (n i : Nat) → BitVec 4096
/-- A flit the spec does not fix: what a pointer mismatch sends with its poison mark (R265). -/
opaque freeFlit : Nat → BitVec 256
/-- VRCP, VRSQ, VEXP2, VLOG2 of an FP32 lane: which of the results within 2 units in the last place the unit gives (R53),
as the number of steps, mod 5 and less 2, from the nearest. -/
opaque approx : (op : Nat) → BitVec 32 → BitVec 32
/-- The I3C identity values that the spec names and does not give (R347). -/
opaque i3cPid : BitVec 48
opaque i3cBcr : BitVec 8
opaque i3cDcr : BitVec 8
opaque i3cMxds : List (BitVec 8)
/-- The bytes of a body of calibration trims, by its number (R355). -/
opaque calBody : Nat → List (BitVec 8)
/-- Its length in bytes. -/
opaque calLen : Nat
/-- The module's serial number, and the versions of the boot ROM, of the module and of the factory's Jitor image (R344). -/
opaque serial : BitVec 64
opaque romVersion : BitVec 16
opaque moduleRevision : BitVec 16
opaque factoryVersion : Nat
/-- Whether the factory's Jitor image asks to raise the OTP minimum (R358). -/
opaque factoryRaises : Bool
/-- The version in a Jitor image's header, and whether it asks to raise the OTP minimum; the spec gives no layout (R358). -/
opaque fwVersion : List (BitVec 8) → Nat
opaque fwRaises : List (BitVec 8) → Bool
/-- What the boundary register captures from the levels of the pins the engine knows and, by number, from all others. -/
opaque boundary : List Bool → Nat → BitVec 92
/-- The addresses under which a settings copy holds Jitor's own settings, which the spec does not give: the threshold policy's two,
MGT.ETH_PORT and MGT.ETH_FULL (R350, R351). -/
opaque ownSetting : Nat → BitVec 40
/-- A fabric port's MAC address (FAB.MAC). -/
opaque mac : Nat → BitVec 48
/-- The frequency of the steward's clock in MHz (R324). -/
opaque stewardMhz : Nat
/-- Whether a firmware signature verifies against the key in OTP, which the spec does not give (R358). -/
opaque signatureOk : List (BitVec 8) → Bool

end Sys2Proof.Config
end

