-- ==== Sys2Proof/Machine/Float.lean ====
section
/-! DEFINITION. Number formats and their arithmetic, exactly (spec/04_number_formats.md). -/

namespace Sys2Proof.Machine

/-- A number: NaN, an infinity, or `(-1)^neg * m * 2^e` exactly. -/
inductive Num where
  | nan
  | inf (neg : Bool)
  | fin (neg : Bool) (m : Nat) (e : Int)
  deriving DecidableEq, Repr

/-- What an operation noted: a flushed value, a NaN or an infinity from operands that were none, a saturated element, a
NaN written as an integer. -/
structure Note where
  flush : Bool := false
  invalid : Bool := false
  overflow : Bool := false
  sat : Bool := false
  cvtNan : Bool := false
  deriving DecidableEq, Repr

def Note.or (a b : Note) : Note :=
  ⟨a.flush || b.flush, a.invalid || b.invalid, a.overflow || b.overflow, a.sat || b.sat, a.cvtNan || b.cvtNan⟩

/-- 2^n as a shift of a magnitude. -/
def shl (m : Nat) (n : Int) : Nat := m * 2 ^ n.toNat

/-- A binary format: precision with the hidden bit, least normal exponent, largest finite `maxM * 2^maxE`, field widths,
whether subnormals are kept, whether overflow saturates. -/
structure Fmt where
  p : Nat
  emin : Int
  maxM : Nat
  maxE : Int
  eb : Nat
  keepSub : Bool
  saturates : Bool
  nanCode : Nat
  deriving DecidableEq, Repr

def fmtE4M3 : Fmt := ⟨4, -6, 14, 5, 4, true, true, 0x7F⟩
def fmtE5M2 : Fmt := ⟨3, -14, 7, 13, 5, true, false, 0x7E⟩
def fmtBF16 : Fmt := ⟨8, -126, 255, 120, 8, false, false, 0x7FC0⟩
def fmtFP16 : Fmt := ⟨11, -14, 2047, 5, 5, true, false, 0x7E00⟩
def fmtFP32 : Fmt := ⟨24, -126, 16777215, 104, 8, false, false, 0x7FC00000⟩
def fmtE2M1 : Fmt := ⟨2, 0, 3, 1, 2, true, true, 0⟩

/-- The value of a code (Tables 04.1, 04.2), subnormals kept. -/
def Fmt.decode (f : Fmt) (c : Nat) : Num :=
  let mb := f.p - 1
  let m := c % 2 ^ mb
  let e := c / 2 ^ mb % 2 ^ f.eb
  let neg := bit c (mb + f.eb)
  let top := 2 ^ f.eb - 1
  if f.saturates then
    if f.p == 4 && e == top && m == 7 then .nan
    else if e == 0 then .fin neg m (f.emin - mb) else .fin neg (m + 2 ^ mb) (f.emin + e - 1 - mb)
  else if e == top then (if m == 0 then .inf neg else .nan)
  else if e == 0 then .fin neg m (f.emin - mb) else .fin neg (m + 2 ^ mb) (f.emin + e - 1 - mb)

/-- The value of a code as an input: subnormals of BF16 and FP32 are flushed (R104). -/
def Fmt.input (f : Fmt) (c : Nat) : Num × Note :=
  match f.decode c with
  | .fin neg m e => if !f.keepSub && m != 0 && decide (m < 2 ^ (f.p - 1)) then (.fin neg 0 e, { flush := true }) else (.fin neg m e, {})
  | x => (x, {})

/-- The magnitude `m * 2^e` in units of `2^q` under a rounding mode: 0 nearest-even, 1 toward zero, 2 stochastic with
random value `u` (R112). -/
def roundMag (rmode u : Nat) (m : Nat) (e q : Int) : Nat :=
  if q ≤ e then shl m (e - q)
  else
    let d := (q - e).toNat
    let lo := m / 2 ^ d
    let r := m % 2 ^ d
    match rmode with
    | 0 => if r * 2 > 2 ^ d || (r * 2 == 2 ^ d && lo % 2 == 1) then lo + 1 else lo
    | 1 => lo
    | _ => if u < 65536 * r / 2 ^ d then lo + 1 else lo

/-- `m * 2^e ≤ m' * 2^e'`. -/
def magLe (m : Nat) (e : Int) (m' : Nat) (e' : Int) : Bool :=
  if e ≤ e' then decide (m ≤ shl m' (e' - e)) else decide (shl m (e - e') ≤ m')

/-- floor(log2(m * 2^e)) of a non-zero magnitude. -/
def magLog (m : Nat) (e : Int) : Int := (Nat.log2 m : Int) + e

/-- The code of `k * 2^q`, a magnitude that the format represents. -/
def Fmt.pack (f : Fmt) (neg : Bool) (k : Nat) (q : Int) : Nat :=
  let mb := f.p - 1
  let sg := b2n neg * 2 ^ (mb + f.eb)
  if k == 0 then sg
  else
    let l := magLog k q
    if l < f.emin then sg + (if q ≤ f.emin - mb then k / 2 ^ ((f.emin - mb) - q).toNat else shl k (q - (f.emin - mb)))
    else
      let m := if q ≤ l - mb then k / 2 ^ ((l - mb) - q).toNat else shl k (q - (l - mb))
      sg + ((l - f.emin + 1).toNat) * 2 ^ mb + (m - 2 ^ mb)

/-- Conversion to a format (R109, R110, Table 04.5). -/
def Fmt.encode (f : Fmt) (rmode u : Nat) (x : Num) : Nat × Note :=
  let mb := f.p - 1
  let maxCode (neg : Bool) : Nat := f.pack neg f.maxM f.maxE
  let infCode (neg : Bool) : Nat := b2n neg * 2 ^ (mb + f.eb) + (2 ^ f.eb - 1) * 2 ^ mb
  match x with
  | .nan => (f.nanCode, {})
  | .inf neg => if f.saturates then (maxCode neg, { sat := true }) else (infCode neg, {})
  | .fin neg m e =>
    if m == 0 then (f.pack neg 0 0, {})
    else if magLe m e f.maxM f.maxE then
      let l := magLog m e
      let q := if f.keepSub then max l f.emin - mb else l - mb
      let k := roundMag rmode u m e q
      if !f.keepSub && (k == 0 || decide (magLog k q < f.emin)) then (f.pack neg 0 0, { flush := true })
      else (f.pack neg k q, {})
    else if f.saturates then (maxCode neg, { sat := true })
    else
      -- beyond max: between max and max + ulp(max) the neighbour above is infinity (R112)
      let k := roundMag rmode u m e f.maxE
      let toMax := match rmode with
        | 1 => true
        | _ => k ≤ f.maxM
      if toMax then (maxCode neg, { sat := true }) else (infCode neg, { overflow := true })

/-- Conversion to a two's complement integer of `w` bits in units of `2^q` (Table 04.5). -/
def intEncode (w : Nat) (q : Int) (rmode u : Nat) (x : Num) : Nat × Note :=
  let hi := 2 ^ (w - 1) - 1
  let lo := 2 ^ (w - 1)
  match x with
  | .nan => (0, { cvtNan := true })
  | .inf neg => (if neg then lo else hi, { sat := true })
  | .fin neg m e =>
    let top := if neg then lo else hi
    if !(magLe m e top q) then (if neg then lo else hi, { sat := true })
    else
      let k := roundMag rmode u m e q
      let k := min k top
      (if neg then (2 ^ w - k) % 2 ^ w else k, {})

/-- The number a two's complement code stands for. -/
def intNum (w c : Nat) : Num :=
  if bit c (w - 1) then .fin true (2 ^ w - c % 2 ^ w) 0 else .fin false (c % 2 ^ w) 0

/-! ### Exact sums and products -/

def Num.neg? : Num → Bool
  | .fin n _ _ => n | .inf n => n | .nan => false

/-- The signed integer a finite number is in units of `2^q`, for `q` at most its exponent. -/
def Num.units (q : Int) : Num → Int
  | .fin neg m e => if neg then -(shl m (e - q) : Int) else (shl m (e - q) : Int)
  | _ => 0

def ofUnits (v : Int) (q : Int) : Num := .fin (decide (v < 0)) v.natAbs q

/-- Exact sum; a sum of zeros of both signs, and an exact cancellation, is +0. -/
def Num.add (x y : Num) : Num :=
  match x, y with
  | .nan, _ => .nan
  | _, .nan => .nan
  | .inf a, .inf b => if a == b then .inf a else .nan
  | .inf a, _ => .inf a
  | _, .inf b => .inf b
  | .fin a m e, .fin b n g =>
    let q := min e g
    let v := (Num.fin a m e).units q + (Num.fin b n g).units q
    if v == 0 then .fin (a && b) 0 q else ofUnits v q

/-- Exact product; infinity times zero is NaN. -/
def Num.mul (x y : Num) : Num :=
  match x, y with
  | .nan, _ => .nan
  | _, .nan => .nan
  | .inf a, .inf b => .inf (a != b)
  | .inf a, .fin b m _ => if m == 0 then .nan else .inf (a != b)
  | .fin a m _, .inf b => if m == 0 then .nan else .inf (a != b)
  | .fin a m e, .fin b n g => .fin (a != b) (m * n) (e + g)

/-- Times a power of two. -/
def Num.scale (x : Num) (n : Int) : Num :=
  match x with
  | .fin a m e => .fin a m (e + n)
  | y => y

def Num.isNan : Num → Bool | .nan => true | _ => false
def Num.isFin : Num → Bool | .fin .. => true | _ => false
def Num.isZero : Num → Bool | .fin _ m _ => m == 0 | _ => false

/-- x < y, with -0 below +0. -/
def Num.lt (x y : Num) : Bool :=
  let rank (z : Num) : Int := match z with
    | .inf true => -2 | .fin true _ _ => -1 | .fin false _ _ => 1 | .inf false => 2 | .nan => 0
  match x, y with
  | .fin a m e, .fin b n g =>
    if a != b then a
    else
      let q := min e g
      let u := shl m (e - q); let v := shl n (g - q)
      if a then decide (v < u) else decide (u < v)
  | _, _ => decide (rank x < rank y)

/-! ### FP32 lanes -/

abbrev F32 := BitVec 32
def f32Nan : F32 := 0x7FC00000

/-- The exact value of an FP32 input, subnormals flushed (R104). -/
def f32In (a : F32) : Num × Note := fmtFP32.input a.toNat

/-- An exact result rounded to FP32 by nearest-even. `ok` says that no operand was NaN, `fin` that all were finite. -/
def f32Out (x : Num) (ok fin : Bool) : F32 × Note :=
  let (c, n) := fmtFP32.encode 0 0 x
  -- rounding from above max to max counts no saturation here: the arithmetic rounds, it does not convert
  (BitVec.ofNat 32 c, { n with sat := false, invalid := ok && x.isNan, overflow := n.overflow || (fin && !x.isFin && !x.isNan) })

def f32Op2 (f : Num → Num → Num) (a b : F32) : F32 × Note :=
  let (x, n) := f32In a; let (y, m) := f32In b
  let (c, r) := f32Out (f x y) (!x.isNan && !y.isNan) (x.isFin && y.isFin)
  (c, (n.or m).or r)

def f32Add : F32 → F32 → F32 × Note := f32Op2 Num.add
def f32Sub (a b : F32) : F32 × Note := f32Add a (b ^^^ 0x80000000)
def f32Mul : F32 → F32 → F32 × Note := f32Op2 Num.mul

/-- SA * SB + SC with a single rounding; infinity times zero is NaN even beside a NaN (Table 04.6). -/
def f32Fma (a b c : F32) : F32 × Note :=
  let (x, n) := f32In a; let (y, m) := f32In b; let (z, l) := f32In c
  let (v, r) := f32Out ((x.mul y).add z) (!x.isNan && !y.isNan && !z.isNan) (x.isFin && y.isFin && z.isFin)
  (v, ((n.or m).or l).or r)

/-- Flushed to an FP32 code. -/
def f32Flushed (a : F32) : F32 × Note :=
  let (x, n) := f32In a
  (if x.isNan then f32Nan else if x.isZero then a &&& 0x80000000 else a, n)

/-- Maximum and minimum: -0 below +0, canonical NaN (R115). -/
def f32Max (a b : F32) : F32 × Note :=
  let (x, n) := f32In a; let (y, m) := f32In b
  (if x.isNan || y.isNan then f32Nan else if x.lt y then (f32Flushed b).1 else (f32Flushed a).1, n.or m)
def f32Min (a b : F32) : F32 × Note :=
  let (x, n) := f32In a; let (y, m) := f32In b
  (if x.isNan || y.isNan then f32Nan else if y.lt x then (f32Flushed b).1 else (f32Flushed a).1, n.or m)

/-- Integer square root by bits. -/
def isqrt (v : Nat) : Nat :=
  (List.range 80).foldl (fun r i => let c := r + 2 ^ (79 - i); if c * c ≤ v then c else r) 0

/-- A result within 2 units in the last place of `x`, the free choice of R53 (log entry 37): `x` rounded to 24 bits with its
exponent unbounded, moved by up to 2 such units while that stays within 2 of `x`. The bound is taken with 2^-16 of a unit
to spare, which covers the error of `x` itself. -/
def within2 (op : Nat) (a : F32) (x : Num) : Num :=
  match x with
  | .fin neg m e =>
    if m == 0 then x
    else
      let q := magLog m e - 23
      let k := roundMag 0 0 m e q
      let k' := k + (Config.approx op a).toNat % 5 - 2
      let e' := min e q
      let d : Int := (shl k' (q - e') : Int) - (shl m (e - e') : Int)
      if 65536 * d.natAbs ≤ 131073 * shl 1 (q - e') then .fin neg k' q else .fin neg k q
  | x => x

/-- A result of VRCP, VRSQ, VEXP2 or VLOG2 that the unit forms from a finite operand: tiny ones are flushed (R104). -/
def f32Approx (op : Nat) (a : F32) (x : Num) (n : Note) : F32 × Note :=
  let (c, r) := f32Out (within2 op a x) true true
  (c, n.or r)

/-- VRCP (Table 04.6, R53). -/
def f32Rcp (a : F32) : F32 × Note :=
  let (x, n) := f32In a
  match x with
  | .nan => (f32Nan, n)
  | .inf neg => (if neg then 0x80000000 else 0, n)
  | .fin neg m e =>
    if m == 0 then (if neg then 0xFF800000 else 0x7F800000, n)
    else f32Approx 7 a (.fin neg (2 ^ 80 / m) (-80 - e)) n

/-- VRSQ. -/
def f32Rsq (a : F32) : F32 × Note :=
  let (x, n) := f32In a
  match x with
  | .nan => (f32Nan, n)
  | .inf neg => if neg then (f32Nan, n.or { invalid := true }) else (0, n)
  | .fin neg m e =>
    if m == 0 then (if neg then 0xFF800000 else 0x7F800000, n)
    else if neg then (f32Nan, n.or { invalid := true })
    else
      let m' := if e % 2 == 0 then m else 2 * m
      let e' := if e % 2 == 0 then e else e - 1
      f32Approx 8 a (.fin false (isqrt (2 ^ 120 / m')) (-60 - e' / 2)) n

/-- floor(2^128 * ln 2). -/
def ln2 : Nat := 235865763225513294137944142764154484399

/-- 2^(v / 2^128) in units of 2^-128, for v below 2^128: the series of exp, to less than 2^-100. -/
def exp2Frac (v : Nat) : Nat :=
  let y := v * ln2 / 2 ^ 128
  ((List.range 40).foldl (fun (p : Nat × Nat) i =>
    let t := p.2 * y / ((i + 1) * 2 ^ 128)
    (p.1 + t, t)) (2 ^ 128, 2 ^ 128)).1

/-- 2^x of a finite number of magnitude below 128. -/
def exp2Of (neg : Bool) (m : Nat) (e : Int) : Num :=
  let u : Int := roundMag 1 0 m e (-128)
  let v := if neg then -u else u
  .fin false (exp2Frac (v % 2 ^ 128).toNat) (v / 2 ^ 128 - 128)

/-- The first `n` binary digits of log2(v / 2^128), for v in 2^128 .. 2^129. -/
def log2Frac (n v : Nat) : Nat :=
  ((List.range n).foldl (fun (p : Nat × Nat) _ =>
    let q := p.2 * p.2 / 2 ^ 128
    if 2 ^ 129 ≤ q then (2 * p.1 + 1, q / 2) else (2 * p.1, q)) (0, v)).1

/-- log2(m * 2^e), m not 0, to less than 2^-75. -/
def log2Of (m : Nat) (e : Int) : Num :=
  let l := Nat.log2 m
  ofUnits ((l + e) * 2 ^ 80 + log2Frac 80 (m * 2 ^ 128 / 2 ^ l)) (-80)

/-- VEXP2: the specials of Table 04.6, else a value within 2 units in the last place (R53). -/
def f32Exp2 (a : F32) : F32 × Note :=
  let (x, n) := f32In a
  match x with
  | .nan => (f32Nan, n)
  | .inf neg => (if neg then 0 else 0x7F800000, n)
  | .fin neg m e =>
    if m == 0 then (0x3F800000, n)
    else if !neg && magLe 128 0 m e then (0x7F800000, n.or { overflow := true })
    else if neg && magLe 256 0 m e then (0, n.or { flush := true })
    else f32Approx 9 a (exp2Of neg m e) n

/-- VLOG2: the specials of Table 04.6, exact powers of two exactly, else a value within 2 units in the last place (R53). -/
def f32Log2 (a : F32) : F32 × Note :=
  let (x, n) := f32In a
  match x with
  | .nan => (f32Nan, n)
  | .inf neg => if neg then (f32Nan, n.or { invalid := true }) else (0x7F800000, n)
  | .fin neg m e =>
    if m == 0 then (0xFF800000, n)
    else if neg then (f32Nan, n.or { invalid := true })
    else if m == 2 ^ Nat.log2 m then
      let l := magLog m e
      (BitVec.ofNat 32 (fmtFP32.encode 0 0 (.fin (decide (l < 0)) l.natAbs 0)).1, n)
    else f32Approx 10 a (log2Of m e) n

/-- VCVT with DIR 1: FP32 to FMT 0..5 by nearest-even (R109). -/
def cvtFrom (fmt : Nat) (a : F32) : F32 × Note :=
  let (x, n) := f32In a
  let (c, m) := match fmt with
    | 0 => intEncode 8 0 0 0 x
    | 1 => fmtE4M3.encode 0 0 x
    | 2 => fmtE5M2.encode 0 0 x
    | 3 => fmtBF16.encode 0 0 x
    | 4 => fmtFP16.encode 0 0 x
    | _ => fmtFP32.encode 0 0 x
  (BitVec.ofNat 32 c, n.or m)

/-- VCVT with DIR 0: widening to FP32, exactly (R109). -/
def cvtTo (fmt : Nat) (a : F32) : F32 × Note :=
  let v := a.toNat
  let (x, n) : Num × Note := match fmt with
    | 0 => (intNum 8 (v % 256), {})
    | 1 => fmtE4M3.input (v % 256)
    | 2 => fmtE5M2.input (v % 256)
    | 3 => fmtBF16.input (v % 65536)
    | 4 => fmtFP16.input (v % 65536)
    | _ => fmtFP32.input v
  (BitVec.ofNat 32 (fmtFP32.encode 0 0 x).1, n)

/-! ### Stochastic rounding (R113) -/

/-- SR_U(seed, cnt, e). -/
def srU (seed cnt e : Nat) : Nat :=
  let z : BitVec 64 := BitVec.ofNat 64 (seed % 2 ^ 32 * 2 ^ 32 + cnt % 2 ^ 20 * 2 ^ 12 + e % 2 ^ 12)
  let z := z + 0x9E3779B97F4A7C15
  let z := (z ^^^ (z >>> 30)) * 0xBF58476D1CE4E5B9
  let z := (z ^^^ (z >>> 27)) * 0x94D049BB133111EB
  let z := z ^^^ (z >>> 31)
  z.toNat / 2 ^ 48

end Sys2Proof.Machine
end

