-- ==== Sys2Proof/Machine/LatticeMath.lean ====
section
/-! DEFINITION. What the lattice computes: paths, elements, column sums, increments and the tally's comparison (R70 to
R76, R79, R89, R91, R99, R100, R105 to R108). -/

namespace Sys2Proof.Machine

/-! ### Descriptors (LAT.DESC_LO, LAT.DESC_HI) -/

def dAfmt (lo : Nat) : Nat := bits lo 0 4
def dWfmt (lo : Nat) : Nat := bits lo 4 4
def dOfmt (lo : Nat) : Nat := bits lo 8 4
def dMode (lo : Nat) : Nat := bits lo 12 3
def dS24 (lo : Nat) : Bool := bit lo 15
def dM (lo : Nat) : Nat := bits lo 16 7 + 1
def dAccum (lo : Nat) : Bool := bit lo 23
def dRmode (lo : Nat) : Nat := bits lo 24 2
def dLanes (lo : Nat) : Nat := 8 * 2 ^ bits lo 26 2
def dV (lo : Nat) : Bool := bit lo 29
def dAscl (lo : Nat) : Nat := bits lo 32 13
def dOscl (hi : Nat) : Nat := bits hi 0 13

/-- The paths of Table 03.1. -/
inductive Path where
  | int8 | fp8 | bf16 | two | one | fp16 | fp32
  deriving DecidableEq, Repr

/-- The path of a pairing; none where Table 03.1 has none (R71). -/
def pathOf (wf af : Nat) : Option Path :=
  if wf == 3 && af == 3 then some .bf16
  else if wf == 4 && af == 4 then some .fp16
  else if wf == 5 && af == 5 then some .fp32
  else if (wf == 0 || wf == 9 || wf == 6) && (af == 0 || af == 9) then some .int8
  else if (wf == 1 || wf == 2 || wf == 8 || wf == 7) && (af == 1 || af == 2 || af == 8) then some .fp8
  else if (wf == 10 || wf == 11) && (af == 0 || af == 9) then some .two
  else if wf == 12 && (af == 0 || af == 9) then some .one
  else none

/-- LAT.DESC_LO.V as hardware computes it on every write (R81). -/
def latDescV (lo : Nat) : Bool :=
  match pathOf (dWfmt lo) (dAfmt lo) with
  | none => false
  | some p =>
    (match p with
      | .fp16 => dMode lo == 1 || dMode lo == 2
      | .fp32 => dMode lo == 3 || dMode lo == 4
      | _ => dMode lo == 0) &&
    (!dS24 lo || p == .int8 || p == .fp8) && (decide (dOfmt lo ≤ 9) || dOfmt lo == 15) &&
    dRmode lo != 3 && bits lo 26 2 != 3

def descPath (lo : Nat) : Path := (pathOf (dWfmt lo) (dAfmt lo)).getD .int8
def isMulti (lo : Nat) : Bool := descPath lo == .fp16 || descPath lo == .fp32
/-- Columns of a path. -/
def pathN : Path → Nat | .two => 16 | .one => 32 | _ => 8
/-- Bytes of an activation vector; a 2:4 set spans 32 elements of the 8-bit paths. -/
def vecBytes (lo : Nat) : Nat :=
  match descPath lo with
  | .int8 | .fp8 => if dS24 lo then 32 else 16
  | .fp32 => 64
  | _ => 32
/-- Activation rows of a LISS (R77). -/
def actRows (lo : Nat) : Nat := ceilDiv (dM lo * vecBytes lo) 512
/-- The accumulator is INT32 (Table 03.1). -/
def accInt (lo : Nat) : Bool := descPath lo == .int8 && dAfmt lo == 0 && (dWfmt lo == 0 || dWfmt lo == 6)
def actScaled (lo : Nat) : Bool := dAfmt lo == 8 || dAfmt lo == 9
/-- The weight format takes column scales (R75). -/
def wScaled (wf : Nat) : Bool := wf == 7 || wf == 8 || wf == 9 || wf == 10 || wf == 11 || wf == 12
/-- An LWLD reads its side section (R75). -/
def readsSide (lo : Nat) : Bool := wScaled (dWfmt lo) || dS24 lo
/-- Weight bytes of an LWLD (Table 03.2, R76). -/
def weightBytes (wf : Nat) : Nat := if wf == 6 || wf == 7 then 64 else if wf == 3 then 256 else 128
/-- PART values an LWLD allows (R76). -/
def partMax (wf : Nat) : Nat := 512 / weightBytes wf - 1
/-- LANE values a path allows (R79). -/
def laneMax : Path → Nat | .two => 1 | .one => 0 | _ => 3

/-! ### Elements (R74, R97) -/

/-- The number an element code stands for at the array, and whether it was flushed (R71, R104). -/
def element (fmt c : Nat) : Num × Bool :=
  match fmt with
  | 0 | 9 => (intNum 8 c, false)
  | 1 | 8 => (fmtE4M3.decode c, false)
  | 2 => (fmtE5M2.decode c, false)
  | 3 => let (x, n) := fmtBF16.input c; (x, n.flush)
  | 4 => (fmtFP16.decode c, false)
  | 5 => let (x, n) := fmtFP32.input c; (x, n.flush)
  | 6 => (intNum 4 c, false)
  | 7 => (fmtE2M1.decode c, false)
  | 10 => (intNum 2 c, false)
  | 11 => (if c == 2 then .fin false 0 0 else intNum 2 c, false)
  | _ => (if c == 1 then .fin false 1 0 else .fin true 1 0, false)

def elemBits (fmt : Nat) : Nat :=
  match fmt with
  | 3 | 4 => 16 | 5 => 32 | 6 | 7 => 4 | 10 | 11 => 2 | 12 => 1 | _ => 8

/-- Activation element `k` of a vector. -/
def actElem (lo : Nat) (v : BitVec 512) (k : Nat) : Num :=
  let w := elemBits (dAfmt lo)
  (element (dAfmt lo) (bits v.toNat (w * k) w)).1

/-- The weights of column `n`: pairs of an activation index and an element (Table 03.2, R76). -/
def column (lo : Nat) (w : WSet) (n : Nat) : List (Nat × Num) :=
  let wf := dWfmt lo
  let e (pos width : Nat) : Num := (element wf (bits w.data.toNat pos width)).1
  if w.s24 then
    (List.range 16).map fun r =>
      let idx := bits w.side.toNat (2 * (16 * n + r)) 2
      (4 * (r / 2) + idx, if wf == 6 || wf == 7 then e (64 * n + 4 * r) 4 else e (128 * n + 8 * r) 8)
  else match wf with
    | 6 | 7 => (List.range 16).map fun k => (k, e (64 * n + 4 * k) 4)
    | 3 | 4 => (List.range 16).map fun k => (k, e (16 * (16 * n + k)) 16)
    | 5 => (List.range 16).map fun k => (k, e (32 * (16 * n + k)) 32)
    | 10 | 11 => (List.range 32).map fun k => (k, e (64 * n + 2 * k) 2)
    | 12 => (List.range 32).map fun k => (k, e (32 * n + k) 1)
    | _ => (List.range 16).map fun k => (k, e (128 * n + 8 * k) 8)

/-- The column with every weight zero (R395, a clear set). -/
def zeroColumn : List (Nat × Num) := []

/-! ### Multi-pass pieces (R89, Table 03.6) -/

/-- The (activation, weight) pieces of each pass. -/
def passes : Nat → List (Nat × Nat)
  | 1 => [(0, 0), (1, 0), (0, 1), (1, 1)]
  | 2 => [(1, 0), (0, 1), (1, 1)]
  | 3 => [(2, 0), (1, 1), (2, 1), (0, 2), (1, 2), (2, 2)]
  | 4 => [(0, 0), (1, 0), (2, 0), (0, 1), (1, 1), (2, 1), (0, 2), (1, 2), (2, 2)]
  | _ => [(0, 0)]

def passCount (lo : Nat) : Nat := (passes (dMode lo)).length

/-- Piece `i` of a number's significand, at its weight. -/
def pieceOf (fp32 : Bool) (i : Nat) (x : Num) : Num :=
  match x with
  | .fin neg m e =>
    if fp32 then .fin neg (m / 2 ^ (8 * i) % 256) (e + 8 * i)
    else if i == 0 then .fin neg (m % 8) e else .fin neg (m / 8) (e + 3)
  | _ => .fin false 0 0

/-- One product of a pass: a non-finite operand enters in the first pass alone (R89). -/
def passProduct (mode pass : Nat) (a w : Num) : Num :=
  if mode == 0 then a.mul w
  else if !a.isFin || !w.isFin then (if pass == 0 then a.mul w else .fin false 0 0)
  else
    let p := (passes mode).getD pass (0, 0)
    (pieceOf (3 ≤ mode) p.1 a).mul (pieceOf (3 ≤ mode) p.2 w)

/-! ### Column sums (R105, R107) -/

def Num.mag : Num → Nat × Int
  | .fin _ m e => (m, e)
  | _ => (0, 0)

/-- The leading-bit position of the largest product. -/
def leadBit (l : List Num) : Option Int :=
  l.foldl (fun acc x => match x with
    | .fin _ m e => if m == 0 then acc else some (match acc with | none => magLog m e | some b => max b (magLog m e))
    | _ => acc) none

/-- The sum of a column's products: aligned, truncated to 28 bits below the leading bit, added exactly. -/
def alignedSum (l : List Num) : Num :=
  if l.any Num.isNan then .nan
  else
    let infs := l.filter fun x => !x.isFin
    match infs with
    | x :: r => if r.all fun y => y.neg? == x.neg? then .inf x.neg? else .nan
    | [] =>
      match leadBit l with
      | none => .fin false 0 0
      | some b =>
        let q := b - 28
        let v := l.foldl (fun acc x =>
          let (m, e) := x.mag
          let k : Int := (roundMag 1 0 m e q : Nat)
          if x.neg? then acc - k else acc + k) (0 : Int)
        if v == 0 then .fin false 0 q else ofUnits v q

/-- The exact sum of numbers. -/
def exactSum (l : List Num) : Num := l.foldl Num.add (.fin true 0 0)

/-- The absolute value. -/
def Num.abs : Num → Num
  | .fin _ m e => .fin false m e
  | .inf _ => .inf false
  | .nan => .nan

/-- The products of column `n` in a pass. -/
def products (lo pass : Nat) (act : BitVec 512) (col : List (Nat × Num)) : List Num :=
  col.map fun p => passProduct (dMode lo) pass (actElem lo act p.1) p.2

/-- The integer paths work exactly (R91). -/
def pathInt (lo : Nat) : Bool := descPath lo == .int8 || descPath lo == .two || descPath lo == .one

/-- A column sum as it leaves the array: the number, its bits on 32 lanes (INT32 on the integer paths, else FP32), and what
was noted. -/
structure ColSum where
  num : Num
  bits : BitVec 32
  note : Note := {}
  deriving DecidableEq, Repr

/-- Rounded to FP32 precision by nearest-even. A tiny sum keeps its 24 bits: the array flushes nothing (R104, R105). -/
def roundSum (x : Num) : Num × Note :=
  match x with
  | .fin neg m e =>
    if m == 0 then (x, {})
    else
      let q := magLog m e - 23
      let k := roundMag 0 0 m e q
      if magLe k q fmtFP32.maxM fmtFP32.maxE then (.fin neg k q, {}) else (.inf neg, { overflow := true })
  | x => (x, {})

/-- FP32 lanes with their subnormals: how a column sum's bits are written and read. -/
def fmtSum : Fmt := { fmtFP32 with keepSub := true }

/-- The number that 32 bits from the array stand for. -/
def sumNum (lo : Nat) (y : BitVec 32) : Num :=
  if pathInt lo then ofUnits y.toInt 0 else fmtSum.decode y.toNat

/-- A pair of a column whose product is NaN though neither factor is (R107). -/
def nanPair (lo : Nat) (act : BitVec 512) (p : Nat × Num) : Bool :=
  let a := actElem lo act p.1
  !a.isNan && !p.2.isNan && (a.mul p.2).isNan

/-- A column's sum in a pass. A NaN is made of operands that are none where a product is infinity times zero, or where
infinite products of both signs meet; non-finite products enter in the first pass alone (R89, R107). -/
def columnSum (lo pass : Nat) (act : BitVec 512) (col : List (Nat × Num)) : ColSum :=
  let ps := products lo pass act col
  if pathInt lo then
    let v := (exactSum ps).units 0
    { num := ofUnits v 0, bits := BitVec.ofInt 32 v }
  else
    let (x, n) := roundSum (alignedSum ps)
    let made := if ps.any Num.isNan then col.any (nanPair lo act) else x.isNan
    { num := x, bits := BitVec.ofNat 32 (fmtSum.encode 0 0 x).1, note := { n with invalid := made && x.isNan } }

/-- The pairs of column `n`; every weight of a clear or zeroed set is zero (R73, R395). -/
def columnFor (lo : Nat) (w : WSet) (n : Nat) : List (Nat × Num) :=
  if w.kind == 0 then zeroColumn else column lo w n

/-! ### Increments (R79, R100, R106) -/

/-- The scale factor 2^n of an E8M0 byte; none for NaN (R99). -/
def scaleExp (mxint : Bool) (x : Nat) : Option Int :=
  if x == 255 then none else some ((x : Int) - 127 - (if mxint then 6 else 0))

/-- The scale byte of column `n` in a set's side section (R75). -/
def columnScale (w : WSet) (n : Nat) : Nat := bits w.side.toNat (256 + 8 * n) 8

/-- The increment of column `n`: the sum scaled by the activation's and the column's factors, as FP32; zero with a clear or
zeroed set (R395). -/
def increment (lo : Nat) (w : WSet) (n scale : Nat) (x : Num) : BitVec 32 × Note :=
  let sa := if actScaled lo then scaleExp (dAfmt lo == 9) scale else some 0
  let sw := if wScaled (dWfmt lo) then scaleExp (dWfmt lo == 9) (columnScale w n) else some 0
  if w.kind == 0 then (0, {})
  else match sa, sw with
  | some a, some b =>
    let (c, m) := f32Out (x.scale (a + b)) true x.isFin
    (c, { flush := m.flush, overflow := m.overflow })
  | _, _ => (f32Nan, {})

/-! ### The tally (R91, R92) -/

/-- |x| ≤ (a * 2^-20 + b * 2^-23) * p. -/
def within (x : Num) (b : Nat) (p : Num) : Bool :=
  match x, p with
  | .fin _ m e, .fin _ n g => magLe m e ((8 + b) * n) (g - 23)
  | _, _ => false

/-- The array check of one group: T against S; `inj` compares against T + 1 (R91, LAT.TALLY_TEST). -/
def arrayCheck (lo : Nat) (t s p : Num) (inj : Bool) : Bool :=
  let t := if inj then t.add (.fin false 1 0) else t
  let d := t.add (match s with | .fin a m e => .fin (!a) m e | y => y)
  if pathInt lo then d.isZero else within d 0 p

/-- The comparison values T and P of a group of columns (R91). -/
def tallyT (lo pass : Nat) (act : BitVec 512) (cols : List (List (Nat × Num))) : Num × Num :=
  let ps := cols.flatMap fun c => products lo pass act c
  (exactSum ps, exactSum (ps.map Num.abs))

end Sys2Proof.Machine
end

