-- ==== Sys2Proof/Machine/Moraine.lean ====
section
/-! DEFINITION. Suspect work, outcomes and the moraine log (R225, R226, R235, R240 to R242). -/

namespace Sys2Proof.Machine

/-- The physical cluster a logical cluster stands on (R22). -/
def physOf (s : State) (c : Nat) : Nat × Nat :=
  let b := fieldBase (clusterField c)
  let pcy := lcy c + b2n (decide (getF s b F.FLD_SHIFT_ROW_HOLE ≤ lcy c))
  (lcx c + b2n (decide (getF s b (F.FLD_SHIFT_COL_HOLE.at (8 * pcy)) ≤ lcx c)), pcy)

/-- The physical position of a tile within its field (R22). -/
def physTile (s : State) (k : Nat) : Nat × Nat :=
  let p := physOf s (tileCluster k)
  (4 * p.1 + tileT k % 4, 4 * p.2 + tileT k / 4)

/-- The operating seconds (R240). -/
def opsec (s : State) : Nat := getF s 0 F.MGT_OPSEC_SECONDS

/-- Index of a physical cluster's summary entry (R240). -/
def morIndex (f x y : Nat) : Nat := 625 * f + 25 * y + x
def morEnt (s : State) (i : Nat) : MorEnt := look {} s.dep.log.summary i

def modDep (s : State) (f : Dependability → Dependability) : State := { s with dep := f s.dep }

/-- The summary entry after a record (R240, R242). -/
def MorEnt.after (e : MorEnt) (time outcome seq : Nat) : MorEnt :=
  let e := { e with lastSeq := seq }
  match outcome with
  | 0 | 1 | 3 => { e with nrec := min 8 (e.nrec + 1), events := satAdd 0xFFFF e.events 1, times := (time :: e.times).take 8 }
  | 4 => { e with state := 2, calvedAt := time }
  | 5 => { e with state := 0 }
  | _ => e

/-- Appends an event in steward RAM; the ring overwrites its oldest record (R240). -/
def morWrite (s : State) (e : HeldEvent) : State :=
  modDep s fun d =>
    let r : MorRec := { time := e.time, pcx := e.pcx, pcy := e.pcy, field := e.field, code := e.code, outcome := e.outcome,
                        source := e.source, beat := e.beat % 65536, seq := d.log.seq }
    let i := morIndex e.field e.pcx e.pcy
    let ring := d.log.ring ++ [r]
    { d with log := { summary := put {} d.log.summary i ((look {} d.log.summary i).after e.time e.outcome d.log.seq),
                      ring := ring.drop (ring.length - 524288), seq := (d.log.seq + 1) % 2 ^ 32 } }

/-- Jitor writes an event, or it waits for Jitor's return (Table 09.3). -/
def morLog (s : State) (e : HeldEvent) : State :=
  if isF s 0 F.MBX_MIRROR_JITOR_UP then morWrite s e else modDep s fun d => { d with held := d.held ++ [e] }

def morRecord (s : State) (f x y code outcome source beat : Nat) : State :=
  morLog s { field := f, pcx := x, pcy := y, code, outcome, source, beat, time := opsec s }

/-- TSQ.BEAT.BEAT_NO of the beat of parity `p` that is or was last open in a tile. -/
def beatOf (s : State) (k p : Nat) : Nat :=
  let n := getF s (tileBase k) F.TSQ_BEAT_BEAT_NO
  if parity s k == p then n else n - 1

/-- TSQ.BEAT.BEAT_NO of the tile that a SOURCE names in a cluster. -/
def sourceBeat (s : State) (c source : Nat) : Nat := getF s (tileBase (clusterTile c (source % 16))) F.TSQ_BEAT_BEAT_NO

/-- A calving awaited, in the order of engine field number, row, column (Table 09.3). -/
def addCalve (l : List CalveReq) (r : CalveReq) : List CalveReq :=
  if l.any fun x => x.field == r.field && x.pcx == r.pcx && x.pcy == r.pcy then
    l.map fun x => if x.field == r.field && x.pcx == r.pcx && x.pcy == r.pcy then { x with now := x.now || r.now } else x
  else
    let key (x : CalveReq) : Nat := morIndex x.field x.pcx x.pcy
    l.filter (fun x => decide (key x < key r)) ++ r :: l.filter (fun x => decide (key r < key x))

/-- A cluster is permanent: 0x22 with its physical cluster, a P record, and its calving awaited (R235, R245). By a
rollback the beat of parity `p` is tainted too; by the threshold it is calved at the next commit. -/
def permanent (s : State) (c source : Nat) (rollback : Option Nat) : State :=
  let f := clusterField c
  let (x, y) := physOf s c
  let s := report s (clusterTile c 0) 0x22 4 (x + 32 * y)
  let beat := match rollback with | some p => beatOf s (clusterTile c (source % 16)) p | none => sourceBeat s c source
  let s := morRecord s f x y 0x22 2 source beat
  let s := modCluster s c fun v => { v with calvePend := true }
  let s := modDep s fun d => { d with calves := addCalve d.calves { field := f, pcx := x, pcy := y, now := rollback.isSome, source, beat } }
  match rollback with
  | some p => taint s c p 0x22
  | none => s

/-- Jitor takes an event: it is written, and the threshold policy looked at for its cluster (R242). -/
def morTake (s : State) (h : HeldEvent) : State :=
  let s := morWrite s h
  match h.cluster with
  | none => s
  | some c =>
    let e := morEnt s (morIndex h.field h.pcx h.pcy)
    let n := s.dep.policyN
    if decide (n ≤ e.nrec) && decide (e.times.headD 0 - e.times.getD (n - 1) 0 ≤ s.dep.policyWin) && !(cluster s c).calvePend then
      permanent s c h.source none
    else s

/-- A T (0), D (1) or S (3) event of a cluster: Jitor takes it at once, or on its return (R242, Table 09.3). -/
def morEvent (s : State) (c code outcome source beat : Nat) : State :=
  let (x, y) := physOf s c
  let h : HeldEvent := { field := clusterField c, pcx := x, pcy := y, code, outcome, source, beat, time := opsec s, cluster := some c }
  if isF s 0 F.MBX_MIRROR_JITOR_UP then morTake s h else modDep s fun d => { d with held := d.held ++ [h] }

/-- Jitor is back: it takes what waited for it. -/
def morCatchUp (s : State) : State := s.dep.held.foldl morTake (modDep s fun d => { d with held := [] })

/-- Work of parity `p` in a cluster becomes suspect: the field counts the beat once (FLD.RPL_STAT.SUSPECT). -/
def suspectSeen (s : State) (c p : Nat) : State :=
  let f := clusterField c
  if look false (field s f).suspectSeen p then s
  else incF (modField s f fun v => { v with suspectSeen := put false v.suspectSeen p true }) (fieldBase f) F.FLD_RPL_STAT_SUSPECT 1

/-! ### Who serves a record, and when (R163, R233) -/

/-- The buddy of a cluster (R163). -/
def buddyOf (s : State) (c : Nat) : Option Nat :=
  let b := cluBase c
  if isF s b F.CLU_BUDDY_VALID then
    some (fieldCluster (clusterField c) (getF s b F.CLU_BUDDY_LCX) (getF s b F.CLU_BUDDY_LCY))
  else none

/-- The clusters whose records cluster `d` serves. -/
def originalsOf (s : State) (d : Nat) : List Nat := (fieldClusters (clusterField d)).filter fun c => buddyOf s c == some d

/-- The step's last beat has opened: no beat opens before its checkpoint (R238). -/
def stepFull (s : State) (n : Nat) : Bool :=
  match s.dom.first with
  | some a => isF s 0 F.FAB_POLICY_STEP_BEATS && decide (a + getF s 0 F.FAB_POLICY_STEP_BEATS ≤ n)
  | none => false

/-- A moved record is served from its field's open of the beat after its own, or, where no beat follows, at once (R233,
Table 09.3). -/
def awaitsService (s : State) (c : Nat) (r : RRec) : Bool :=
  let v := field s (clusterField c)
  r.moved && !r.served &&
    ((match v.openNo with | some n => decide (r.no < n) | none => false) || v.freezeReq.isSome ||
      (match v.nextNo with | some n => stepFull s n | none => true))

/-- A record waits for service at tile `k`, as its cluster's buddy. -/
def recordWaits (s : State) (k : Nat) : Bool :=
  (originalsOf s (tileCluster k)).any fun c => (cluster s c).records.any fun r => r.tile == tileT k && awaitsService s c r

/-- SUSPECT for parity `p`: a replay record or a targeted read awaits its outcome (R226). -/
def suspect (s : State) (c p : Nat) : Bool :=
  (cluster s c).records.any (fun r => r.parity == p) || (cluster s c).scrubWait.any fun e => e.2 == p

end Sys2Proof.Machine
end

