-- ==== Sys2Proof/Machine/Lattice.lean ====
section
/-! DEFINITION. The lattice: its instructions, class 0x6 (R80, R81), dispatch, the three engines, the array check, the
drain and the repeat (R77 to R88, R91 to R95, R229 to R231, R395). -/

namespace Sys2Proof.Machine

def lat (s : State) (k : Nat) : Lattice := (tile s k).lat
def modLat (s : State) (k : Nat) (f : Lattice → Lattice) : State := modTile s k fun t => { t with lat := f t.lat }

/-! ### Issue -/

/-- R81's checks on an instruction and the descriptor words it names. PART of a queue-sourced LWLD, which selects its side
section alone, keeps the range of its format in Table 03.2 (log entry 132). -/
def latticeOk (op : TOp) (i : TInsn) (lo : Nat) : Bool :=
  let part := i.fld 19 3; let lane := i.fld 14 2; let acc0 := i.fld 24 7; let set := i.fld 22 1
  let aq := i.flag 41
  decide (i.fld 0 8 < 64) && dV lo &&
  match op with
  | .lwld => !isMulti lo && decide (part ≤ partMax (dWfmt lo))
  | .liss =>
    decide (acc0 + dM lo ≤ 128) && decide (lane ≤ laneMax (descPath lo)) &&
    (if isMulti lo then set == 0 && !aq && decide (part ≤ (if descPath lo == .fp16 then 1 else 0))
     else part == 0 && !(aq && actScaled lo))
  | _ => decide (acc0 + dM lo ≤ 128)

/-- B of a native LISS is a zero field (Table 03.3, R43). -/
def latticeZero (op : TOp) (i : TInsn) (lo : Nat) : Bool :=
  op != .liss || isMulti lo || i.b == 0

/-- A lattice instruction enters the issue queue with its descriptor copied, or faults (R52, R80, R81). -/
def latticeIssue (op : TOp) (t : TileId) (n : Fin 8) (s : State) : Out :=
  issue op t n (fun s i =>
    let k := tileNo t; let b := tileBase k
    let dno := i.fld 0 8
    let lo := rd s (b + F.LAT_DESC_LO_AFMT.off + 16 * (dno % 64))
    let hi := rd s (b + F.LAT_DESC_HI_OSCL.off + 16 * (dno % 64))
    if dno < 64 && dV lo && !latticeZero op i lo then (illegal s k n, .fault)
    else if !latticeOk op i lo then (setF (ctxFault s k n 0xA0) b F.LAT_ERR_ILLEGAL, .fault)
    else
      let s := usePoison s k n ((if op == .ldrain then [] else [i.a.toNat]) ++ (if op == .liss && !isMulti lo then [] else [i.b.toNat]))
      let (s, id) := freshId s k 1
      let e : LEnt := { id, op := op.code.2, n, bp := bpOf s k n, a := rowOperand s k n i i.a.toNat,
                        b := rowOperand s k n i i.b.toNat, aq := i.flag 41, ce := i.flag 36, c := i.fld 32 4,
                        acc0 := i.fld 24 7, bank := i.fld 23 1, set := i.fld 22 1, part := i.fld 19 3, qn := i.fld 16 3,
                        lane := i.fld 14 2, descNo := dno, lo, hi, issued := s.tc }
      (modLat s k fun l => { l with queue := l.queue ++ [e] }, .next)) s

def execLwld (t : TileId) (n : Fin 8) (s : State) : Out := latticeIssue .lwld t n s
def execLiss (t : TileId) (n : Fin 8) (s : State) : Out := latticeIssue .liss t n s
def execLdrain (t : TileId) (n : Fin 8) (s : State) : Out := latticeIssue .ldrain t n s

/-- A completion signals its counter (R52, R84). -/
def complete (s : State) (k : Nat) (ce : Bool) (c : Nat) : State := if ce then event s k c 1 else s

/-! ### Accumulators (R79) -/

def accKey (bank row l : Nat) : Nat := 4096 * bank + 32 * row + l
def grpKey (bank row g : Nat) : Nat := 512 * bank + 4 * row + g
def accAt (l : Lattice) (bank row i : Nat) : BitVec 32 := look 0 l.acc (accKey bank row i)
def grpAt (l : Lattice) (bank row g : Nat) : TEnt := look {} l.tally (grpKey bank row g)
def accGroup (l : Lattice) (bank row g : Nat) : List (BitVec 32) := (List.range 8).map fun i => accAt l bank row (8 * g + i)
/-- A lane of the group fails its parity. -/
def accBadGroup (l : Lattice) (bank row g : Nat) : Bool := (List.range 8).any fun i => look false l.accBad (accKey bank row (8 * g + i))

def setGroup (l : Lattice) (bank row g : Nat) (vs : List (BitVec 32)) (e : TEnt) : Lattice :=
  { l with
    acc := (List.range 8).foldl (fun m i => put 0 m (accKey bank row (8 * g + i)) (vs.getD i 0)) l.acc,
    accBad := (List.range 8).foldl (fun m i => put false m (accKey bank row (8 * g + i)) false) l.accBad,
    tally := put {} l.tally (grpKey bank row g) e }

/-- Lanes of a bank's rows whose stored parity turns out wrong. -/
def spoilLanes (l : Lattice) (bank : Nat) (bad : List (Nat × Nat)) : Lattice :=
  { l with accBad := bad.foldl (fun m x => put false m (accKey bank x.1 x.2) true) l.accBad }

def poisonGroup (l : Lattice) (bank row g : Nat) (p : Bool) : Lattice :=
  { l with tally := put {} l.tally (grpKey bank row g) { grpAt l bank row g with poison := p } }

/-! ### Dispatch (R82) -/

/-- The rows a LISS or LWLD asks for, and where: key, row address. Keys 0.. are activation rows in the order read, 1000 the
weight or side row, 1001 the activation scale row, 1002 the loader's row A. -/
def lissReads (e : LEnt) : Nat :=
  if e.aq then 0 else if isMulti e.lo && decide (2 < actRows e.lo) then passCount e.lo * actRows e.lo else actRows e.lo

def presentLat (s : State) (k req : Nat) (e : LEnt) (key row : Nat) (paired : Bool := false) : State :=
  present s k req { row := row % 8192, kind := .read (.lat e.id key), bp := e.bp, paired }

/-- Row buffers that a LISS has done with: of a multi-pass LISS of at most two rows, those its last pass has passed (R77). -/
def LOp.freed (o : LOp) : Nat :=
  let r := o.next * vecBytes o.e.lo / 512
  if decide (passCount o.e.lo ≤ o.pass) then lissReads o.e
  else if isMulti o.e.lo && decide (actRows o.e.lo ≤ 2) then (if o.pass + 1 == passCount o.e.lo then r else 0)
  else o.pass * actRows o.e.lo + r

/-- Of the feed's two row buffers, those that hold or await a row. -/
def buffersHeld (l : Lattice) : Nat := (l.liss.map fun o => o.asked - o.freed).sum

/-- The feed asks for a LISS's next activation row. With the first goes, as one paired request, its scale row, read first where
both lie in one slice (R77), or a multi-pass LISS's weight row, read after it (R83). -/
def feedRow (s : State) (k : Nat) (o : LOp) : State :=
  let row := o.e.a + o.asked % actRows o.e.lo
  let s :=
    if o.asked == 0 && actScaled o.e.lo then presentLat (presentLat s k 2 o.e 1001 (o.e.a + dAscl o.e.lo)) k 2 o.e 0 row true
    else if o.asked == 0 && isMulti o.e.lo then presentLat (presentLat s k 2 o.e 0 row) k 2 o.e 1000 o.e.b true
    else presentLat s k 2 o.e o.asked row
  modLat s k fun l => { l with liss := l.liss.map fun y => if y.e.id == o.e.id then { y with asked := y.asked + 1 } else y }

/-- The feed asks for rows while a buffer is free, for the oldest LISS that has reads left (R77). -/
def feedAsk (s : State) (k : Nat) : State :=
  (List.range 2).foldl (fun s _ =>
    match (lat s k).liss.find? fun o => decide (o.asked < lissReads o.e) with
    | some o => if buffersHeld (lat s k) < 2 then feedRow s k o else s
    | none => s) s

/-- The record a set will hold for a LISS dispatched now: that of an LWLD or of a multi-pass LISS under way, the later of
them, else its own (R395). -/
def setRecord (l : Lattice) (e : LEnt) : Nat × Nat × Bool :=
  let own := if e.set == 0 then l.set0 else l.set1
  let multi := l.liss.find? fun o => isMulti o.e.lo && o.pass == 0 && o.next == 0
  let load := l.loader.filter fun o => o.e.set == e.set
  match load, multi with
  | some o, some m => if m.e.id < o.e.id then (1, dWfmt o.e.lo, dS24 o.e.lo) else (2, 0, false)
  | some o, none => (1, dWfmt o.e.lo, dS24 o.e.lo)
  | none, some _ => (2, 0, false)
  | none, none => (own.kind, own.fmt, own.s24)

/-- Every earlier LISS that wrote or will write bank `b` has completed (Table 03.4). -/
def bankClear (l : Lattice) (e : LEnt) : Bool := !(l.liss.any fun o => o.e.bank == e.bank && decide (o.e.id < e.id))

/-- A group's drain check: whether it is made, and whether it fails at first; `inj` compares against C + 1 (R92, R108). -/
def drainCheck (l : Lattice) (bank row g : Nat) (inj : Bool) : Bool × Bool × Bool :=
  let e := grpAt l bank row g
  let vs := accGroup l bank row g
  if !e.fp then
    let d := vs.foldl (· + ·) 0
    (true, d != e.c + (if inj then 1 else 0), false)
  else
    let ns := vs.map fun v => (f32In v).1
    if ns.any fun x => !x.isFin then (false, false, true)
    else if 4095 ≤ e.a then (false, false, false)
    else
      let c := (f32In e.c).1
      let c := if inj then c.add (.fin false 1 0) else c
      let d := (exactSum ns).add (match c with | .fin a m x => .fin (!a) m x | y => y)
      (true, !(within d e.a (f32In e.pm).1), false)

/-- The number a lane holds (R85). -/
def laneNum (e : TEnt) (v : BitVec 32) : Num := if e.fp then (f32In v).1 else ofUnits v.toInt 0

/-- One element in OFMT (R109, R110); MX elements are divided by their scale first. -/
def drainElem (ofmt rmode u : Nat) (x : Num) (raw : BitVec 32) : Nat × Note :=
  match ofmt with
  | 0 => intEncode 8 0 rmode u x
  | 1 | 8 => fmtE4M3.encode rmode u x
  | 2 => fmtE5M2.encode rmode u x
  | 3 => fmtBF16.encode rmode u x
  | 4 => fmtFP16.encode rmode u x
  | 5 => fmtFP32.encode rmode u x
  | 6 => intEncode 4 0 rmode u x
  | 7 => fmtE2M1.encode rmode u x
  | 9 => intEncode 8 (-6) rmode u x
  | _ => (raw.toNat, {})

def isMx (ofmt : Nat) : Bool := ofmt == 7 || ofmt == 8 || ofmt == 9
def ofmtBits (ofmt : Nat) : Nat := if ofmt == 15 then 32 else elemBits ofmt

/-- The scale byte of a block (R111). -/
def blockScale (ofmt : Nat) (xs : List Num) : Nat × Bool :=
  if xs.any Num.isNan then (0xFF, true)
  else
    match leadBit xs with
    | none => (0, false)
    | some e =>
      let emax : Int := if ofmt == 8 then 8 else if ofmt == 7 then 2 else 0
      let x := e - emax + 127
      ((max 0 (min 254 x)).toNat, false)

/-- The drained elements of rows acc0.. (number, raw bits, poison), in output order (R85). -/
def drainSource (l : Lattice) (e : LEnt) : List (Num × BitVec 32 × Bool) :=
  (List.range (dM e.lo)).flatMap fun m => (List.range (dLanes e.lo)).map fun i =>
    let g := grpAt l e.bank (e.acc0 + m) (i / 8)
    let v := accAt l e.bank (e.acc0 + m) i
    (laneNum g v, v, g.poison)

/-- The blocks of 32 with their scales. -/
def drainScales (ofmt : Nat) (src : List (Num × BitVec 32 × Bool)) : List (Nat × Bool) :=
  (List.range (ceilDiv src.length 32)).map fun j => blockScale ofmt (((src.drop (32 * j)).take 32).map fun p => p.1)

/-- The codes of the drained elements with what they noted. -/
def drainCodes (e : LEnt) (seed cnt : Nat) (src : List (Num × BitVec 32 × Bool)) : List (Nat × Note) :=
  let ofmt := dOfmt e.lo
  let sc := drainScales ofmt src
  (src.zipIdx).map fun p =>
    let u := srU seed cnt p.2
    if isMx ofmt then
      let x := sc.getD (p.2 / 32) (0, false)
      if x.2 then (0, {}) else drainElem ofmt (dRmode e.lo) u (p.1.1.scale (127 - x.1)) p.1.2.1
    else drainElem ofmt (dRmode e.lo) u p.1.1 p.1.2.1

/-- What the drain notes (R104, R110, R111). -/
def noteDrain (s : State) (k : Nat) (ns : List (Nat × Note)) (nanBlocks : Nat) : State :=
  let sat := (ns.filter fun p => p.2.sat).length
  let s := if ns.any fun p => p.2.flush then noteFpx s k F.LAT_FPX_L_FLUSH else s
  let s := if ns.any fun p => p.2.overflow then noteFpx s k F.LAT_FPX_L_OVERFLOW else s
  let s := if nanBlocks != 0 || (ns.any fun p => p.2.cvtNan) then noteFpx s k F.LAT_FPX_CVT_NAN else s
  let s := if nanBlocks == 0 then s else incF s (tileBase k) F.LAT_CVT_CNT_NANBLK nanBlocks
  if sat == 0 then s else incF (noteFpx s k F.LAT_FPX_CVT_SAT) (tileBase k) F.LAT_CVT_CNT_SAT sat

/-- CLU.RPL_LOG takes the first outcome: 0 T, 1 D, 2 P. -/
def rplLog (s : State) (c outcome : Nat) (drain : Bool) (t desc bank row g pass beat : Nat) : State :=
  let b := cluBase c
  if isF s b F.CLU_RPL_LOG_VALID then s
  else wr s (b + F.CLU_RPL_LOG_VALID.off)
    (2 ^ 63 + outcome * 2 ^ 61 + b2n drain * 2 ^ 60 + t * 2 ^ 56 + desc * 2 ^ 50 + bank * 2 ^ 49 + row * 2 ^ 42 + g * 2 ^ 40 +
      pass * 2 ^ 36 + beat % 65536)

/-- Engine beat number of the beat of parity `p` that is open in a field, or was opened last. -/
def beatNoOf (s : State) (f p : Nat) : Nat :=
  match (field s f).beats.find? fun e => e.parity == p with
  | some e => e.no
  | none => (field s f).openNo.getD 0

/-- A replay record enters the cluster's buffer, or taints the beat where no entry is free (R232). -/
def addRecord (s : State) (k : Nat) (r : RRec) : State :=
  let c := tileCluster k
  let r := { r with no := beatNoOf s (tileField k) r.parity }
  if ((cluster s c).records.filter fun x => x.parity == r.parity).length < 8 then
    suspectSeen (modCluster s c fun v => { v with records := v.records ++ [r] }) c r.parity
  else taint (report s k 0x23 1 r.desc) c r.parity 0x23

/-- A tally mismatch is counted, logged and reported (R94); `first` says that the operation has not reported one. -/
def tallyMismatch (s : State) (k : Nat) (drain first : Bool) (desc bank row g pass : Nat) : State :=
  let b := tileBase k
  let w := pass * 2 ^ 42 + g * 2 ^ 46 + row * 2 ^ 48 + bank * 2 ^ 55 + desc * 2 ^ 56 + b2n drain * 2 ^ 62
  let s := incF (setF s b F.LAT_ERR_TALLY) b F.LAT_TALLY_CNT_COUNT 1
  let s := if isF s b F.LAT_TALLY_LOG_VALID then s else wr s (b + F.LAT_TALLY_LOG_VALID.off) (w + 2 ^ 63)
  if first then report s k 0x20 1 w else s

/-- A lane of a group fails its parity as it is read: the group is poisoned, 0xA1 raised and the beat tainted (R95, R226). -/
def accParity (s : State) (k bank row g bp : Nat) : State :=
  let s := modLat s k fun l => poisonGroup l bank row g true
  setF (taint (report s k 0xA1 1 row) (tileCluster k) bp 0xA1) (tileBase k) F.LAT_ERR_ACC_PARITY

/-- The drain check of one group (R92, R230): a failed check rereads the group; the reread, made on the same stored lanes,
passes unless they themselves disagree. -/
def drainGroup (s : State) (k : Nat) (o : LOp) (row g : Nat) : State × LOp :=
  let b := tileBase k
  let inj := (lat s k).injDrain
  let (made, bad, nonfin) := drainCheck (lat s k) o.e.bank row g inj
  let s := if accBadGroup (lat s k) o.e.bank row g then
      accParity s k o.e.bank row g o.e.bp
    else s
  if nonfin then (wrapF s b F.LAT_NONFIN_CNT_SKIPPED 1, o)
  else if !made then (incF s b F.LAT_TALLY_CNT_SKIPPED 1, o)
  else
    let s := modLat s k fun l => { l with injDrain := false }
    if !bad then (s, o)
    else
      let s := tallyMismatch s k true (!o.mismatched) o.e.descNo o.e.bank row g 0
      let s := incF s b F.LAT_REPEAT_CNT_REPEATS 1
      let o := { o with mismatched := true }
      let again := (drainCheck (lat s k) o.e.bank row g false).2.1
      if again then
        let s := incF s b F.LAT_REPEAT_CNT_FAILED 1
        let s := modLat s k fun l => poisonGroup l o.e.bank row g true
        let s := rplLog s (tileCluster k) 2 true (tileT k) o.e.descNo o.e.bank row g 0 (beatOf s k o.e.bp)
        (permanent s (tileCluster k) (tileT k + 2 * 16) (some o.e.bp), o)
      else
        let vs := accGroup (lat s k) o.e.bank row g
        let v : LVec := { op := o.e.id, m := row - o.e.acc0, pass := 0, act := 0, scale := 0, wset := {}, poison := false }
        (addRecord s k { tile := tileT k, drain := true, desc := o.e.descNo, pass := 0, bank := o.e.bank, row, group := g,
                         parity := o.e.bp, beat := beatOf s k o.e.bp, vec := v, so := vs, sr := vs, tFirst := (0, 0), tr := (0, 0),
                         lo := o.e.lo, tally := grpAt (lat s k) o.e.bank row g }, o)

/-- tc that a drain's accumulator reads take (Table 03.5). -/
def drainTime (lo : Nat) : Nat := ceilDiv (dM lo * dLanes lo) 128

/-- The read of an MX drain's scale row, which follows its element rows or flits (R85). -/
def askScales (s : State) (k : Nat) (o : LOp) : State :=
  let s := modLat s k fun l => { l with drain := l.drain.map fun y => { y with writes := y.writes + 1 } }
  presentLat s k 3 o.e 3001 (o.e.b + dOscl o.e.hi)

/-- The drain reads its rows, lanes `bad` failing their parity, checks the groups, converts, and presents the row writes, or
holds the flits (R79, R83, R85, R95). -/
def drainStart (s : State) (k : Nat) (bad : List (Fin 128 × Fin 32)) (o : LOp) : State :=
  let e := o.e
  let at_ := max s.tc (lat s k).drainTc
  let s := modLat s k fun l => { spoilLanes l e.bank (bad.map fun x => (x.1.val, x.2.val)) with
    bankTc := put 0 l.bankTc e.bank (at_ + drainTime e.lo) }
  let gs := (List.range (dM e.lo)).flatMap fun m => (List.range (dLanes e.lo / 8)).map fun g => (e.acc0 + m, g)
  let (s, o) := gs.foldl (fun (p : State × LOp) x => drainGroup p.1 k p.2 x.1 x.2) (s, o)
  let ofmt := dOfmt e.lo
  let src := drainSource (lat s k) e
  let scs := if isMx ofmt then (drainScales ofmt src).map fun x => BitVec.ofNat 8 x.1 else []
  let o := { o with rows := [(3000, BitVec.ofNat 4096 (ofBytes scs), false)] }
  let codes := drainCodes e o.seed o.cnt src
  let w := ofmtBits ofmt
  let s := noteDrain s k codes (if isMx ofmt then ((drainScales ofmt src).filter fun x => x.2).length else 0)
  let total : Nat := codes.foldr (fun c acc => c.1 % 2 ^ w + 2 ^ w * acc) 0
  let unit := if e.aq then 256 else 4096
  let per := unit / w
  let n := ceilDiv codes.length per
  let mark (j : Nat) : Bool := ((src.drop (per * j)).take per).any fun p => p.2.2
  if e.aq then
    let fl := (List.range n).map fun j => ((BitVec.ofNat 256 (total / 2 ^ (256 * j)) : Flit), mark j)
    modLat s k fun l => { l with drain := some { o with started := true, flits := fl, due := at_ + 4 } }
  else
    let s := modLat s k fun l => { l with drain := some { o with started := true, writes := n, due := at_ + 12 + drainTime e.lo } }
    let s := (List.range n).foldl (fun s j =>
      present s k 3 { row := (e.b + j) % 8192, kind := .write (BitVec.ofNat 4096 (total / 2 ^ (4096 * j))) (mark j) .drain, bp := e.bp }) s
    if isMx ofmt then askScales s k o else s

/-- A waiting drain starts once its hazard clears (R83, Table 03.4); `bad` names the lanes, by row, that fail their parity
as it reads them. -/
def drainTry (s : State) (k : Nat) (bad : List (Fin 128 × Fin 32)) : State :=
  match (lat s k).drain with
  | some o => if !o.started && bankClear (lat s k) o.e then drainStart s k bad o else s
  | none => s

/-- A LISS is dispatched against a set of another record and computes with zero weights (R395). -/
def setMismatch (l : Lattice) (e : LEnt) : Bool :=
  let r := setRecord l e
  !isMulti e.lo && (r.1 == 2 || (r.1 == 1 && (r.2.1 != dWfmt e.lo || r.2.2 != dS24 e.lo)))

/-- The head entry dispatches to its engine once that is free, at the earliest in the tc after its issue (R82). A LISS that
takes its vectors from a queue has no row reads to wait for: the array is free behind it at once (log entry 133). -/
def execLatticeDispatch (t : LaneRead) (s : State) : Out :=
  let k := tileNo t.tile; let b := tileBase k; let l := lat s k
  match l.queue with
  | [] => .next s
  | e :: r =>
    let pop : State := modLat (waitTc s (e.issued + 1)) k fun l => { l with queue := r }
    if !clockOn s k then .next s
    else match e.op with
    | 1 =>
      if l.loader.isSome then .next s
      else
        let s := modLat pop k fun l => { l with loader := some { e, since := pop.tc } }
        let s := if e.aq then s else presentLat s k 1 e 1002 e.a
        .next (if readsSide e.lo then presentLat s k 1 e 1000 e.b !e.aq else s)
    | 0 =>
      if l.liss.any fun o => decide (o.asked < lissReads o.e) then .next s
      else
        let zero := setMismatch l e
        let s := if zero then setF (report pop k 0xA3 1 e.descNo) b F.LAT_ERR_SET_FMT else pop
        .next (feedAsk (modLat s k fun l => { l with liss := l.liss ++ [{ e, zeroSet := zero, since := s.tc }] }) k)
    | _ =>
      if l.drain.isSome then .next s
      else
        let o : LOp := { e, seed := getF s b F.LAT_SR_SEED_SEED, cnt := getF s b F.LAT_SR_CNT_CNT, since := pop.tc }
        let s := if dRmode e.lo == 2 then wrapF pop b F.LAT_SR_CNT_CNT 1 else pop
        .next (drainTry (modLat s k fun l => { l with drain := some o }) k t.badLanes)

/-! ### The loader (R73 to R76) -/

def rowOf (o : LOp) (key : Nat) : Option (Row × Bool) := (o.rows.find? fun r => r.1 == key).map fun r => r.2

/-- An earlier LISS still needs set `x`: vectors to enter, in the array, or a check pending (Table 03.4, R231). -/
def setInUse (l : Lattice) (id x : Nat) : Bool :=
  (l.liss.any fun o => decide (o.e.id < id) && (isMulti o.e.lo || o.e.set == x) &&
    (decide (o.pass < passCount o.e.lo) || (l.inArray.any fun v => v.op == o.e.id) || (l.failed.any fun f => f.vec.op == o.e.id)))

/-- BF16 and FP32 weights that the loader flushes (R104). -/
def loadFlushes (wf : Nat) (data : Nat) : Bool :=
  (wf == 3 || wf == 5) && (List.range 128).any fun i => (element wf (bits data (elemBits wf * i) (elemBits wf))).2

/-- A column scale of a loaded set is 0xFF (R99). -/
def nanColumns (lo : Nat) (w : WSet) : Bool :=
  wScaled (dWfmt lo) && w.kind == 1 && (List.range (pathN (descPath lo))).any fun n => columnScale w n == 255

/-- tc in which the flits that a unit would take from a queue were all there. -/
def qSince (s : State) (k q n : Nat) : Nat :=
  (((queueOf s k q).dropWhile fun f => f.popped != 0).take n).foldl (fun a f => max a f.at_) 0

/-- First tc in which an LWLD may complete: 8 after its dispatch, and 2 after its last row or flit (Table 03.5). -/
def loadDue (s : State) (k : Nat) (o : LOp) : Nat :=
  let last := o.came.foldl (fun a r => max a r.2) (if o.e.aq then qSince s k o.e.qn (weightBytes (dWfmt o.e.lo) / 32) else o.since + 6)
  last + 2

/-- An LWLD completes: the set takes its weights and side section, its record and its poison mark (R73 to R76, R84). -/
def execLwldComplete (t : TileId) (s : State) : Out :=
  let k := tileNo t; let b := tileBase k
  match (lat s k).loader with
  | none => .next s
  | some o =>
    let e := o.e
    let nb := weightBytes (dWfmt e.lo)
    let sideNow := if readsSide e.lo then rowOf o 1000 else some (0, false)
    let dataOk := if e.aq then decide (nb / 32 ≤ qWhole s k e.qn) else (rowOf o 1002).isSome
    if !dataOk || sideNow.isNone || setInUse (lat s k) e.id e.set || !clockOn s k then .next s
    else
      let s := waitTc s (loadDue s k o)
      let (s, data, pd) :=
        if e.aq then
          let (s, l) := qTake s k e.qn (nb / 32)
          (s, (rowOfFlits (l.map Prod.fst)).toNat, l.any Prod.snd)
        else
          let r := (rowOf o 1002).getD (0, false)
          (s, bits r.1.toNat (8 * nb * e.part) (8 * nb), r.2)
      let side := sideNow.getD (0, false)
      let w : WSet := { kind := 1, fmt := dWfmt e.lo, s24 := dS24 e.lo, data := BitVec.ofNat 4096 data,
                        side := if readsSide e.lo then BitVec.ofNat 512 (bits side.1.toNat (512 * e.part) 512) else 0,
                        poison := pd || side.2 }
      let s := modLat s k fun l => { l with loader := none, set0 := if e.set == 0 then w else l.set0,
                                            set1 := if e.set == 1 then w else l.set1,
                                            setTc := put 0 l.setTc e.set s.tc }
      let s := if w.poison then setF (poisonConsumed s k 1 e.bp e.descNo) b F.LAT_ERR_POISON else s
      let s := if dWfmt e.lo == 11 then
          incF s b F.LAT_TRN_CNT_CODE10 ((List.range 512).filter fun i => bits data (2 * i) 2 == 2).length else s
      let s := if loadFlushes (dWfmt e.lo) data then noteFpx s k F.LAT_FPX_L_FLUSH else s
      let s := if nanColumns e.lo w then noteFpx s k F.LAT_FPX_NAN_SCALE else s
      .next (complete s k e.ce e.c)

/-! ### The array (R77 to R79, R86 to R89) -/

/-- tc of the ramp trigger last seen: the tile's own, or its field's (R86). -/
def rampStart (s : State) (k : Nat) : Option Nat :=
  match (lat s k).rampAt, (field s (tileField k)).rampAt with
  | none, b => b
  | some a, none => some a
  | some a, some b => some (max a b)

/-- A ramp begun at `start` admits a vector in tc `t` (R86). -/
def rampAdmits (start : Option Nat) (t : Nat) : Bool :=
  match start with
  | none => true
  | some a => decide (256 ≤ t - a) || decide ((t - a) % 4 < 1 + (t - a) / 64)

/-- The power actuator admits a vector in tc `t`: the compute fraction's bubbles are spread evenly over each 64-tc window,
offset by 3 * F tc (R305); the droop hold and the pattern after it (R307); the di/dt limiter (R308). -/
def powerAdmits (s : State) (k t : Nat) : Bool :=
  let f := tileField k
  let n := max (getF s 0 F.PWR_ACT_F_COMP) (look 0 s.power.wing (tileW k))
  let j := (t + 3 * (f % 84)) % 64
  let bubble := (j + 1) * n / 64 != j * n / 64
  let droop := match (field s f).droopAt with
    | none => false
    | some a =>
      let hold := getF s (fieldBase f) F.FLD_PWR_CFG_HOLD_TC
      decide (t - a < hold) || (decide (t - a < hold + 256) && !(decide ((t - a - hold) % 4 < 1 + (t - a - hold) / 64)))
  !bubble && !droop && decide ((field s f).didtUntil ≤ t)

/-- Both admit a vector. -/
def admits (s : State) (k : Nat) (ramp : Option Nat) (t : Nat) : Bool := rampAdmits ramp t && powerAdmits s k t

/-- A ramp trigger (R86). -/
def rampTrigger (s : State) (k : Nat) : State := modLat s k fun l => { l with rampAt := some s.tc }

/-- The start of the ramp in force once a vector has been ready since tc `r`: it begins anew in the first tc with a vector
ready after the array has accepted none for LAT.RAMP.IDLE consecutive tc, if that tc is no later than `t` (R86). -/
def rampWith (s : State) (k r t : Nat) : Option Nat :=
  let a := max r ((lat s k).lastVec + max 64 (getF s (tileBase k) F.LAT_RAMP_IDLE) + 1)
  if a ≤ t then some (match rampStart s k with | none => a | some b => max a b) else rampStart s k

/-- The first of `n` tc from `t` on of which `p` holds. -/
def firstTc (p : Nat → Bool) : Nat → Nat → Option Nat
  | 0, _ => none
  | n + 1, t => if p t then some t else firstTc p n (t + 1)

/-- The first tc from `t` on in which a vector ready since tc `r` may enter. The longest a ramp, a droop hold and its pattern
withhold one is looked ahead; an actuator that withholds every vector leaves none. -/
def entryTime (s : State) (k r t : Nat) : Option Nat :=
  firstTc (fun u => admits s k (rampWith s k r u) u) (1024 + getF s (fieldBase (tileField k)) F.FLD_PWR_CFG_HOLD_TC)
    (max t (field s (tileField k)).didtUntil)

/-- The set that an operation's vector meets is ready: no earlier LWLD to it is under way (Table 03.4). -/
def setReady (l : Lattice) (e : LEnt) : Bool :=
  match l.loader with
  | some o => !(decide (o.e.id < e.id) && (isMulti e.lo || o.e.set == e.set))
  | none => true

/-- No earlier LDRAIN of the bank still has accumulator reads to make (Table 03.4). -/
def bankReady (l : Lattice) (e : LEnt) : Bool :=
  match l.drain with
  | some o => !(decide (o.e.id < e.id) && o.e.bank == e.bank && !o.started)
  | none => true

/-- The key of the activation row that holds the next vector. -/
def rowKeyOf (o : LOp) : Nat :=
  let r := o.next * vecBytes o.e.lo / 512
  if isMulti o.e.lo && decide (2 < actRows o.e.lo) then o.pass * actRows o.e.lo + r else r

/-- The next vector's bytes, scale and poison mark, where they are at hand. -/
def vectorData (s : State) (k : Nat) (o : LOp) : Option (Nat × Nat × Bool) :=
  let vb := vecBytes o.e.lo
  if o.e.aq then
    let nf := ceilDiv vb 32
    if vb == 16 && o.next % 2 == 1 then
      -- the second half of a flit already taken
      (rowOf o 2000).map fun r => (bits r.1.toNat 128 128, 0, r.2)
    else if nf ≤ qWhole s k o.e.qn then
      let l := ((queueOf s k o.e.qn).dropWhile fun f => f.popped != 0).take nf
      some (bits (rowOfFlits (l.map fun f => f.data.getD 0)).toNat 0 (8 * vb), 0, l.any fun f => f.poison)
    else none
  else
    match rowOf o (rowKeyOf o), (if actScaled o.e.lo then rowOf o 1001 else some (0, false)) with
    | some r, some sc =>
      some (bits r.1.toNat (8 * (o.next * vb % 512)) (8 * vb), bits sc.1.toNat (8 * o.next) 8, r.2 || sc.2)
    | _, _ => none

/-- The activation elements of a vector that the feed flushes (R104). -/
def feedFlushes (lo act : Nat) : Bool :=
  let w := elemBits (dAfmt lo)
  (dAfmt lo == 3 || dAfmt lo == 5) && (List.range 16).any fun i => (element (dAfmt lo) (bits act (w * i) w)).2

/-- The LISS whose vectors enter now: the oldest that has one left. -/
def feeding (l : Lattice) : Option LOp := l.liss.find? fun o => decide (o.pass < passCount o.e.lo)

/-- The operation after its next vector has entered: position, passes, rows no longer needed (R77, R89). -/
def LOp.stepped (o : LOp) : LOp :=
  let last := o.next + 1 == dM o.e.lo
  let o' := { o with next := if last then 0 else o.next + 1, pass := if last then o.pass + 1 else o.pass }
  if o.e.aq || (isMulti o.e.lo && decide (actRows o.e.lo ≤ 2)) || rowKeyOf o' == rowKeyOf o then o'
  else { o' with rows := o'.rows.filter fun r => r.1 != rowKeyOf o }

/-- A vector of which all is at hand: data, set, bank, and no failed check that holds the array (R87, R229). -/
structure Entry where
  o : LOp
  act : Nat
  scale : Nat
  poison : Bool
  weights : Row × Bool

/-- The program vector that is ready to enter. -/
def vectorReady (s : State) (k : Nat) : Option Entry :=
  let l := lat s k
  match feeding l with
  | none => none
  | some o =>
    match vectorData s k o, (if isMulti o.e.lo then rowOf o 1000 else some (0, false)) with
    | some (act, scale, poison), some weights =>
      if setReady l o.e && bankReady l o.e && l.failed.isEmpty && clockOn s k then some { o, act, scale, poison, weights } else none
    | _, _ => none

/-- tc in which row `key` of an operation came. -/
def rowCame (o : LOp) (key : Nat) : Nat := look 0 o.came key

/-- The first tc in which a LISS's next vector is ready, all of it being at hand: 1 after its row, its scale row or its flit
came, 2 after its multi-pass weight row, once its set is loaded and its bank read (Tables 03.4, 03.5). -/
def readySince (s : State) (k : Nat) (o : LOp) : Nat :=
  let l := lat s k
  let vb := vecBytes o.e.lo
  let data :=
    if o.e.aq then (if vb == 16 && o.next % 2 == 1 then 0 else qSince s k o.e.qn (ceilDiv vb 32) + 1)
    else max (rowCame o (rowKeyOf o)) (if actScaled o.e.lo then rowCame o 1001 else 0) + 1
  let set := if isMulti o.e.lo then max (max (look 0 l.setTc 0) (look 0 l.setTc 1)) (rowCame o 1000 + 2) else look 0 l.setTc o.e.set
  max (max data set) (max (look 0 l.bankTc o.e.bank) (max l.entryTc (o.since + 1)))

/-- The tc before `e` are counted: those with a LISS dispatched and no vector ready (LAT.FEED_CNT), and those in which the
ramp, or the power actuator alone, withheld a ready one (R87). -/
def countWaiting (s : State) (k e : Nat) : State :=
  let l := lat s k; let b := tileBase k
  if e ≤ l.countTc then s
  else
    let s' := modLat s k fun l => { l with countTc := e }
    match feeding l with
    | none => s'
    | some o =>
      let a := max l.countTc (max l.entryTc (o.since + 1))
      let r := if (vectorReady s k).isSome then min e (readySince s k o) else e
      let from_ := max (max a r) l.heldTc
      let withheld := (List.range (e - from_)).map fun j => from_ + j
      let ramp := withheld.filter fun t => !rampAdmits (rampWith s k r t) t
      let power := withheld.filter fun t => rampAdmits (rampWith s k r t) t && !powerAdmits s k t
      let s' := if a < r then wrapF s' b F.LAT_FEED_CNT_WAITS (r - a) else s'
      let s' := if ramp.isEmpty then s' else incF s' b F.LAT_BUBBLE_CNT_RAMP ramp.length
      if power.isEmpty then s' else incF s' b F.LAT_BUBBLE_CNT_POWER power.length

/-- The flits that a queue-sourced vector pops; a second 16-byte vector is the rest of the flit before it (R78). -/
def popVector (s : State) (k : Nat) (o : LOp) : State × List (Nat × Row × Bool) :=
  let vb := vecBytes o.e.lo
  if !o.e.aq || (vb == 16 && o.next % 2 == 1) then (s, [])
  else
    let (s, l) := qTake s k o.e.qn (ceilDiv vb 32)
    (s, if vb == 16 then [(2000, rowOfFlits (l.map Prod.fst), l.any Prod.snd)] else [])

/-- A multi-pass LISS places its pieces in both sets with its first vector (R89). -/
def placePieces (s : State) (k : Nat) (o : LOp) (w : Row × Bool) : State :=
  if isMulti o.e.lo && o.pass == 0 && o.next == 0 then
    let off := if descPath o.e.lo == .fp16 then 2048 * o.e.part else 0
    let w : WSet := { kind := 2, fmt := dWfmt o.e.lo, s24 := false, data := BitVec.ofNat 4096 (w.1.toNat / 2 ^ off), side := 0,
                      poison := w.2 }
    let s := if loadFlushes w.fmt w.data.toNat then noteFpx s k F.LAT_FPX_L_FLUSH else s
    modLat s k fun l => { l with set0 := w, set1 := w }
  else s

/-- The array holds a vector for 6 tc, so at most 6 of them (Table 03.5). -/
def arrayFull (l : Lattice) : Bool := decide (6 ≤ l.inArray.length)

/-- The vector as it enters in tc `e`: its operands, and the poison of its data and its set. -/
def Entry.vec (x : Entry) (l : Lattice) (e : Nat) : LVec :=
  let w := if isMulti x.o.e.lo || x.o.e.set == 0 then l.set0 else l.set1
  { op := x.o.e.id, m := x.o.next, pass := x.o.pass, act := BitVec.ofNat 512 x.act, scale := x.scale,
    wset := if x.o.zeroSet then {} else w, poison := x.poison || w.poison, due := e + 6 }

/-- A vector enters in the state's tc: its flits are popped, a multi-pass LISS's pieces placed, the feed moves on and reads
the next row as soon as a buffer frees (R77, R78, R89); a scale of 0xFF and flushed elements are noted (R99, R104). -/
def enterVector (s : State) (k : Nat) (x : Entry) : State :=
  let o := x.o
  let (s, half) := popVector s k o
  let s := placePieces s k o x.weights
  let v := x.vec (lat s k) s.tc
  let s := if feedFlushes o.e.lo x.act then noteFpx s k F.LAT_FPX_L_FLUSH else s
  let s := if actScaled o.e.lo && x.scale == 255 then noteFpx s k F.LAT_FPX_NAN_SCALE else s
  let s := wrapF s (tileBase k) F.LAT_ARRAY_CNT_VECTORS 1
  let o1 := { o.stepped with rows := half ++ o.stepped.rows.filter fun r => r.1 != 2000 }
  feedAsk (modLat s k fun l => { l with
    liss := l.liss.map fun y => if y.e.id == o.e.id then o1 else y,
    inArray := l.inArray ++ [v], history := (v :: l.history).take 16, lastVec := s.tc, entryTc := s.tc + 1, countTc := s.tc + 1 }) k

/-- An activation vector enters the array, one in a tc, in the first tc in which the ramp and the power actuator admit it
(R86, R87). -/
def execVectorEntry (t : TileId) (s : State) : Out :=
  let k := tileNo t
  match vectorReady s k with
  | none => .next s
  | some x =>
    let r := readySince s k x.o
    if arrayFull (lat s k) then .next s
    else match entryTime s k r (max s.tc (max r (lat s k).heldTc)) with
    | none => .next s
    | some e =>
      let s := countWaiting s k e
      let ramp := rampWith s k r e
      .next (enterVector (modLat (waitTc s e) k fun l => { l with rampAt := if ramp == rampStart s k then l.rampAt else ramp }) k x)

end Sys2Proof.Machine
end

