-- ==== Sys2Proof/Machine/Array.lean ====
section
/-! DEFINITION. What leaves the array: increments and the tally's record (R79, R91, R92, R106), the array check and the repeat
(R94, R95, R229 to R232), completions and load-floor work (R84, R85, R87), and the lattice's own register writes. -/

namespace Sys2Proof.Machine

/-- Column sums of a vector; a fault that the command names changes a column's bits. -/
def vectorSums (o : LOp) (v : LVec) (fault : List (Fin 32 × BitVec 32)) : List ColSum :=
  (List.range (pathN (descPath o.e.lo))).map fun n =>
    let y := columnSum o.e.lo v.pass v.act (columnFor o.e.lo v.wset n)
    let x := fault.foldl (fun a f => if f.1.val == n then a ^^^ f.2 else a) 0
    if x == 0 then y else { num := sumNum o.e.lo (y.bits ^^^ x), bits := y.bits ^^^ x, note := y.note }

/-- A NaN scale that governs the vector: its own, or one of its set (R99). -/
def nanScale (o : LOp) (v : LVec) : Bool := (actScaled o.e.lo && v.scale == 255) || nanColumns o.e.lo v.wset

/-- Elements of an activation vector. -/
def actCount (lo : Nat) : Nat := 8 * vecBytes lo / elemBits (dAfmt lo)

/-- A NaN or infinity among a vector's activation elements, its set's weights, or their scales (R108). The checks of a LISS
that computes with zero weights pass (R395). -/
def vectorNonfinite (o : LOp) (v : LVec) : Bool :=
  !o.zeroSet && (nanScale o v ||
    ((List.range (actCount o.e.lo)).any fun i => !(actElem o.e.lo v.act i).isFin) ||
    (List.range (pathN (descPath o.e.lo))).any fun n => (columnFor o.e.lo v.wset n).any fun p => !p.2.isFin)

/-- A group after an increment (R79, R92, R106): lanes, tally record, notes, whether an INT32 lane wrapped. -/
def accumulate (o : LOp) (v : LVec) (j : Nat) (sums : List ColSum) (old : List (BitVec 32)) (e : TEnt) :
    List (BitVec 32) × TEnt × Note × Bool :=
  let fresh := !dAccum o.e.lo && v.pass == 0
  let cs := (List.range 8).map fun i => sums.getD (8 * j + i) ⟨.fin false 0 0, 0, {}⟩
  let ys := cs.map fun c => c.bits
  if accInt o.e.lo then
    let t := ys.foldl (· + ·) 0
    if fresh then (ys, { c := t, pm := 0, a := 1, fp := false, poison := v.poison }, {}, false)
    else
      let out := (List.range 8).map fun i => old.getD i 0 + ys.getD i 0
      let wrap := (List.range 8).any fun i => (old.getD i 0).toInt + (ys.getD i 0).toInt != (out.getD i 0).toInt
      (out, { c := e.c + t, pm := e.pm, a := satAdd 4095 e.a 1, fp := false, poison := e.poison || v.poison }, {}, wrap)
  else
    let incs := (cs.zipIdx).map fun c => increment o.e.lo v.wset (8 * j + c.2) v.scale c.1.num
    let ns := incs.foldl (fun (a : Note) x => a.or x.2) {}
    let nums := incs.map fun x => (f32In x.1).1
    let t := exactSum nums
    let p := exactSum (nums.map Num.abs)
    let out (x : Num) : BitVec 32 := (f32Out x true true).1
    if fresh then (incs.map fun x => x.1, { c := out t, pm := out p, a := 1, fp := true, poison := v.poison }, ns, false)
    else
      let adds := (List.range 8).map fun i => f32Add (old.getD i 0) ((incs.getD i (0, {})).1)
      (adds.map Prod.fst,
       { c := out ((f32In e.c).1.add t), pm := out ((f32In e.pm).1.add p), a := satAdd 4095 e.a 1, fp := true,
         poison := e.poison || v.poison },
       adds.foldl (fun (a : Note) x => a.or x.2) ns, false)

/-- A number as a signed integer and an exponent. -/
def numPair : Num → Int × Int
  | .fin n m e => (if n then -(m : Int) else m, e)
  | _ => (0, 0)

/-- T of group `j` of a vector (R91). -/
def groupT (o : LOp) (v : LVec) (j : Nat) : Num × Num :=
  tallyT o.e.lo v.pass v.act ((List.range 8).map fun i => columnFor o.e.lo v.wset (8 * j + i))

/-- The kinds of check a group of a vector gets. -/
inductive GroupCheck where
  | pass | fail | nonfinite | skip
  deriving DecidableEq, Repr

/-- The array check of group `j` (R91, R95, R108). -/
def groupCheck (o : LOp) (v : LVec) (j : Nat) (sums : List ColSum) (inj : Bool) : GroupCheck :=
  let ss := (List.range 8).map fun i => (sums.getD (8 * j + i) ⟨.fin false 0 0, 0, {}⟩).num
  if v.poison then .skip
  else if vectorNonfinite o v || ss.any fun x => !x.isFin then .nonfinite
  else
    let t := groupT o v j
    if arrayCheck o.e.lo t.1 (exactSum ss) t.2 inj then .pass else .fail

/-- Groups that an operation's vectors write: (index among the columns, lane group). -/
def opGroups (o : LOp) : List (Nat × Nat) :=
  let n := pathN (descPath o.e.lo)
  (List.range (n / 8)).map fun j => (j, (o.e.lane * n) / 8 + j)

/-- The increment of a vector enters one group; its pre-image is kept (R231). `bad` names lanes that fail their parity as
they are read for the addition. -/
def groupWrite (s : State) (k : Nat) (o : LOp) (v : LVec) (j g : Nat) (sums : List ColSum) (bad : List (Fin 32)) :
    State × Note × Bool :=
  let row := o.e.acc0 + v.m
  let reads := dAccum o.e.lo || v.pass != 0
  let s := if reads then modLat s k fun l => spoilLanes l o.e.bank ((bad.filter fun x => x.val / 8 == g).map fun x => (row, x.val)) else s
  let s := if reads && accBadGroup (lat s k) o.e.bank row g then accParity s k o.e.bank row g o.e.bp else s
  let l := lat s k
  let old := accGroup l o.e.bank row g
  let e := grpAt l o.e.bank row g
  let pre : PreImg := { op := o.e.id, m := v.m, pass := v.pass, bank := o.e.bank, row, group := g, lanes := old, tally := e }
  let (vs, e', n, w) := accumulate o v j sums old e
  let same (p : PreImg) : Bool := p.bank == o.e.bank && p.row == row && p.group == g
  (modLat s k fun l => { setGroup l o.e.bank row g vs e' with
      preImages := pre :: ((l.preImages.filter same).take 7 ++ l.preImages.filter fun p => !same p) }, n, w)

/-- A failed check of a vector that is no repeat of a failed one (R94, R229): the group is poisoned until its repeat; what it was
before is what it was before the first of the group's failures. -/
def checkFailed (s : State) (k : Nat) (o : LOp) (v : LVec) (g : Nat) (so : List (BitVec 32)) (t : Num) : State × LOp :=
  let row := o.e.acc0 + v.m
  let was := match (lat s k).failed.find? fun f => f.bank == o.e.bank && f.row == row && f.group == g with
    | some f => f.wasPoison
    | none => (grpAt (lat s k) o.e.bank row g).poison
  let s := tallyMismatch s k false (!o.mismatched) o.e.descNo o.e.bank row g v.pass
  let s := suspectSeen s (tileCluster k) o.e.bp
  let f : Failed := { vec := v, bank := o.e.bank, row, group := g, desc := o.e.descNo, bp := o.e.bp, so, tFirst := numPair t,
                      wasPoison := was }
  (modLat s k fun l => { poisonGroup l o.e.bank row g true with failed := l.failed ++ [f] }, { o with mismatched := true })

/-- The outcome of a failed group's repeat (R229, R232, R235). -/
def repeatOutcome (s : State) (k : Nat) (o : LOp) (f : Failed) (v : LVec) (sr : List (BitVec 32)) (t : Num) (ok : Bool) : State :=
  if ok then
    let s := modLat s k fun l => poisonGroup l f.bank f.row f.group f.wasPoison
    addRecord s k { tile := tileT k, drain := false, desc := f.desc, pass := v.pass, bank := f.bank, row := f.row,
                    group := f.group, parity := f.bp, beat := beatOf s k f.bp, vec := v, so := f.so, sr,
                    tFirst := f.tFirst, tr := numPair t, lo := o.e.lo }
  else
    let s := incF s (tileBase k) F.LAT_REPEAT_CNT_FAILED 1
    let s := modLat s k fun l => poisonGroup l f.bank f.row f.group true
    let s := rplLog s (tileCluster k) 2 false (tileT k) f.desc f.bank f.row f.group v.pass
      (beatOf s k f.bp)
    permanent s (tileCluster k) (tileT k + 1 * 16) (some f.bp)

/-- One group of a vector: the increment and the check. `prior` lists the failures that this pass repeats; a repeat whose
check is not made has not passed (R229, R235). -/
def vectorGroup (prior : List Failed) (sums : List ColSum) (bad : List (Fin 32)) (k : Nat) (v : LVec)
    (p : State × LOp × Note × Bool) (jg : Nat × Nat) : State × LOp × Note × Bool :=
  let (s, o, n0, w0) := p
  let (s, n, w) := groupWrite s k o v jg.1 jg.2 sums bad
  let inj := (lat s k).injArray && prior.isEmpty
  let ss := (List.range 8).map fun i => (sums.getD (8 * jg.1 + i) ⟨.fin false 0 0, 0, {}⟩).bits
  let t := (groupT o v jg.1).1
  let c := groupCheck o v jg.1 sums inj
  let s := if inj && (c == .pass || c == .fail) then modLat s k fun l => { l with injArray := false } else s
  let s := if c == .nonfinite then wrapF s (tileBase k) F.LAT_NONFIN_CNT_SKIPPED 1 else s
  let (s, o) := match prior.find? fun f => f.vec.m == v.m && f.vec.pass == v.pass && f.group == jg.2 with
    | some f => (repeatOutcome s k o f v ss t (c == .pass), o)
    | none => if c == .fail then checkFailed s k o v jg.2 ss t else (s, o)
  (s, o, n0.or n, w0 || w)

/-- Poison that a lattice operation consumes: once per operation (R95). -/
def opPoison (s : State) (k : Nat) (o : LOp) : State × LOp :=
  if o.poisoned then (s, o)
  else (setF (poisonConsumed s k 1 o.e.bp o.e.descNo) (tileBase k) F.LAT_ERR_POISON, { o with poisoned := true })

/-- A vector's sums reach the accumulators and are checked. -/
def vectorResult (s : State) (k : Nat) (o : LOp) (v : LVec) (prior : List Failed) (fault : List (Fin 32 × BitVec 32))
    (bad : List (Fin 32)) : State × LOp :=
  let b := tileBase k
  let sums := vectorSums o v fault
  let (s, o) := if v.poison then opPoison s k o else (s, o)
  let (s, o, n, w) := (opGroups o).foldl (vectorGroup prior sums bad k v) (s, o, {}, false)
  let n := sums.foldl (fun (a : Note) x => a.or x.note) n
  let s := if n.invalid then noteFpx s k F.LAT_FPX_L_INVALID else s
  let s := if n.overflow then noteFpx s k F.LAT_FPX_L_OVERFLOW else s
  let s := if n.flush then noteFpx s k F.LAT_FPX_L_FLUSH else s
  if w && !o.wrapped then
    (setF (report s k 0xA2 1 o.e.descNo) b F.LAT_ERR_WRAP, { o with wrapped := true })
  else (s, o)

def setLiss (s : State) (k : Nat) (o : LOp) : State :=
  modLat s k fun l => { l with liss := l.liss.map fun y => if y.e.id == o.e.id then o else y }

/-- The oldest vector in the array leaves it, 6 tc after it entered (R91, Table 03.5). `badLanes` fail their parity where its
addition reads them. -/
def execArrayResult (t : TileId) (colFault : List (Fin 32 × BitVec 32)) (badLanes : List (Fin 32)) (s : State) : Out :=
  let k := tileNo t
  match (lat s k).inArray with
  | [] => .next s
  | v :: r =>
    match (lat s k).liss.find? fun o => o.e.id == v.op with
    | none => .next s
    | some o =>
      if !clockOn s k then .next s
      else
        let s := modLat (waitTc s v.due) k fun l => { l with inArray := r }
        let (s, o) := vectorResult s k { o with due := s.tc + 1 } v [] colFault badLanes
        .next (setLiss s k o)

/-- A vector comes no earlier than `f` in its operation. -/
def notBefore (f v : LVec) : Bool := decide (f.pass < v.pass) || (v.pass == f.pass && decide (f.m ≤ v.m))

/-- The pre-images of an operation's increments from a vector on are put back, newest first (R229). -/
def restore (l : Lattice) (f : LVec) : Lattice :=
  let mine (p : PreImg) : Bool :=
    p.op == f.op && (decide (f.pass < p.pass) || (p.pass == f.pass && decide (f.m ≤ p.m)))
  let l' := (l.preImages.filter mine).foldl (fun l p => setGroup l p.bank p.row p.group p.lanes p.tally) l
  { l' with preImages := l.preImages.filter fun p => !mine p }

/-- The repeat on the original (R229): once the array is empty, the increments from the failing vector on are undone and its
operation's vectors re-issued in their order, in 8 tc and one more for each. -/
def execLatticeRepeat (t : TileId) (colFault : List (Fin 32 × BitVec 32)) (s : State) : Out :=
  let k := tileNo t
  match (lat s k).failed, (lat s k).inArray with
  | f :: _, [] =>
    match (lat s k).liss.find? fun o => o.e.id == f.vec.op with
    | none => .next s
    | some o =>
      let first := ((lat s k).failed.filter fun x => x.vec.op == f.vec.op).foldl
        (fun a x => if notBefore x.vec a then x.vec else a) f.vec
      let prior := (lat s k).failed.filter fun x => x.vec.op == f.vec.op
      let vs := ((lat s k).history.filter fun v => v.op == f.vec.op && notBefore first v).reverse
      if !clockOn s k then .next s else
      let s := waitTc s (s.tc + 8 + vs.length)
      let s := modLat s k fun l => { restore l first with failed := l.failed.filter fun x => x.vec.op != f.vec.op, heldTc := s.tc }
      let s := incF s (tileBase k) F.LAT_REPEAT_CNT_REPEATS 1
      let (s, o) := vs.foldl (fun (p : State × LOp) v => vectorResult p.1 k p.2 v prior colFault []) (s, o)
      .next (setLiss s k { o with due := s.tc })
  | _, _ => .next s

/-- A LISS completes once its last vector's check is done (R84); a drain that waited for it may start. -/
def execLissComplete (t : LaneRead) (s : State) : Out :=
  let k := tileNo t.tile
  match (lat s k).liss with
  | [] => .next s
  | o :: r =>
    let l := lat s k
    if decide (o.pass < passCount o.e.lo) || (l.inArray.any fun v => v.op == o.e.id) ||
      (l.failed.any fun f => f.vec.op == o.e.id) || !clockOn s k
    then .next s
    else
      let s := modLat (waitTc s o.due) k fun l => { l with liss := r }
      .next (complete (drainTry s k t.badLanes) k o.e.ce o.e.c)

/-- A dummy vector's check fails, or the armed injection makes it (R87, R94): counted, logged and reported as any other. It has no
descriptor, bank, row or group, so what the log and the report hold of them is free (log entry 134). -/
def floorMismatch (s : State) (k : Nat) : State :=
  let b := tileBase k
  let (s, n) := nextFree s
  let w := (Config.freeWord n).toNat % 2 ^ 62 / 2 ^ 42 * 2 ^ 42
  let s := incF (setF s b F.LAT_ERR_TALLY) b F.LAT_TALLY_CNT_COUNT 1
  let s := if isF s b F.LAT_TALLY_LOG_VALID then s else wr s (b + F.LAT_TALLY_LOG_VALID.off) (w + 2 ^ 63)
  suspectSeen (report s k 0x20 1 w) (tileCluster k) (parity s k)

/-- No dummy vector may enter in tc `e`: a ready program vector takes it (R87), a repeat holds the array (R229), or a replay
record waits for it (R233). -/
def floorBarred (s : State) (k e : Nat) : Bool :=
  (match vectorReady s k with
    | some x => decide (readySince s k x.o ≤ e) && admits s k (rampWith s k (readySince s k x.o) e) e
    | none => false) || !(lat s k).failed.isEmpty || recordWaits s k

/-- A dummy vector of the load floor (R87, R310): in a tc that no program vector can use, as the ramp and the power actuator
allow. It sets off the idle ramp as a program vector does, and the tally checks it. -/
def execLoadFloorVector (t : FloorRun) (s : State) : Out :=
  let k := tileNo t.tile
  if life s k == .live && isF s 0 F.PWR_STATUS_FLOOR_ON && clockOn s k then
    let e0 := max s.tc (lat s k).entryTc
    match entryTime s k e0 e0 with
    | none => .next s
    | some e =>
      if floorBarred s k e then .next s
      else
        let ramp := rampWith s k e0 e
        let inj := (lat s k).injArray
        let s := wrapF (waitTc s e) (tileBase k) F.LAT_FLOOR_CNT_FLOOR 1
        let s := modLat s k fun l => { l with
          rampAt := if ramp == rampStart s k then l.rampAt else ramp, floorAt := some e, lastVec := e, entryTc := e + 1, injArray := false }
        .next (if inj || t.fault then floorMismatch s k else s)
  else .next s

/-- An LDRAIN to a queue writes its next flit as space allows, the first 4 tc after its start and then one a tc (R83); the read of
its scale row follows the last (R85). -/
def execDrainFlitWrite (t : TileId) (s : State) : Out :=
  let k := tileNo t
  match (lat s k).drain with
  | some o =>
    match o.flits with
    | f :: r =>
      if decide (1 ≤ qFree s k o.e.qn) && clockOn s k then
        let s := waitTc s o.due
        let (s, _) := reserve s k o.e.qn 1 fun id _ => { id, data := some f.1, poison := f.2, at_ := s.tc }
        let o := { o with flits := r, due := if r.isEmpty then s.tc else s.tc + 1 }
        let s := modLat s k fun l => { l with drain := some o }
        .next (if r.isEmpty && isMx (dOfmt o.e.lo) then askScales s k o else s)
      else .next s
    | [] => .next s
  | none => .next s

/-- The scale row of an MX drain has been read: the row goes back with its first bytes the scales, all else and the mark of the
read as they were (R85). -/
def scalesBack (s : State) (k : Nat) (v : Row) (p : Bool) : State :=
  match (lat s k).drain with
  | some o =>
    let n := ceilDiv (dM o.e.lo * dLanes o.e.lo) 32
    let row := rowPatch v 0 (toBytes n ((rowOf o 3000).getD (0, false)).1.toNat)
    present s k 3 { row := (o.e.b + dOscl o.e.hi) % 8192, kind := .write row p .drain, bp := o.e.bp }
  | none => s

/-- A drain completes once its rows or flits are written, its scale row with it (R84, R85). -/
def execLdrainComplete (t : TileId) (s : State) : Out :=
  let k := tileNo t
  match (lat s k).drain with
  | some o =>
    if !o.started || o.writes != 0 || !o.flits.isEmpty || !clockOn s k then .next s
    else .next (complete (modLat (waitTc s o.due) k fun l => { l with drain := none }) k o.e.ce o.e.c)
  | none => .next s

/-! ### Register writes of the lattice -/

/-- A write of LAT.DESC_LO(d): the hardware recomputes V (R81). -/
def writeLatDesc (s : State) (k d v : Nat) : State :=
  let lo := v % 2 ^ 45 / 2 ^ 32 * 2 ^ 32 + v % 2 ^ 28
  wr s (tileBase k + F.LAT_DESC_LO_AFMT.off + 16 * d) (lo + b2n (latDescV lo) * 2 ^ 29)

def execLatDescWrite (t : TileId) (d : Fin 64) (v : Word) (s : State) : Out := .next (writeLatDesc s (tileNo t) d v.toNat)

/-- A write of LAT.SR_CNT (R114). -/
def execSrCntWrite (t : TileId) (v : Word) (s : State) : Out :=
  .next (putF s (tileBase (tileNo t)) F.LAT_SR_CNT_CNT v.toNat)

/-- A write of LAT.TALLY_TEST arms what its bits say. -/
def writeTallyTest (s : State) (k v : Nat) : State :=
  modLat s k fun l => { l with injArray := l.injArray || bit v 0, injDrain := l.injDrain || bit v 1 }

def execTallyInjArray (t : TileId) (s : State) : Out := .next (writeTallyTest s (tileNo t) 1)
def execTallyInjDrain (t : TileId) (s : State) : Out := .next (writeTallyTest s (tileNo t) 2)

end Sys2Proof.Machine
end

