-- ==== Sys2Proof/Machine/Mailbox.lean ====
section
/-! DEFINITION. Mailbox records, doorbells, responses and the status mirror (R339 to R348). Slots 0..15 are link 0's, 16..31
link 1's, 32 and 33 management Ethernet's. -/

namespace Sys2Proof.Machine

def modSteward (s : State) (f : Steward → Steward) : State := { s with steward := f s.steward }

/-! ### Life of fields (Table 01.3) -/

/-- Backed tiles of a field that are in a state. -/
def lifeCount (s : State) (f : Nat) (l : Life) : Nat :=
  let good := ((fieldClusters f).filter fun c => backed s c).length * 16
  let own := s.lifeT.filter fun e => e.2.isSome && tileField e.1 == f && backed s (tileCluster e.1)
  (if (look {} s.lifeF f).st == l then good - own.length else 0) +
    (own.filter fun e => match e.2 with | some x => x.st == l | none => false).length

/-- Some backed tile of the engine is in a state. -/
def anyLife (s : State) (l : Life) : Bool := (List.range 168).any fun f => decide (0 < lifeCount s f l)

/-- Every backed tile of the engine is in a state. -/
def allLife (s : State) (l : Life) : Bool :=
  (List.range 168).all fun f => [Life.dark, .selftest, .instar, .live, .frozen].all fun x => x == l || lifeCount s f x == 0

/-- A field is FROZEN as a whole (R203). -/
def fieldFrozen (s : State) (f : Nat) : Bool := (look {} s.lifeF f).st == .frozen

/-! ### The status mirror (R346) -/

def phase (s : State) : Nat := getF s 0 F.MBX_MIRROR_PHASE

/-- The engine is ready (R343): past phase 8, and neither stopped nor failed. -/
def engineReady (s : State) : Bool := phase s == 15 && !s.steward.stopped && !s.steward.failed

/-- MBX.MIRROR(0).STATE. -/
def mirrorState (s : State) : Nat :=
  let w := s.steward
  if w.failed then 7 else if w.stopped then 6 else if phase s != 15 then 0
  else if getF s 0 F.PWR_STATUS_STATE == 4 then 5
  else if !w.loaded then 1
  else if anyLife s .instar then 2
  else if (List.range 168).any fun f => fieldFrozen s f then 4
  else if anyLife s .live then 3 else 1

def jitorUp (s : State) : Bool := isF s 0 F.MBX_MIRROR_JITOR_UP

/-- An MSI-X message of a function (R345, R375). -/
def msix (s : State) (f v : Nat) : State := { s with evc := { s.evc with msix := s.evc.msix ++ [(f, v)] } }

/-- The in-band interrupt of the I3C target, with its mandatory byte (R347). -/
def inBand (s : State) : State :=
  if bit s.i3c.events 0 && isF s 0 ⟨F.MGT_CLK_ON_ON.off, 2, 1⟩ then
    { s with i3c := { s.i3c with ibi := s.i3c.ibi ++
        [BitVec.ofNat 8 (mirrorState s + 16 * getF s 0 F.MBX_MIRROR_STEWARD_RESET)] } }
  else s

/-- What a change of MIRROR(0).STATE, or of JITOR_UP, since `old` causes: vector 32 of each function, and an in-band
interrupt on a change of STATE (R345, R347). -/
def noteState (old s : State) : State :=
  let ch := mirrorState old != mirrorState s
  let s := if ch || jitorUp old != jitorUp s then msix (msix s 0 32) 1 32 else s
  if ch then inBand s else s

/-! ### Records (Table 14.3) -/

def reqWord (s : State) (slot i : Nat) : Nat := (look 0 s.steward.req (8 * slot + i)).toNat
def respWord (s : State) (slot i : Nat) : Nat := (look 0 s.steward.resp (8 * slot + i)).toNat
def reqOp (s : State) (slot : Nat) : Nat := bits (reqWord s slot 0) 0 16
/-- Argument word `i` of a request. -/
def arg (s : State) (slot i : Nat) : Nat := reqWord s slot (i + 1)
def slotBusy (s : State) (slot : Nat) : Bool := look false s.steward.busy slot
def waiting (s : State) (slot : Nat) : Option Wait := look none s.steward.waits slot

/-- A doorbell of one slot: the slot is busy, and Jitor takes it in doorbell order (R341). It pulses the slot's source. -/
def ring (s : State) (slot : Nat) : State :=
  let s := modSteward s fun w => { w with busy := put false w.busy slot true, queue := w.queue ++ [slot] }
  let s := if slot < 32 then putF s 0 F.MBX_DONE_DONE (getF s 0 F.MBX_DONE_DONE - getF s 0 F.MBX_DONE_DONE / 2 ^ slot % 2 * 2 ^ slot) else s
  let s := modSteward s fun w => { w with resp := Sparse.drop (fun i => i / 8 == slot) w.resp }
  pulse s (352 + slot)

/-- A write of MBX.DOORBELL by a link: bits in ascending order; a busy slot, or one of the other link, is ignored and
counted. -/
def doorbell (s : State) (link v : Nat) : State :=
  (List.range 32).foldl (fun s slot =>
    if !(bit v slot) then s
    else if slotBusy s slot || slot / 16 != link then incF s 0 F.MBX_STAT_IGNORED 1
    else ring s slot) s

/-- A slot's command is complete: the response record, BUSY, DONE and the notification (R341); a command that a reset of its link
overtook is not notified (Table 14.7). -/
def respond (s : State) (slot code : Nat) (ws : List Nat) : State :=
  let r0 := reqWord s slot 0
  let all := (r0 % 2 ^ 32 + code % 256 * 2 ^ 32) :: ws
  let s := modSteward s fun w => { w with
    resp := (List.range 8).foldl (fun m i => put 0 m (8 * slot + i) (BitVec.ofNat 64 (all.getD i 0))) w.resp
    busy := put false w.busy slot false
    queue := w.queue.filter fun x => x != slot
    waits := put none w.waits slot none }
  if slot < 32 then
    let s := putF s 0 F.MBX_DONE_DONE (getF s 0 F.MBX_DONE_DONE ||| 2 ^ slot)
    if s.steward.quiet.contains slot then modSteward s fun w => { w with quiet := w.quiet.filter fun x => x != slot }
    else if bit r0 32 then msix s (slot / 16) slot else s
  else s

/-- A command stays in its slot until what it waits for comes about. -/
def await (s : State) (slot : Nat) (w : Wait) : State :=
  modSteward s fun x => { x with waits := put none x.waits slot (some w) }

/-- The slots that wait for something, in doorbell order. -/
def waiters (s : State) (p : Wait → Bool) : List Nat :=
  s.steward.queue.filter fun slot => match waiting s slot with | some w => p w | none => false

/-- Responds in every slot that waits for something. -/
def respondAll (s : State) (p : Wait → Bool) (code : Nat) (ws : List Nat) : State :=
  (waiters s p).foldl (fun s slot => respond s slot code ws) s

/-! ### Condition codes (R15) -/

/-- The codes of Table 00.8, and those that the chapters add. -/
def codes : List Nat :=
  [0, 1, 2, 3] ++ ([(0x10, 4), (0x20, 12), (0x30, 11), (0x40, 12), (0x50, 7), (0x60, 11), (0x70, 1), (0x80, 11), (0x90, 7), (0xA0, 4),
    (0xB0, 1), (0xC0, 5), (0xD0, 3), (0xE0, 8), (0xF0, 4)].flatMap fun e => (List.range e.2).map fun i => e.1 + i)

/-- A code that this manual does not define is treated as 0xFF, unknown. -/
def knownCode (c : Nat) : Nat := if codes.contains c then c else 0xFF

/-! ### Classes and common checks (R342, R343, R348, R358) -/

/-- Every opcode of Table 14.4. -/
def opcodes : List Nat := [1, 2, 0x10, 0x11, 0x20, 0x21, 0x22, 0x23, 0x24, 0x30, 0x31, 0x32, 0x40, 0x42, 0x43, 0x44, 0x50, 0x51,
  0x60, 0x61, 0x70, 0x71, 0x80, 0xF0]

/-- Executed at pick-up: the immediate and the parallel commands, and a record whose opcode is undefined. -/
def atPickUp (s : State) (slot : Nat) : Bool :=
  let op := reqOp s slot
  [0x22, 0xF0, 1, 2, 0x10, 0x11, 0x51, 0x42].contains op || (op == 0x80 && bit (arg s slot 0) 3) || !(opcodes.contains op)

/-- The slot is picked up: it is busy, waits for nothing yet, and it is its turn in the one queue or it needs none. -/
def pickedUp (s : State) (slot : Nat) : Bool :=
  slotBusy s slot && (waiting s slot).isNone && (jitorUp s || s.steward.romOnly) &&
    !(s.steward.abandoned.contains slot) &&
    (atPickUp s slot || (s.steward.queue.find? fun x => !(atPickUp s x)) == some slot)

/-- Commands that need no ready engine (R343). -/
def needsNoReady (s : State) (slot : Nat) : Bool :=
  let op := reqOp s slot
  [1, 2, 0x10, 0x40, 0x42, 0x44, 0x70, 0xF0].contains op || (op == 0x11 && arg s slot 0 / 0x1000000000 == 0)

/-- The command may not run now, or not on this interface: condition 0x83 (R343, R348, R358). -/
def notNow (s : State) (slot : Nat) : Bool :=
  let op := reqOp s slot
  (decide (32 ≤ slot) && s.steward.ethFull != 1 && !([1, 2, 0x10, 0x51].contains op)) ||
    (s.steward.romOnly && !([1, 2, 0x44].contains op || (op == 0x42 && !(bit (arg s slot 1) 0)))) ||
    (!(needsNoReady s slot) && !(engineReady s))

/-- Every bit of the record outside OPCODE, TAG, NOTIFY and the bits of `masks`, argument word by word, is zero. -/
def zerosOk (s : State) (slot : Nat) (masks : List Nat) : Bool :=
  reqWord s slot 0 / 2 ^ 33 == 0 &&
    (List.range 7).all fun i => arg s slot i &&& masks.getD i 0 == arg s slot i

/-- The shape of every mailbox command: opcode `op` in a picked-up slot whose record `p` accepts as this command; the
checks of R343; then the command's own. -/
def mailbox (op : Nat) (slot : Nat) (p : State → Bool) (masks : List Nat) (body : State → State) (s : State) : Out :=
  if !(pickedUp s slot) || reqOp s slot != op || !(p s) then .next s
  else if !(zerosOk s slot masks) then .next (respond s slot 0x82 [])
  else if notNow s slot then .next (respond s slot 0x83 [])
  else .next (noteState s (body s))

def yes (_ : State) : Bool := true

/-- A record with an undefined opcode (R343). -/
def execUndefinedOpcode (slot : Fin 34) (s : State) : Out :=
  if pickedUp s slot.val && !(opcodes.contains (reqOp s slot.val)) then .next (respond s slot.val 0x81 []) else .next s

/-- A write of a word of a request record: ignored and counted while the slot is busy (R339). A management-Ethernet
datagram's last word makes its slot busy (R348); while the interface has no clock its words are discarded (R13). -/
def writeRequest (s : State) (slot word v : Nat) : State :=
  if slotBusy s slot then
    if slot < 32 then incF s 0 F.MBX_STAT_BLOCKED 1 else s
  else if 32 ≤ slot && !(isF s 0 F.MGT_CLK_EN_ETH) then s
  else
    let s := modSteward s fun w => { w with req := put 0 w.req (8 * slot + word) (BitVec.ofNat 64 v) }
    if 32 ≤ slot && word == 7 then ring s slot else s

def execRequestRecordWrite (_link : Fin 2) (slot : Fin 34) (word : Fin 8) (v : Word) (s : State) : Out :=
  .next (writeRequest s slot.val word.val v.toNat)

end Sys2Proof.Machine
end

