-- ==== Sys2Proof/Machine/FirnMem.lean ====
section
/-! DEFINITION. The firn as a memory: its address map, granules, errors and poison (R251 to R257). -/

namespace Sys2Proof.Machine

/-- The stack that holds an address (R251). -/
def stackOf (a : Nat) : Nat := 16 * (a / 2 ^ 40 % 2) + (a / 2 ^ 9 % 16 ^^^ a / 2 ^ 13 % 16)

/-- FRN(s)'s block. -/
def frnBase (st : Nat) : Nat := 0x10000 * st
def frnState (s : State) (st : Nat) : Nat := getF s (frnBase st) F.FRN_STATUS_STATE

/-- Bytes of the firn as they stand. -/
def firnBytes (s : State) (a n : Nat) : List Byte := Mem.bytes s.firn a n
def firnNum (s : State) (a n : Nat) : Nat := ofBytes (firnBytes s a n)
def firnRow (s : State) (a : Nat) : Row := BitVec.ofNat 4096 (firnNum s (a / 512 * 512) 512)
def firnPoisoned (s : State) (a : Nat) : Bool := look false s.firnPoison (a / 512)

/-- Granules that the bytes `a .. a + n - 1` touch. -/
def granulesOf (a n : Nat) : List Nat := if n == 0 then [] else (List.range ((a + n - 1) / 512 - a / 512 + 1)).map fun i => (a / 512 + i) * 512

/-- Bytes put into the memory; the flags of the granules that they cover whole clear (R254). -/
def putBytes (s : State) (a : Nat) (bs : List Byte) : State :=
  { s with firn := Mem.write s.firn a bs,
           firnPoison := Sparse.drop (fun g => decide (a ≤ 512 * g) && decide (512 * g + 512 ≤ a + bs.length)) s.firnPoison }

/-- Bytes written as they are: a record, a frame, an exported set. A FAILED stack accepts none (R256). -/
def putFirn (s : State) (a : Nat) (bs : List Byte) : State :=
  if (List.range 32).all fun st => frnState s st != 3 then putBytes s a bs
  else (granulesOf a bs.length).foldl (fun x g =>
    if frnState s (stackOf g) == 3 then x
    else putBytes x (max a g) ((bs.drop (max a g - a)).take (min (a + bs.length) (g + 512) - max a g))) s

/-- A condition behind a stack's EVC source. -/
def frnCondition (s : State) (st code : Nat) : State := condition s (224 + st) code

/-- Corrected codewords are counted; the first count past CORR_LIM since the register was read raises 0xF0 (R255). -/
def countCorr (s : State) (st n : Nat) : State :=
  let b := frnBase st
  let was := getF s b F.FRN_ECC_CNT_CORR; let lim := getF s b F.FRN_CFG_CORR_LIM
  let s := incF s b F.FRN_ECC_CNT_CORR n
  if decide (was ≤ lim) && decide (lim < was + n) then frnCondition s st 0xF0 else s

/-- A read of the granule at `a`, of whose codewords `corr` had correctable errors and `uncorr` had worse: its row and its
mark (R254). What an uncorrectable granule holds is a free value (log entry 2). -/
def granuleRead (s : State) (a : Nat) (corr uncorr : Nat) (patrol : Bool) : State × Row × Bool :=
  let st := stackOf a; let b := frnBase st
  if frnState s st == 3 then (s, 0, true)
  else
    let s := incF s b F.FRN_BW_CNT_READS 1
    let s := if corr == 0 then s else countCorr s st corr
    if uncorr == 0 then (s, firnRow s a, firnPoisoned s a)
    else
      let v := Config.freeRow s.free
      let s := (nextFree s).1
      let s := putFirn s (a / 512 * 512) (toBytes 512 v.toNat)
      let s := frnCondition { s with firnPoison := put false s.firnPoison (a / 512) true } st 0x12
      let s := incF s b F.FRN_ECC_CNT_UNCORR 1
      let s := if isF s b F.FRN_ECC_LOG_VALID then s
        else wr s (b + F.FRN_ECC_LOG_VALID.off) (a / 512 * 512 % 2 ^ 41 + b2n patrol * 2 ^ 62 + 2 ^ 63)
      (s, v, true)

/-- A read of the 512 bytes at `a`, of whose first granule `corr` codewords had correctable errors and `uncorr` had worse: each
granule that they touch is read as R254 has it. -/
def firnRead (s : State) (a corr uncorr : Nat) : State × Row × Bool :=
  let (s, v, p) := granuleRead s a corr uncorr false
  if a % 512 == 0 then (s, v, p)
  else
    let (s, w, q) := granuleRead s (a + 512) 0 0 false
    (s, BitVec.ofNat 4096 (ofBytes (((toBytes 512 v.toNat ++ toBytes 512 w.toNat).drop (a % 512)).take 512)), p || q)

/-- A whole-granule write: its poison flag is the OR of its flits' (R254). A FAILED stack accepts none (R256). -/
def granuleWrite (s : State) (a : Nat) (v : Row) (p : Bool) : State :=
  let st := stackOf a
  if frnState s st == 3 then s
  else
    let s := incF s (frnBase st) F.FRN_BW_CNT_WRITES 1
    { putFirn s (a / 512 * 512) (toBytes 512 v.toNat) with firnPoison := put false s.firnPoison (a / 512) p }

/-! ### Controllers (R253) -/

def firnPending (s : State) (st : Nat) : List FirnTx := look [] s.firnQ st
def setFirnQ (s : State) (st : Nat) (l : List FirnTx) : State :=
  putF { s with firnQ := put [] s.firnQ st l } (frnBase st) F.FRN_STATUS_OUTSTANDING l.length

/-- A request reaches its controller, unless that holds 4,096 already. -/
def firnPost (s : State) (a : Nat) (x : FirnTx) : Option State :=
  let st := stackOf a
  if 4096 ≤ (firnPending s st).length then none else some (setFirnQ s st (firnPending s st ++ [x]))

/-- Streams that wait for a stack's controller. -/
def frnWait (s : State) (st : Nat) : FrnWait := look {} s.edge.wait st
def setFrnWait (s : State) (st : Nat) (w : FrnWait) : State := { s with edge := { s.edge with wait := put {} s.edge.wait st w } }

/-- Stream `n` found the controller full: it waits in edge arbitration. -/
def firnBlock (s : State) (st n : Nat) : State :=
  let w := frnWait s st
  setFrnWait s st { since := if w.who.isEmpty then s.tc else w.since, who := if w.who.contains n then w.who else w.who ++ [n] }

/-- FULL_CNT as it stands now: it counts the tc in which a request waited. -/
def fullSettle (s : State) (st : Nat) : State :=
  let w := frnWait s st
  if w.who.isEmpty then s
  else setFrnWait (incF s (frnBase st) F.FRN_STATUS_FULL_CNT (s.tc - w.since)) st { w with since := s.tc }

def FirnTx.addr : FirnTx → Nat
  | .read _ _ a => a
  | .write a _ _ => a

/-- The oldest transaction of a kind that no earlier one to the same granule precedes. -/
def firnNext (p : FirnTx → Bool) : List FirnTx → List FirnTx → Option (FirnTx × List FirnTx)
  | _, [] => none
  | before, x :: r =>
    if p x && !(before.any fun y => y.addr / 512 == x.addr / 512) then some (x, before.reverse ++ r)
    else firnNext p (x :: before) r

end Sys2Proof.Machine
end

