-- ==== Sys2Proof/Machine/Image.lean ====
section
/-! DEFINITION. Images in firn: header, directory, and the checks Jitor makes before a load (R204 to R207). -/

namespace Sys2Proof.Machine

/-- A directory entry (Table 08.6); `clean` says that its zero bytes are zero. -/
structure DirEnt where
  x0 : Nat
  x1 : Nat
  y0 : Nat
  y1 : Nat
  w : Nat
  kind : Nat
  row : Nat
  nrows : Nat
  ofs : Nat
  clean : Bool
  deriving DecidableEq, Repr

/-- A field of the image header at `base` (Table 08.5). -/
def imgField (s : State) (base off n : Nat) : Nat := firnNum s (base + off) n

def imgFlags (s : State) (base : Nat) : Nat := imgField s base 6 2
def imgTag (s : State) (base : Nat) : Nat := imgField s base 8 4
def imgNent (s : State) (base : Nat) : Nat := imgField s base 28 4
def imgDir (s : State) (base : Nat) : Nat := imgField s base 32 8
def imgLen (s : State) (base : Nat) : Nat := imgField s base 40 8
def fieldRelease (s : State) (base : Nat) : Bool := bit (imgFlags s base) 0
def isStandby (s : State) (base : Nat) : Bool := bit (imgFlags s base) 1

/-- Entry `i` of the directory. -/
def dirEnt (s : State) (base i : Nat) : DirEnt :=
  let f (off n : Nat) : Nat := firnNum s (base + imgDir s base + 32 * i + off) n
  { x0 := f 0 2, x1 := f 2 2, y0 := f 4 2, y1 := f 6 2, w := f 8 1, kind := f 9 1, row := f 10 2, nrows := f 12 2,
    ofs := f 16 8, clean := f 14 2 == 0 && f 24 8 == 0 }

def directory (s : State) (base : Nat) : List DirEnt := (List.range (imgNent s base)).map (dirEnt s base)

/-- The entry's rectangle holds tile `k`. -/
def DirEnt.covers (e : DirEnt) (k : Nat) : Bool :=
  e.w == tileW k && decide (e.x0 ≤ tileX k) && decide (tileX k ≤ e.x1) && decide (e.y0 ≤ tileY k) && decide (tileY k ≤ e.y1)

/-- Some tile lies in both rectangles. -/
def DirEnt.meets (e f : DirEnt) : Bool :=
  e.w == f.w && decide (e.x0 ≤ f.x1) && decide (f.x0 ≤ e.x1) && decide (e.y0 ≤ f.y1) && decide (f.y0 ≤ e.y1)

/-- Two entries write one row of one tile, or bring one tile the same bank twice. -/
def DirEnt.clash (e f : DirEnt) : Bool :=
  e.meets f && ((decide (e.row < f.row + f.nrows) && decide (f.row < e.row + e.nrows)) || (e.kind == f.kind && decide (e.kind < 4)))

/-- Some two members of a list stand in a relation. -/
def anyPair {α : Type} (p : α → α → Bool) : List α → Bool
  | [] => false
  | x :: r => r.any (p x) || anyPair p r

/-- An entry that breaks R204 or R207 by itself. -/
def DirEnt.bad (e : DirEnt) (standby : Bool) (len : Nat) : Bool :=
  !e.clean || decide (1 < e.w) || decide (4 < e.kind) || decide (e.x1 < e.x0) || decide (e.y1 < e.y0) ||
    decide (1151 < e.x1) || decide (671 < e.y1) || e.ofs % 512 != 0 || decide (512 < e.row + e.nrows) ||
    decide (len < e.ofs + 512 * e.nrows) ||
    (decide (e.kind < 4) && (decide (e.nrows < 2) || decide (32 < e.nrows))) || (e.kind == 0 && e.row != 480) ||
    (standby && (e.kind == 0 || e.kind == 4))

/-- A stored COL_BAD word marks some cluster bad, so some cluster may be unbacked; otherwise every cluster is backed. -/
def someBad (s : State) : Bool :=
  s.csr.any fun e => e.1 / 0x1000000000 == 2 &&
    ((List.range 25).any fun r => e.1 % 0x10000 == F.FLD_SHIFT_COL_BAD.off + 8 * r) && e.2 != 0

/-- The unbacked clusters of the engine. -/
def unbackedClusters (s : State) : List Nat :=
  if someBad s then (List.range 96768).filter fun c => !(backed s c) else []

/-- Backed tiles of a rectangle. -/
def DirEnt.tiles (s : State) (e : DirEnt) : Nat :=
  let all := (e.x1 + 1 - e.x0) * (e.y1 + 1 - e.y0)
  all - (((unbackedClusters s).flatMap clusterTiles).filter e.covers).length

/-- Backed tiles of the engine. -/
def backedTiles (s : State) : Nat := 1548288 - 16 * (unbackedClusters s).length

/-- The CRC of the header and directory (Table 08.5). -/
def imgCrc (s : State) (base : Nat) : Nat :=
  crc32c (firnBytes s base 48 ++ firnBytes s (base + imgDir s base) (32 * imgNent s base))

/-- Two ranges of rows meet. -/
def rowsMeet (a n b m : Nat) : Bool := decide (a < b + m) && decide (b < a + n)

/-- Rows of the bank that stands at row `r` of tile `k`, by its header (Table 08.4). -/
def residentRows (s : State) (k r : Nat) : Nat := bits (readRow s (tileCluster k) (512 * tileT k + r % 512)).toNat 24 8

/-- A bank of a STANDBY image lies over a bank that stays in some backed tile: bank 0, or another that is VALID there and that
the image does not bring anew (R204). -/
def overResident (s : State) (base : Nat) (e : DirEnt) : Bool :=
  (List.range 1548288).any fun k => e.covers k && backed s (tileCluster k) &&
    (List.range 4).any fun j =>
      let r := getF s (tileBase k) (F.TSQ_CFGB_BASE.at (8 * j))
      j != e.kind && isF s (tileBase k) (F.TSQ_CFGB_VALID.at (8 * j)) &&
        !((directory s base).any fun d => d.kind == j && d.covers k) && rowsMeet e.row e.nrows r (residentRows s k r)

/-- The header alone breaks R207. -/
def headerBad (s : State) (base : Nat) : Bool :=
  imgField s base 0 4 != 0x52565849 || imgField s base 4 2 != 1 || decide (3 < imgFlags s base) || imgField s base 52 12 != 0 ||
    decide (2 ^ 41 < base + imgLen s base) || decide (imgLen s base < 64) ||
    decide (imgLen s base < imgDir s base + 32 * imgNent s base)

/-- The image at `base` is refused with 0x37 (R207). -/
def imageRefused (s : State) (base : Nat) : Bool :=
  let standby := isStandby s base
  headerBad s base || imgField s base 48 4 != imgCrc s base ||
    (directory s base).any (fun e => e.bad standby (imgLen s base)) || anyPair DirEnt.clash (directory s base) ||
    (!standby && (((directory s base).filter fun e => e.kind == 0).map fun e => e.tiles s).sum != backedTiles s) ||
    (if standby then !(allLife s .frozen) || (directory s base).any (overResident s base) else anyLife s .live)

/-! ### The rows of a tile (R208) -/

/-- The entries for a tile, in directory order. -/
def entriesFor (s : State) (base k : Nat) : List DirEnt := (directory s base).filter fun e => e.covers k

/-- The row addresses a tile receives, in the order sent: bank 0's header last in a full load, each bank's header last of
the bank in a STANDBY load. -/
def rowsFor (s : State) (l : Load) (k : Nat) : List Nat :=
  let es := entriesFor s l.base k
  if l.standby then es.flatMap fun e => (List.range (e.nrows - 1)).map (e.row + 1 + ·) ++ [e.row]
  else
    let all := es.flatMap fun e => (List.range e.nrows).map (e.row + ·)
    all.filter (· != 480) ++ all.filter (· == 480)

/-- The firn address of the content that the image has for a row of a tile. -/
def rowSource (s : State) (base k row : Nat) : Option Nat :=
  ((entriesFor s base k).find? fun e => decide (e.row ≤ row) && decide (row < e.row + e.nrows)).map fun e =>
    base + e.ofs + 512 * (row - e.row)

/-- The data rows of a tile, ascending (Table 08.4). -/
def dataRows (s : State) (base k : Nat) : List Nat :=
  (List.range 512).filter fun r => (entriesFor s base k).any fun e => e.kind == 4 && decide (e.row ≤ r) && decide (r < e.row + e.nrows)

/-- The banks a tile receives. -/
def banksFor (s : State) (base k : Nat) : List DirEnt := (entriesFor s base k).filter fun e => decide (e.kind < 4)

end Sys2Proof.Machine
end

