-- ==== Sys2Proof/Machine/SpuMath.lean ====
section
/-! DEFINITION. Sparse images and what the sparse unit computes from them (R120 to R127, R134 to R140). An image is the number
its bytes spell from byte 0 of its first row (R7, R126). -/

namespace Sys2Proof.Machine

/-! ### Descriptors (SPU.DESC) -/

def zFmt (d : Nat) : Nat := bits d 0 4
def zFmtB (d : Nat) : Nat := bits d 4 4
def zSin (d : Nat) : Nat := bits d 8 2
def zSinB (d : Nat) : Nat := bits d 10 2
def zSout (d : Nat) : Nat := bits d 12 2
def zPrune (d : Nat) : Bool := bit d 14
def zLen (d : Nat) : Nat := bits d 16 12 + 1
def zK (d : Nat) : Nat := bits d 28 13
def zTen (d : Nat) : Bool := bit d 41
def zVen (d : Nat) : Bool := bit d 42
def zRpn (d : Nat) : Nat := bits d 43 3 + 1
def zMove (d : Nat) : Bool := bit d 46
def zList (d : Nat) : Bool := bit d 47
def zSideOff (d : Nat) : Nat := bits d 48 5

/-- The formats a sparse form may hold (R121); a dense vector needs an element width and a zero. -/
def fmtAllowed (sfmt f : Nat) : Bool :=
  match sfmt with
  | 0 => decide (f ≤ 11)
  | 3 => f == 0 || f == 1 || f == 2 || f == 6 || f == 7 || f == 8 || f == 9
  | _ => decide (f ≤ 6) || f == 10 || f == 11

/-- The descriptor is legal for operation `op` (R130). -/
def spuLegal (op d : Nat) : Bool :=
  match op with
  | 0 => zSin d != zSout d && (zSin d != 3 || zSout d == 0) && (zSout d != 3 || zSin d == 0) &&
         fmtAllowed (zSin d) (zFmt d) && fmtAllowed (zSout d) (zFmt d)
  | 1 => zSin d != 3 && zSinB d != 3 && fmtAllowed (zSin d) (zFmt d) && fmtAllowed (zSinB d) (zFmtB d)
  | 2 => (zFmt d == 0 || zFmt d == 3 || zFmt d == 4 || zFmt d == 5) && decide (zK d ≤ 4096)
  | 3 => true
  | _ => fmtAllowed 0 (zFmt d)

/-- SPU.DESC.V as hardware computes it: the formats allowed for the forms named, SFMT 3 only opposite SFMT 0, K in range; what
depends on the operation is looked at when it issues (R130). -/
def spuDescV (d : Nat) : Bool :=
  let ok (sfmt f : Nat) : Bool := sfmt == 0 || fmtAllowed sfmt f
  decide (zK d ≤ 4096) && ok (zSin d) (zFmt d) && ok (zSout d) (zFmt d) && ok (zSinB d) (zFmtB d) &&
    (zSin d != 3 || zSout d == 0) && (zSout d != 3 || zSin d == 0) && zSinB d != 3

/-! ### Elements and images -/

/-- An element that counts as zero (R120). -/
def isZeroCode (fmt c : Nat) : Bool :=
  match fmt with
  | 0 | 6 | 9 | 10 => c == 0
  | 11 => c == 0 || c == 2
  | _ => c % 2 ^ (elemBits fmt - 1) == 0

/-- A NaN element of a format with NaN. -/
def isNanCode (fmt c : Nat) : Bool :=
  match fmt with
  | 1 | 8 => c % 128 == 127
  | 2 => decide (0x7C < c % 128)
  | 3 => decide (0x7F80 < c % 0x8000)
  | 4 => decide (0x7C00 < c % 0x8000)
  | 5 => decide (0x7F800000 < c % 0x80000000)
  | _ => false

/-- A vector as positions and codes: its length, its non-zero elements in ascending order, the codes 0b10 of TRN2 met. -/
structure SVec where
  len : Nat
  elems : List (Nat × Nat)
  trn10 : Nat := 0
  deriving DecidableEq, Repr

/-- Zeros dropped, TRN2 codes 0b10 counted (R120). -/
def SVec.clean (fmt len : Nat) (l : List (Nat × Nat)) : SVec :=
  { len, elems := l.filter fun e => !isZeroCode fmt e.2, trn10 := if fmt == 11 then (l.filter fun e => e.2 == 2).length else 0 }

/-- Element `i` of a packed string that begins at bit `o` (R97). -/
def packed (fmt img o i : Nat) : Nat := bits img (o + elemBits fmt * i) (elemBits fmt)

def denseVec (fmt len img : Nat) : SVec := SVec.clean fmt len ((List.range len).map fun i => (i, packed fmt img 0 i))

/-- Codes packed from bit 0. -/
def packCodes (w : Nat) (l : List Nat) : Nat := l.foldr (fun c acc => c + 2 ^ w * acc) 0

/-- The header of Table 05.1. -/
def hFmt (h : Nat) : Nat := bits h 0 4
def hSfmt (h : Nat) : Nat := bits h 4 2
def hNoval (h : Nat) : Bool := bit h 6
def hPair (h : Nat) : Bool := bit h 7
def hLen (h : Nat) : Nat := bits h 8 12 + 1
def hNnz (h : Nat) : Nat := bits h 20 13
def hNrun (h : Nat) : Nat := bits h 33 13
def hNblk (h : Nat) : Nat := bits h 46 7

def header (fmt sfmt : Nat) (noval pair : Bool) (len nnz nrun nblk fmtB : Nat) : Nat :=
  fmt + sfmt * 2 ^ 4 + b2n noval * 2 ^ 6 + b2n pair * 2 ^ 7 + (len - 1) * 2 ^ 8 + nnz * 2 ^ 20 + nrun * 2 ^ 33 + nblk * 2 ^ 46 +
    fmtB * 2 ^ 53

/-- The header agrees with the descriptor (R127); `mask` says which of NOVAL 0 (some false), NOVAL 1 (some true) or either is
expected. -/
def headerOk (sfmt fmt : Nat) (mask : Option Bool) (h : Nat) : Bool :=
  hSfmt h == sfmt && !hPair h && (match mask with | some m => hNoval h == m | none => true) &&
    (if hNoval h then hFmt h == 0 else hFmt h == fmt && fmtAllowed sfmt fmt)

/-- Bytes before an image's value section: its header with its runs, or with its summary and level-0 words (R123, R124). -/
def structBytes (h : Nat) : Nat := if hSfmt h == 1 then 8 + 8 * ceilDiv (hNrun h) 8 else 16 + 8 * hNblk h

/-- Bytes of an image by its header. -/
def imageBytes (h : Nat) : Nat := structBytes h + (if hNoval h then 0 else ceilDiv (hNnz h * elemBits (hFmt h)) 8)

/-- Positions that run bytes give, and the position after them. -/
def runPositions : List Nat → Nat → List Nat × Nat
  | [], p => ([], p)
  | v :: r, p =>
    if v == 255 then runPositions r (p + 255)
    else let (l, q) := runPositions r (p + v + 1); ((p + v) :: l, q)

/-- The positions that an SFMT 1 or 2 image stores, from its bytes before the value section; none where a check of R127 on its runs,
its summary or its level-0 words fails. -/
def imagePositions (sfmt img : Nat) : Option (List Nat) :=
  let h := img % 2 ^ 64
  let nnz := hNnz h
  let len := hLen h
  if sfmt == 1 then
    let runs := (List.range (hNrun h)).map fun i => bits img (64 + 8 * i) 8
    let (pos, q) := runPositions runs 0
    if decide (q ≤ len) && pos.length == nnz then some pos else none
  else
    let sum := bits img 64 64
    let blocks := (List.range 64).filter fun j => bit sum j
    let words := (List.range blocks.length).map fun i => bits img (128 + 64 * i) 64
    let pos := (blocks.zip words).flatMap fun p => ((List.range 64).filter fun i => bit p.2 i).map fun i => 64 * p.1 + i
    if blocks.length == hNblk h && decide (sum < 2 ^ ceilDiv len 64) && (words.all fun w => w != 0) &&
        (pos.all fun i => decide (i < len)) && pos.length == nnz then some pos else none

/-- An SFMT 1 or 2 image decoded, every stored element kept, a stored zero too; none where a check of R127 fails. A mask's
elements carry code 1. -/
def decodeImage (sfmt fmt : Nat) (mask : Option Bool) (img : Nat) : Option SVec :=
  let h := img % 2 ^ 64
  if !headerOk sfmt fmt mask h then none
  else (imagePositions sfmt img).map fun pos =>
    { len := hLen h,
      elems := if hNoval h then pos.map fun i => (i, 1)
               else pos.zipIdx.map fun p => (p.1, packed fmt img (8 * structBytes h) p.2) }

/-- The run bytes of positions, canonical (R123). -/
def runBytes : List Nat → Nat → List Nat
  | [], _ => []
  | i :: r, p => List.replicate ((i - p) / 255) 255 ++ ((i - p) % 255) :: runBytes r (i + 1)

/-- An image written: its bits, bytes, and NNZ, NRUN, NBLK. -/
structure Image where
  bits : Nat
  bytes : Nat
  nnz : Nat := 0
  nrun : Nat := 0
  nblk : Nat := 0

/-- The SFMT 2 bitmap of positions: summary and level-0 words. -/
def bitmapOf (pos : List Nat) : Nat × List Nat :=
  let blocks := (List.range 64).filter fun j => pos.any fun i => i / 64 == j
  (blocks.foldl (fun a j => a + 2 ^ j) 0,
   blocks.map fun j => pos.foldl (fun a i => if i / 64 == j then a + 2 ^ (i % 64) else a) 0)

def encodeImage (sfmt fmt : Nat) (noval : Bool) (v : SVec) : Image :=
  let n := v.elems.length
  let w := if noval then 0 else elemBits fmt
  let vals := if noval then 0 else packCodes w (v.elems.map Prod.snd)
  match sfmt with
  | 0 =>
    { bits := v.elems.foldl (fun a e => a + e.2 * 2 ^ (elemBits fmt * e.1)) 0, bytes := ceilDiv (v.len * elemBits fmt) 8, nnz := n }
  | 1 =>
    let r := runBytes (v.elems.map Prod.fst) 0
    let o := 8 + 8 * ceilDiv r.length 8
    { bits := header fmt 1 false false v.len n r.length 0 0 + packCodes 8 r * 2 ^ 64 + vals * 2 ^ (8 * o),
      bytes := o + ceilDiv (n * w) 8, nnz := n, nrun := r.length }
  | _ =>
    let (sum, ws) := bitmapOf (v.elems.map Prod.fst)
    let o := 16 + 8 * ws.length
    { bits := header (if noval then 0 else fmt) 2 noval false v.len n 0 ws.length 0 + sum * 2 ^ 64 + packCodes 64 ws * 2 ^ 128 +
        vals * 2 ^ (8 * o),
      bytes := o + ceilDiv (n * w) 8, nnz := n, nblk := ws.length }

/-- The rows of an image from a first row address; the rest of the last row is zero (R126). -/
def imageRows (a : Nat) (i : Image) : List (Nat × Row) :=
  (List.range (max 1 (ceilDiv i.bytes 512))).map fun j => ((a + j) % 8192, BitVec.ofNat 4096 (i.bits / 2 ^ (4096 * j)))

/-- The pair image of a match (R125, R135); a mask operand contributes no section. -/
def pairImage (fmt fmtB : Nat) (noA noB : Bool) (len : Nat) (l : List (Nat × Nat × Nat)) : Image :=
  let n := l.length
  let o1 := 512 * ceilDiv (8 + 2 * n) 512
  let wA := if noA then 0 else elemBits fmt
  let wB := if noB then 0 else elemBits fmtB
  let o2 := o1 + 512 * ceilDiv (n * wA) 4096
  { bits := header (if noA then 0 else fmt) 0 false true len n 0 0 (if noB then 0 else fmtB) +
      packCodes 16 (l.map fun e => e.1) * 2 ^ 64 +
      (if noA then 0 else packCodes wA (l.map fun e => e.2.1)) * 2 ^ (8 * o1) +
      (if noB then 0 else packCodes wB (l.map fun e => e.2.2)) * 2 ^ (8 * o2),
    bytes := o2 + ceilDiv (n * wB) 8, nnz := n }

/-- The matched indices of two vectors with both codes: the positions present in both, a stored zero among them (R135). -/
def matchVecs (a b : SVec) : List (Nat × Nat × Nat) :=
  a.elems.filterMap fun e => (b.elems.find? fun f => f.1 == e.1).map fun f => (e.1, e.2, f.2)

/-! ### The 2:4 form (R136) -/

/-- The magnitude order of two elements' codes: NaN largest. -/
def magRank (fmt c : Nat) : Nat :=
  match fmt with
  | 0 | 9 => if c < 128 then c else 256 - c
  | 6 => if c < 8 then c else 16 - c
  | 7 => c % 8
  | 1 | 8 => c % 128
  | _ => if isNanCode fmt c then 1000 else c % 128

/-- The two positions that a group of four codes keeps, ascending, and whether it had more than two non-zeros. -/
def keepTwo (fmt : Nat) (c : List Nat) : Nat × Nat × Bool :=
  let nz := (List.range 4).filter fun i => !isZeroCode fmt (c.getD i 0)
  let best (l : List Nat) : Nat :=
    l.foldl (fun a i => if magRank fmt (c.getD a 0) < magRank fmt (c.getD i 0) then i else a) (l.headD 0)
  let pair (x y : Nat) : Nat × Nat := if x < y then (x, y) else (y, x)
  match nz with
  | [] => (0, 1, false)
  | [x] => let y := if x == 0 then 1 else 0; ((pair x y).1, (pair x y).2, false)
  | [x, y] => (x, y, false)
  | l =>
    let x := best l
    let y := best (l.filter fun i => i != x)
    ((pair x y).1, (pair x y).2, true)

/-- The code of the dense set at (k, n). -/
def setCode (fmt img k n : Nat) : Nat :=
  if elemBits fmt == 8 then bits img (8 * (32 * n + k)) 8 else bits img (8 * (16 * n) + 4 * k) 4

/-- Compression of a dense set: weight section, index section, groups with more than two non-zeros, TRN codes. -/
def compress24 (fmt img : Nat) : Nat × Nat × Nat :=
  let w := elemBits fmt
  let cells := (List.range 8).flatMap fun n => (List.range 8).map fun g =>
    let c := (List.range 4).map fun i => setCode fmt img (4 * g + i) n
    let k := keepTwo fmt c
    let keep (i : Nat) : Nat := if isZeroCode fmt (c.getD i 0) then 0 else c.getD i 0
    (n, g, k.1, k.2.1, keep k.1, keep k.2.1, k.2.2)
  let weights := cells.foldl (fun a e =>
    a + (e.2.2.2.2.1 + e.2.2.2.2.2.1 * 2 ^ w) * 2 ^ (16 * w * e.1 + 2 * w * e.2.1)) 0
  let idx := cells.foldl (fun a e => a + (e.2.2.1 + e.2.2.2.1 * 4) * 2 ^ (2 * (16 * e.1 + 2 * e.2.1))) 0
  (weights, idx, (cells.filter fun e => e.2.2.2.2.2.2).length)

/-- Expansion of a 2:4 image; none where a group has two equal indices. -/
def expand24 (fmt weights idx : Nat) : Option Nat :=
  let w := elemBits fmt
  let ix (n r : Nat) : Nat := bits idx (2 * (16 * n + r)) 2
  if (List.range 8).any fun n => (List.range 8).any fun g => ix n (2 * g) == ix n (2 * g + 1) then none
  else
    some ((List.range 8).foldl (fun a n => (List.range 16).foldl (fun a r =>
      let c := bits weights (16 * w * n + w * r) w
      a + c * 2 ^ (32 * w * n + w * (4 * (r / 2) + ix n r))) a) 0)

/-! ### STOPK (R137, R138) -/

/-- The 16-bit key of a score. -/
def scoreKey (fmt c : Nat) : Nat :=
  let float (c : Nat) : Nat := if c % 0x8000 == 0 then 0x8000 else if c < 0x8000 then c + 0x8000 else 0xFFFF - c
  match fmt with
  | 0 => (c + 0x80) % 256
  | 5 => float (c / 65536)
  | _ => float c

/-- The selected indices of scores, ascending. -/
def topK (fmt : Nat) (scores : List Nat) (k : Nat) (thr : Option Nat) : List Nat :=
  let cand := (scores.zipIdx.filter fun p => !isNanCode fmt p.1 &&
    match thr with | some t => decide (t ≤ scoreKey fmt p.1) | none => true).map fun p => (scoreKey fmt p.1, p.2)
  if k == 0 || cand.length ≤ k then cand.map Prod.snd
  else
    let above (x : Nat) : Nat := (cand.filter fun p => decide (x < p.1)).length
    -- the boundary key: the largest with at least k candidates at or above it
    let bound := (List.range 16).foldl (fun b i =>
      let t := b + 2 ^ (15 - i)
      if k ≤ (cand.filter fun p => decide (t ≤ p.1)).length then t else b) 0
    let ties := ((cand.filter fun p => p.1 == bound).map Prod.snd).take (k - above bound)
    (cand.filter fun p => decide (bound < p.1) || (p.1 == bound && ties.contains p.2)).map Prod.snd

/-- A fetch list (R125, R140). -/
def fetchList (l : List Nat) : Image :=
  { bits := l.length + packCodes 16 l * 2 ^ 64, bytes := 8 + 2 * l.length }

/-- The row addresses of a mask's neurons (R140). -/
def fetchRows (mask : List Nat) (b rpn : Nat) : List Nat :=
  mask.flatMap fun i => (List.range rpn).map fun q => (b + rpn * i + q) % 8192

end Sys2Proof.Machine
end

