-- ==== Sys2Proof/Machine/Spu.lean ====
section
/-! DEFINITION. The sparse unit: its instructions, class 0x8 (R128 to R130), dispatch, reading, forming and writing (R119, R131 to
R142). An operation reads its input rows in order, stopping at a malformed one, then presents its writes in order (log entry 10). -/

namespace Sys2Proof.Machine

def spu (s : State) (k : Nat) : Spu := (tile s k).spu
def modSpu (s : State) (k : Nat) (f : Spu → Spu) : State := modTile s k fun t => { t with spu := f t.spu }

/-! ### Issue -/

/-- Operation `op` leaves row D unused under its descriptor (Table 05.3). -/
def dUnused (op d : Nat) : Bool := (op == 2 && !zVen d) || (op == 3 && !zList d) || op == 4

/-- PART is in its range (Table 05.2). -/
def spuPartOk (op d part : Nat) : Bool :=
  if op == 0 && (zSin d == 3 || zSout d == 3) then elemBits (zFmt d) == 4 || decide (part ≤ 3) else part == 0

/-- A sparse instruction enters the issue queue with its descriptor copied, or faults (R52, R130). -/
def spuIssue (op : TOp) (t : TileId) (n : Fin 8) (s : State) : Out :=
  issue op t n (fun s i =>
    let k := tileNo t; let b := tileBase k
    let o := op.code.2
    let dno := i.fld 0 8
    let d := rd s (b + F.SPU_DESC_FMT.off + 8 * (dno % 32))
    if !(decide (dno < 32) && bit d 63 && spuLegal o d && spuPartOk o d (i.fld 19 3) && !(dUnused o d && i.d != 0)) then
      (setF (ctxFault s k n 0xC2) b F.SPU_ERR_ILLEGAL, .fault)
    else if o == 3 && !zMove d && i.fld 16 3 != 0 then (illegal s k n, .fault)
    else
      let s := usePoison s k n ([i.a.toNat] ++ (if o == 0 then [] else [i.b.toNat]) ++ (if dUnused o d then [] else [i.d.toNat]))
      let e : SEnt := { op := o, n, bp := bpOf s k n, a := rowOperand s k n i i.a.toNat, b := rowOperand s k n i i.b.toNat,
                        d := rowOperand s k n i i.d.toNat, ce := i.flag 36, c := i.fld 32 4, part := i.fld 19 3,
                        qn := i.fld 16 3, descNo := dno, desc := d }
      (modSpu s k fun u => { u with queue := u.queue ++ [e] }, .next)) s

def execScvt (t : TileId) (n : Fin 8) (s : State) : Out := spuIssue .scvt t n s
def execSmatch (t : TileId) (n : Fin 8) (s : State) : Out := spuIssue .smatch t n s
def execStopk (t : TileId) (n : Fin 8) (s : State) : Out := spuIssue .stopk t n s
def execSfetch (t : TileId) (n : Fin 8) (s : State) : Out := spuIssue .sfetch t n s
def execSverify (t : TileId) (n : Fin 8) (s : State) : Out := spuIssue .sverify t n s

/-! ### Reading -/

/-- The row of key `x`, once delivered. Keys 0.. are rows from A, 1000.. rows from B, 1500 the side row from A, 2000 and 2001 the
rows that SFMT 3 output modifies. -/
def SOp.row (o : SOp) (x : Nat) : Option Row := (o.rows.find? fun r => r.1 == x).map fun r => r.2.1

/-- The number that the delivered rows of keys `x`.. spell. -/
def SOp.image (o : SOp) (x : Nat) : Nat :=
  o.rows.foldl (fun acc r => if x ≤ r.1 && r.1 < x + 500 then acc + r.2.1.toNat * 2 ^ (4096 * (r.1 - x)) else acc) 0

/-- The header that stands in the first row of key `x`. -/
def SOp.head (o : SOp) (x : Nat) : Option Nat := (o.row x).map fun r => r.toNat % 2 ^ 64

/-- The header is one the operation can go on with (R127). -/
def SOp.headOk (o : SOp) (x h : Nat) : Bool :=
  let d := o.e.desc
  match o.e.op with
  | 0 => headerOk (zSin d) (zFmt d) (some false) h
  | 1 => if x == 0 then headerOk (zSin d) (zFmt d) none h else headerOk (zSinB d) (zFmtB d) none h
  | _ => (hSfmt h == 1 || hSfmt h == 2) && headerOk (hSfmt h) 0 (some true) h

/-- `n` rows from row address `a` under keys `x`.. -/
def rowKeys (x a n : Nat) : List (Nat × Nat) := (List.range n).map fun j => (x + j, (a + j) % 8192)

/-- The image of key `x` has passed every check of R127: its header once it is in, then the rows before its value section once they
are. -/
def SOp.imageOk (o : SOp) (x : Nat) : Bool :=
  match o.head x with
  | some h => o.headOk x h && decide (ceilDiv (structBytes h) 512 ≤ (o.rows.filter fun r => decide (x ≤ r.1 ∧ r.1 < x + 500)).length) &&
      (imagePositions (hSfmt h) (o.image x)).isSome
  | none => false

/-- The rows of the image of key `x` at row address `a`, as far as they are known: its first, with a good header those before its
value section, and with these good all of them (R127). -/
def SOp.imageNeed (o : SOp) (x a : Nat) : List (Nat × Nat) :=
  rowKeys x a (match o.head x with
    | some h => if o.headOk x h then max 1 (ceilDiv (if o.imageOk x then imageBytes h else structBytes h) 512) else 1
    | none => 1)

def denseNeed (x a len fmt : Nat) : List (Nat × Nat) := rowKeys x a (ceilDiv (len * elemBits fmt) 4096)

/-- Every row the operation reads, as far as the rows delivered tell. -/
def SOp.need (o : SOp) : List (Nat × Nat) :=
  let d := o.e.desc; let a := o.e.a; let b := o.e.b
  match o.e.op with
  | 0 =>
    if zSout d == 3 then [(0, a), (2000, o.e.d), (2001, (o.e.d + zSideOff d) % 8192)]
    else if zSin d == 3 then [(0, a), (1500, (a + zSideOff d) % 8192)]
    else if zSin d == 0 then denseNeed 0 a (zLen d) (zFmt d) else o.imageNeed 0 a
  | 1 =>
    (if zSin d == 0 then denseNeed 0 a (zLen d) (zFmt d) else o.imageNeed 0 a) ++
    (if zSin d == 0 || o.imageOk 0 then
       let lenA := if zSin d == 0 then zLen d else ((o.head 0).map hLen).getD 0
       if zSinB d == 0 then (if lenA == zLen d then denseNeed 1000 b (zLen d) (zFmtB d) else [])
       else if (o.head 1000).all fun h => hLen h == lenA then o.imageNeed 1000 b else rowKeys 1000 b 1
     else [])
  | 2 => denseNeed 0 a (zLen d) (zFmt d)
  | 3 => o.imageNeed 0 a
  | _ =>
    o.imageNeed 0 a ++
    (match o.head 0 with
     | some h => if o.imageOk 0 then denseNeed 1000 b (hNnz h) (zFmt d) else []
     | none => [])

/-! ### Forming (R133 to R140) -/

/-- What an operation gives. -/
structure SpuOut where
  writes : List (Nat × Row) := []
  malformed : Bool := false
  moves : List Nat := []
  last : Option (Nat × Nat × Nat) := none
  trn10 : Nat := 0
  nan : Nat := 0
  pruned : Nat := 0
  viol : Bool := false
  sampled : Nat := 0
  missed : Nat := 0

/-- A malformed input: the output's first row, with NNZ 0 (R127). -/
def malformedOut (o : SOp) : SpuOut :=
  let d := o.e.desc
  match o.e.op with
  | 0 => { malformed := true, last := if zSout d == 0 || zSout d == 3 then none else some (0, 0, 0),
           writes := [(o.e.d, BitVec.ofNat 4096 (header (zFmt d) (zSout d) false false (zLen d) 0 0 0 0))] }
  | 1 => { malformed := true, last := some (0, 0, 0),
           writes := [(o.e.d, BitVec.ofNat 4096 (header (zFmt d) 0 false true (zLen d) 0 0 0 (zFmtB d)))] }
  | 3 => { malformed := true, last := some (0, 0, 0), writes := if zList d then [(o.e.d, 0)] else [] }
  | _ => { malformed := true }

/-- The vector at key `x` in a form: the non-zeros of a dense vector (R120), every stored element of an image. -/
def SOp.vec (o : SOp) (x sfmt fmt : Nat) (mask : Option Bool) : Option SVec :=
  if sfmt == 0 then some (denseVec fmt (zLen o.e.desc) (o.image x)) else decodeImage sfmt fmt mask (o.image x)

def SOp.isMask (o : SOp) (x sfmt : Nat) : Bool := sfmt != 0 && (match o.head x with | some h => hNoval h | none => false)

/-- SCVT (R134, R136). -/
def formScvt (o : SOp) : SpuOut :=
  let d := o.e.desc; let fmt := zFmt d; let p := o.e.part
  let wb := if elemBits fmt == 8 then 128 else 64
  if zSout d == 3 then
    let (w, ix, n) := compress24 fmt (o.image 0)
    let r0 := rowPatch ((o.row 2000).getD 0) (wb * p) (toBytes wb w)
    let side := (o.e.d + zSideOff d) % 8192
    let r1 := rowPatch (if side == o.e.d then r0 else (o.row 2001).getD 0) (64 * p) (toBytes 32 ix)
    { writes := [(o.e.d, r0), (side, r1)], viol := decide (0 < n) && !zPrune d, pruned := if zPrune d then n else 0 }
  else if zSin d == 3 then
    match expand24 fmt (bits (o.image 0) (8 * wb * p) (8 * wb)) (bits ((o.row 1500).getD 0).toNat (512 * p) 256) with
    | some v => { writes := [(o.e.d, BitVec.ofNat 4096 v)] }
    | none => malformedOut o
  else
    match o.vec 0 (zSin d) fmt (some false) with
    | none => malformedOut o
    | some w =>
      let v := if zSin d == 0 then w else SVec.clean fmt w.len w.elems
      let i := encodeImage (zSout d) fmt false v
      { writes := imageRows o.e.d i, trn10 := v.trn10, last := if zSout d == 0 then none else some (i.nnz, i.nrun, i.nblk) }

/-- SMATCH (R135). -/
def formSmatch (o : SOp) : SpuOut :=
  let d := o.e.desc
  match o.vec 0 (zSin d) (zFmt d) none, o.vec 1000 (zSinB d) (zFmtB d) none with
  | some a, some b =>
    if a.len != b.len then malformedOut o
    else
      let i := pairImage (zFmt d) (zFmtB d) (o.isMask 0 (zSin d)) (o.isMask 1000 (zSinB d)) a.len (matchVecs a b)
      { writes := imageRows o.e.d i, trn10 := a.trn10 + b.trn10, last := some (i.nnz, 0, 0) }
  | _, _ => malformedOut o

/-- STOPK (R137, R138). -/
def formStopk (o : SOp) : SpuOut :=
  let d := o.e.desc; let fmt := zFmt d; let len := zLen d
  let scores := (List.range len).map fun i => packed fmt (o.image 0) 0 i
  let thr := if zTen d then some (scoreKey fmt (o.thr % 2 ^ elemBits fmt)) else none
  let sel := topK fmt scores (zK d) thr
  let mask (l : List Nat) : Image := encodeImage 2 0 true { len, elems := l.map fun i => (i, 1) }
  let m := mask sel
  let samples := (scores.zipIdx.filter fun p => !isNanCode fmt p.1 && !sel.contains p.2 &&
    decide (srU o.vseed o.vcnt p.2 < o.vcfg % 65536)).map Prod.snd
  { writes := imageRows o.e.b m ++ (if zVen d then imageRows o.e.d (mask samples) else []),
    nan := (scores.filter fun c => isNanCode fmt c).length, last := some (m.nnz, 0, m.nblk) }

/-- The positions of the mask at key 0. -/
def SOp.mask (o : SOp) : Option (List Nat) :=
  match o.head 0 with
  | some h => if o.headOk 0 h then (decodeImage (hSfmt h) 0 (some true) (o.image 0)).map fun v => v.elems.map Prod.fst else none
  | none => none

/-- SFETCH (R140). -/
def formSfetch (o : SOp) : SpuOut :=
  let d := o.e.desc
  match o.mask with
  | none => malformedOut o
  | some l =>
    let rows := fetchRows l o.e.b (zRpn d)
    { writes := if zList d then imageRows o.e.d (fetchList rows) else [], moves := if zMove d then rows else [],
      last := if zList d then some (l.length, 0, 0) else none }

/-- SVERIFY (R139). -/
def formSverify (o : SOp) : SpuOut :=
  let d := o.e.desc
  match o.mask with
  | none => malformedOut o
  | some l =>
    let codes := (List.range l.length).map fun i => packed (zFmt d) (o.image 1000) 0 i
    { sampled := l.length, missed := (codes.filter fun c => !isZeroCode (zFmt d) c).length,
      trn10 := if zFmt d == 11 then (codes.filter fun c => c == 2).length else 0 }

def SOp.form (o : SOp) : SpuOut :=
  match o.e.op with
  | 0 => formScvt o
  | 1 => formSmatch o
  | 2 => formStopk o
  | 3 => formSfetch o
  | _ => formSverify o

/-- Counts what SVERIFY found; the first excess over LIMIT in a beat is reported (R139). -/
def noteVerify (s : State) (k : Nat) (o : SOp) (r : SpuOut) : State :=
  let b := tileBase k
  let lim := o.vcfg / 65536 % 65536
  let was := getF s b F.SPU_VERIFY_CNT_BEAT_MISS
  let s := incF s b F.SPU_VERIFY_CNT_SAMPLED r.sampled
  let s := incF s b F.SPU_VERIFY_CNT_MISSED r.missed
  let s := incF s b F.SPU_VERIFY_CNT_BEAT_MISS r.missed
  if lim != 0xFFFF && decide (was ≤ lim) && decide (lim < was + r.missed) then
    setF (report s k 0xC3 2 r.missed) b F.SPU_ERR_MISS_LIMIT
  else s

/-- The poison mark that a write keeps: a row that SFMT 3 output modifies keeps its own. -/
def keptPoison (o : SOp) (j : Nat) : Bool :=
  if o.e.op == 0 && zSout o.e.desc == 3 then (o.rows.find? fun r => r.1 == 2000 + j).any fun r => r.2.2 else false

/-- Every input row is in: the output is formed, its writes presented, and what it met counted and reported. -/
def spuForm (s : State) (k : Nat) (o : SOp) : State :=
  let b := tileBase k
  let poisoned := o.rows.any fun r => r.2.2 && decide (r.1 < 2000)
  let r := o.form
  let mark := poisoned || r.malformed || r.viol
  let s := if poisoned then setF (poisonConsumed s k 2 o.e.bp o.e.descNo) b F.SPU_ERR_POISON
    else if r.malformed then setF (report s k 0xC0 2 o.e.descNo) b F.SPU_ERR_MALFORMED else s
  let s := if r.viol then setF (report s k 0xC1 2 o.e.descNo) b F.SPU_ERR_VIOL24 else s
  let s := incF (incF (incF s b F.SPU_CNT_TRN10 r.trn10) b F.SPU_CNT_NANSCORE r.nan) b F.SPU_CNT_PRUNED r.pruned
  let s := if o.e.op == 4 && !r.malformed then noteVerify s k o r else s
  let s := match r.last with
    | some (nnz, nrun, nblk) => putF (putF (putF s b F.SPU_LAST_NNZ nnz) b F.SPU_LAST_NRUN nrun) b F.SPU_LAST_NBLK nblk
    | none => s
  let s := modSpu s k fun u =>
    { u with cur := some { o with formed := true, writes := r.writes.length, moves := r.moves, poisoned } }
  r.writes.zipIdx.foldl (fun s w =>
    present s k 4 { row := w.1.1, kind := .write w.1.2 (mark || keptPoison o w.2) .spu, bp := o.e.bp }) s

/-- The running operation presents the reads it now knows of, or, with all rows in, forms its output. -/
def spuAdvance (s : State) (k : Nat) : State :=
  match (spu s k).cur with
  | none => s
  | some o =>
    if o.formed then s
    else
      let need := o.need
      let new := need.drop o.asked
      if new.isEmpty then (if o.rows.length == o.asked then spuForm s k o else s)
      else
        let s := modSpu s k fun u => { u with cur := some { o with asked := need.length } }
        new.foldl (fun s e => present s k 4 { row := e.2, kind := .read (.spu e.1), bp := o.e.bp }) s

/-- A row reaches the running operation. -/
def spuRow (s : State) (k x : Nat) (v : Row) (p : Bool) : State :=
  spuAdvance (modSpu s k fun u => { u with cur := u.cur.map fun o => { o with rows := o.rows ++ [(x, v, p)] } }) k

/-! ### Dispatch, moves and completion -/

/-- The head entry dispatches once the previous operation has completed; its settings are captured (R119, R138, R141). -/
def execSpuDispatch (t : TileId) (s : State) : Out :=
  let k := tileNo t; let b := tileBase k
  match (spu s k).cur, (spu s k).queue with
  | none, e :: r =>
    let o : SOp := { e, thr := getF s b F.SPU_SEL_THR_THR, vseed := getF s b F.SPU_VSEED_SEED, vcnt := getF s b F.SPU_VCNT_CNT,
                     vcfg := rd s (b + F.SPU_VERIFY_CFG_RATE.off) }
    let s := if e.op == 2 && zVen e.desc then wrapF s b F.SPU_VCNT_CNT 1 else s
    .next (spuAdvance (modSpu s k fun u => { u with queue := r, cur := some o }) k)
  | _, _ => .next s

/-- SFETCH with MOVE issues its next row read once 16 flits can be reserved (R140). -/
def execSfetchRowRead (t : TileId) (s : State) : Out :=
  let k := tileNo t
  match (spu s k).cur with
  | some o =>
    match o.moves with
    | row :: r =>
      if o.formed && decide (16 ≤ qFree s k o.e.qn) then
        let (s, id) := reserve s k o.e.qn 16 fun id _ => { id }
        let s := modSpu s k fun u => { u with cur := some { o with moves := r, moving := o.moving + 1 } }
        .next (present s k 4 { row, kind := .read (.spuMove o.e.qn id), bp := o.e.bp })
      else .next s
    | [] => .next s
  | none => .next s

/-- An operation completes once its writes are made and its moved rows have landed (R132, R140). -/
def execSpuComplete (t : TileId) (s : State) : Out :=
  let k := tileNo t
  match (spu s k).cur with
  | some o =>
    if o.formed && o.writes == 0 && o.moves.isEmpty && o.moving == 0 then
      let s := modSpu (wrapF s (tileBase k) F.SPU_OP_CNT_OPS 1) k fun u => { u with cur := none }
      .next (if o.e.ce then event s k o.e.c 1 else s)
    else .next s
  | none => .next s

/-! ### Register writes -/

/-- A write of SPU.DESC(d): the hardware recomputes V (R130). -/
def writeSpuDesc (s : State) (k d v : Nat) : State :=
  let w := v % 2 ^ 53 / 2 ^ 16 * 2 ^ 16 + v % 2 ^ 15
  wr s (tileBase k + F.SPU_DESC_FMT.off + 8 * d) (w + b2n (spuDescV w) * 2 ^ 63)

def execSpuDescWrite (t : TileId) (d : Fin 32) (v : Word) (s : State) : Out := .next (writeSpuDesc s (tileNo t) d v.toNat)

/-- A write of SPU.VCNT (R141). -/
def execVcntWrite (t : TileId) (v : Word) (s : State) : Out := .next (putF s (tileBase (tileNo t)) F.SPU_VCNT_CNT v.toNat)

end Sys2Proof.Machine
end

