-- ==== Sys2Proof/Machine/Crossbar.lean ====
section
/-! DEFINITION. The crossbar, parity and the scrubber (spec/06_cluster_memory.md). -/

namespace Sys2Proof.Machine

/-- What requestor `r` of tile `k` presents in this tc: its head request, and with it the rest of a paired one (R83, R151,
R154). -/
def presented (s : State) (k r : Nat) : List XReq :=
  match reqsOf s k r with
  | x :: l => (x :: l.takeWhile fun y => y.paired).filter fun y => decide (y.from_ ≤ s.tc)
  | [] => []

/-- Slice of a row. -/
def sliceOf (row : Nat) : Nat := row / 512 % 16

/-- The request of requestor `r` of tile `k` for slice `sl`: of a pair in one slice, the first. -/
def headFor (s : State) (k r sl : Nat) : Option XReq := (presented s k r).find? fun x => sliceOf x.row == sl

/-- The requestor whose head request tile `k` chooses for slice `sl`, round-robin from the slice's pointer (R151). -/
def choose (s : State) (k sl : Nat) : Option Nat :=
  ((List.range 7).map fun j => (look 0 (tile s k).rr sl + j) % 7).find? fun r => (headFor s k r sl).isSome

/-- The tile and requestor that slice `sl` grants (R152). -/
def granted (s : State) (c sl : Nat) : Option (Nat × Nat) :=
  let p := look 0 (cluster s c).ps sl
  (((List.range 16).map fun j => (p + j) % 16).findSome? fun t =>
    (choose s (clusterTile c t) sl).map fun r => (t, r))

/-- A request leaves its requestor. The one behind it is presented from the next tc on, a paired one as before. -/
def popReq (s : State) (k r : Nat) (x : XReq) : State :=
  setReqs s k r (match reqsOf s k r with
    | y :: l =>
      if y == x then
        match l with
        | z :: l' => (if z.paired then z else { z with from_ := max z.from_ (s.tc + 1) }) :: l'
        | [] => []
      else y :: l.erase x
    | [] => [])

/-- Every request presented for a slice, with its tile and requestor. -/
def headsFor (s : State) (c sl : Nat) : List (Nat × Nat × XReq) :=
  (List.range 16).flatMap fun t => (List.range 7).flatMap fun r =>
    ((presented s (clusterTile c t) r).filter fun x => sliceOf x.row == sl).map fun x => (t, r, x)

/-- The first tc in which slice `sl` can grant a request: its own next access, and the first that may be presented to it. -/
def grantTime (s : State) (c sl : Nat) : Nat :=
  let l := (List.range 16).flatMap fun t => (List.range 7).flatMap fun r =>
    match reqsOf s (clusterTile c t) r with
    | x :: l => ((x :: l.takeWhile fun y => y.paired).filter fun y => sliceOf y.row == sl).map fun y => y.from_
    | [] => []
  max (look 0 (cluster s c).sliceTc sl) (l.foldl min (l.headD 0))

/-- What a completed write counts for. -/
def writeDone (s : State) (c k : Nat) (d : Done) : State :=
  match d with
  | .store n bp => storeDone s k n bp
  | .drain => modTile s k fun t => { t with lat := { t.lat with drain := t.lat.drain.map fun o => { o with writes := o.writes - 1 } } }
  | .spu => modTile s k fun t => { t with spu := { t.spu with cur := t.spu.cur.map fun o => { o with writes := o.writes - 1 } } }
  | .merge => modCluster s c fun v => { v with merge := v.merge.map fun m => { m with writes := m.writes - 1 } }
  | .config => s

/-- The context of an RSTG waits for it no longer (Table 02.2). -/
def wordDone (s : State) (k : Nat) (d : Done) : State :=
  match d with
  | .store n _ => modCtx s k n fun c => if c.hold == .row then c.release (s.tc + 4) else c
  | _ => s

/-- The requests presented for a slice that its grant left waiting: a tc each (CLU.PORT_WAIT, CLU.XBAR_CONF). -/
def countWaits (s : State) (c sl : Nat) (hs : List (Nat × Nat × XReq)) : State :=
  let b := cluBase c
  let s := if hs.isEmpty then s else incF s b (F.CLU_XBAR_CONF_CONFLICT.at (8 * sl)) 1
  hs.foldl (fun s h =>
    let k := clusterTile c h.1
    let s := setReqs s k h.2.1 ((reqsOf s k h.2.1).map fun x => if x == h.2.2 then { x with wait := x.wait + 1 } else x)
    maxF (wrapF s b (F.CLU_PORT_WAIT_WAIT.at (8 * h.1)) 1) b (F.CLU_PORT_WAIT_MAX_WAIT.at (8 * h.1)) (h.2.2.wait + 1)) s

/-- The crossbar runs: the cluster is backed, and parking has not stopped it (R165). -/
def crossbarRuns (s : State) (c : Nat) : Bool := backed s c && !(lifeSt s (clusterTile c 0)).parked

/-- An access of tile `t`'s requestor `r` to slice `sl` is granted: the pointers pass it, and it is counted (R151, R152). -/
def noteGrant (s : State) (c t r sl n : Nat) : State :=
  let s := modCluster s c fun v => { v with ps := put 0 v.ps sl ((t + 1) % 16), sliceTc := put 0 v.sliceTc sl (s.tc + 1) }
  let s := modTile s (clusterTile c t) fun v => { v with rr := put 0 v.rr sl ((r + 1) % 7) }
  incF s (cluBase c) (F.CLU_XBAR_CNT_ACCESSES.at (8 * sl)) n

/-- A granted write takes effect in grant order, and its store is made 4 tc on (R152, R154). -/
def writeGranted (s : State) (c k : Nat) (x : XReq) : State :=
  match x.kind with
  | .write row p d => writeDone (writeRow s c x.row row p) c k d
  | .part w v p d => wordDone (writeDone (writePart s c x.row w v p) c k d) k d
  | .read _ => s

/-- A granted read of tile `t`'s requestor `r` serves every other presented read of its row (R152). -/
def readGranted (s : State) (c t r : Nat) (x : XReq) (u : Use) (same : List (Nat × Nat × XReq)) : State :=
  let use (y : XReq) : Option Use := match y.kind with | .read u => some u | _ => none
  let a : RdAcc := { row := x.row, data := readRow s c x.row, badWords := rowBad s c x.row, poison := rowPoisoned s c x.row,
                     tile := t, req := r, bp := x.bp, due := s.tc + 5,
                     dests := (t, u) :: same.filterMap fun h => (use h.2.2).map fun v => (h.1, v) }
  let s := same.foldl (fun s h => popReq s (clusterTile c h.1) h.2.1 h.2.2) s
  modCluster (incF s (cluBase c) (F.CLU_XBAR_CNT_MERGED.at (8 * sliceOf x.row)) same.length) c fun v => { v with reads := v.reads ++ [a] }

/-- A read of the same row. -/
def sameRead (x y : XReq) : Bool := match y.kind with | .read _ => y.row == x.row | _ => false

/-- Slice `sl` grants one request, one in a tc: reads of the same row merge; a write takes effect in grant order
(R150 to R154). -/
def execSliceGrant (cl : ClusterId) (sl : Fin 16) (s : State) : Out :=
  let c := clusterNo cl
  let w := waitTc s (grantTime s c sl)
  if !crossbarRuns s c then .next s
  else match granted w c sl with
  | none => .next s
  | some (t, r) =>
    let k := clusterTile c t
    match headFor w k r sl with
    | none => .next s
    | some x =>
      let others := (headsFor w c sl).filter fun h => !(h.1 == t && h.2.1 == r && h.2.2 == x)
      let s := noteGrant (popReq w k r x) c t r sl 1
      match x.kind with
      | .read u =>
        .next (countWaits (readGranted s c t r x u (others.filter fun h => sameRead x h.2.2)) c sl (others.filter fun h => !sameRead x h.2.2))
      | _ => .next (countWaits (writeGranted s c k x) c sl others)

/-- A row reaches its requestor (R154). -/
def deliver (s : State) (c t : Nat) (u : Use) (v : Row) (p : Bool) : State :=
  let k := clusterTile c t
  match u with
  | .rldq n q id _ =>
    rowDone ((List.range 16).foldl (fun s j => fillSlot s k q (id + j) (rowFlit v j) p) s) k n s.tc
  | .rldg n d w _ =>
    rowDone (modCtx (setG s k n d (rowWord v w) p) k n fun x => x.release s.tc) k n s.tc
  | .rcpy n dst bp =>
    setReqs s k 0 ({ row := dst, kind := .write v p (.store n bp), bp, from_ := s.tc + 1 } :: reqsOf s k 0)
  | .sendrow n id =>
    rowDone (modTile s k fun x => { x with sendq := x.sendq.map fun e =>
      if e.id == id then { e with payload := (List.range (e.len + 1)).map fun j => (rowFlit v j, p) } else e }) k n s.tc
  | .ifill n slot id => modTile s k fun x => { x with fills := x.fills ++ [{ id, fromReg := false, slot, row := v, poison := p, last := true, n }] }
  | .fill j =>
    let slot := (getF s (tileBase k) F.TSQ_IFILL_SLOT + j) % 8
    modTile s k fun x => { x with fills := x.fills ++ [{ id := x.fillId, fromReg := true, slot, row := v, poison := p, last := false, n := 0 }] }
  | .lat _ 3001 =>
    let s := modTile s k fun x => { x with lat := { x.lat with drain := x.lat.drain.map fun o => { o with due := s.tc + 2 } } }
    scalesBack s k v p
  | .lat id j =>
    let add (o : LOp) : LOp := if o.e.id == id then { o with rows := o.rows ++ [(j, v, p)], came := put 0 o.came j s.tc } else o
    modTile s k fun x => { x with lat := { x.lat with loader := x.lat.loader.map add, liss := x.lat.liss.map add,
                                                      drain := x.lat.drain.map add } }
  | .spu j => spuRow s k j v p
  | .spuMove q id =>
    let s := (List.range 16).foldl (fun s j => fillSlot s k q (id + j) (rowFlit v j) (p || ((tile s k).spu.cur.any fun o => o.poisoned))) s
    modTile s k fun x => { x with spu := { x.spu with cur := x.spu.cur.map fun o => { o with moving := o.moving - 1 } } }
  | .scan => s

/-- The bad words of a read: stored errors and those that the read itself suffered, ascending. -/
def badOf (a : List Nat) (glitch : List (Fin 128)) : List Nat :=
  (List.range 128).filter fun w => a.contains w || glitch.any fun g => g.val == w

/-- The word of CLU.PAR_LOG for a demand error. -/
def parLog (a : RdAcc) (bad : List Nat) : Nat :=
  a.row % 8192 + bad.headD 0 * 2 ^ 16 + bad.length * 2 ^ 24 + b2n (decide (1 < a.dests.length)) * 2 ^ 43 + a.req * 2 ^ 44 +
    a.tile * 2 ^ 48 + 2 ^ 63

/-- A demand error (R157): 0x10 once, the counts and the log, a targeted read queued (R161), the beat suspect until its
outcome (R236). -/
def demandError (s : State) (c : Nat) (a : RdAcc) (bad : List Nat) : State :=
  let b := cluBase c
  let w := parLog a bad
  let s := setF (report s (clusterTile c a.tile) 0x10 4 (w % 2 ^ 63)) b F.CLU_ERR_PARITY
  let s := incF s b F.CLU_PAR_CNT_DEMAND 1
  let s := if isF s b F.CLU_PAR_LOG_VALID then s else wr s (b + F.CLU_PAR_LOG_VALID.off) w
  let s := suspectSeen s c a.bp
  if !(isF s b F.CLU_SCRUB_CFG_TGT_EN) then morEvent s c 0x10 3 (a.tile + 4 * 16) (beatOf s (clusterTile c a.tile) a.bp)
  else if (cluster s c).targeted.length < 4 then
    modCluster s c fun v => { v with targeted := v.targeted ++ [(a.row % 8192, a.bp)], scrubWait := v.scrubWait ++ [(a.row % 8192, a.bp)] }
  else
    let s := incF s b F.CLU_SCRUB_STAT_TGT_OVF 1
    let s := if look false (cluster s c).tgtOvf a.bp then s
      else setF (report (modCluster s c fun v => { v with tgtOvf := put false v.tgtOvf a.bp true }) (clusterTile c (a.row / 512)) 0xD2 4 a.row)
        b F.CLU_ERR_TGT_OVF
    morEvent s c 0x10 3 (a.tile + 4 * 16) (beatOf s (clusterTile c a.tile) a.bp)

/-- The oldest granted read is delivered whole, 5 tc after its grant, with the poison mark if a word failed parity or the row is
poisoned (R154, R157, R158). -/
def execRowDataDelivery (cl : ClusterId) (glitch : List (Fin 128)) (s : State) : Out :=
  let c := clusterNo cl
  match (cluster s c).reads with
  | [] => .next s
  | a :: r =>
    let s := modCluster (waitTc s a.due) c fun v => { v with reads := r }
    let bad := badOf a.badWords glitch
    let s := if bad.isEmpty then s else demandError s c a bad
    .next (a.dests.foldl (fun s u => deliver s c u.1 u.2 a.data (a.poison || !bad.isEmpty)) s)

/-! ### The configuration loader and the cocoon scan (R151, R156 to R158, R165)

Requestor 6 of a tile makes its accesses one after another while nothing else of the tile runs; a command makes all of its
accesses at once (log entry 135). -/

/-- What a read of row `r` by the requestor finds: an error as any read's, and whether its data carries the poison mark. -/
def scanRead (s : State) (c t r : Nat) : State × Bool :=
  let bad := rowBad s c r
  let a : RdAcc := { row := r, data := 0, badWords := bad, poison := rowPoisoned s c r, tile := t, req := 6,
                     bp := parity s (clusterTile c t), dests := [] }
  let s := noteGrant s c t 6 (sliceOf r) 1
  (if bad.isEmpty then s else demandError s c a bad, !bad.isEmpty || rowPoisoned s c r)

/-- The reads of `n` rows from row `r` of tile `k`'s own slice on. -/
def scanRows (s : State) (k r n : Nat) : State :=
  (List.range n).foldl (fun s i => (scanRead s (tileCluster k) (tileT k) (512 * tileT k + (r + i) % 512)).1) s

/-- A whole-row write by the requestor. -/
def scanWrite (s : State) (c t r : Nat) (v : Row) (p : Bool) : State := writeRow (noteGrant s c t 6 (sliceOf r) 1) c r v p

/-! ### The scrubber (R159 to R162) -/

/-- No request is presented to a row's slice, and the slice makes no access in this tc. -/
def sliceIdle (s : State) (c row : Nat) : Bool :=
  (headsFor s c (sliceOf row)).isEmpty && decide (look 0 (cluster s c).sliceTc (sliceOf row) ≤ s.tc)

/-- A scrub read of a row: a row with an error and a clear poison bit is marked, reported and counted (R160). -/
def scrub (s : State) (c row : Nat) (targeted : Bool) (bad : List Nat) : State :=
  if bad.isEmpty || rowPoisoned s c row then s
  else
    let b := cluBase c
    let s := poisonRowSet s c row
    let w := row + bad.headD 0 * 2 ^ 16 + bad.length * 2 ^ 24
    let s := setF (report s (clusterTile c (row / 512)) 0xD0 4 w) b F.CLU_ERR_SCRUB_FOUND
    let s := incF s b F.CLU_PAR_CNT_SCRUB 1
    let s := if isF s b F.CLU_SCRUB_LOG_VALID then s else wr s (b + F.CLU_SCRUB_LOG_VALID.off) (w + b2n targeted * 2 ^ 62 + 2 ^ 63)
    morEvent s c 0xD0 3 (row / 512 + 4 * 16) (sourceBeat s c (row / 512))

/-- The scrubber is neither stopped by parking, by calving nor by an unbacked cluster (R162, R165). -/
def scrubRuns (s : State) (c : Nat) : Bool := crossbarRuns s c && !(cluster s c).shift

/-- tc between sequential reads: values below 16 act as 16 (CLU.SCRUB_CFG.INTERVAL). -/
def scrubInterval (s : State) (c : Nat) : Nat := max 16 (getF s (cluBase c) F.CLU_SCRUB_CFG_INTERVAL)

/-- First tc in which the next sequential read may be made (R159). -/
def scrubDue (s : State) (c : Nat) : Nat := max (max (cluster s c).scrubAt s.power.scrubFrom + scrubInterval s c) (cluster s c).scrubTc

/-- A targeted row that the scrubber reads in this tc: the oldest whose slice is idle (R159). -/
def targetedNow (s : State) (c : Nat) : Option (Nat × Nat) := (cluster s c).targeted.find? fun e => sliceIdle s c e.1

/-- tc for which a cluster's field has been parked. -/
def parkedFor (s : State) (c : Nat) : Nat := (field s (clusterField c)).parkedFor

/-- The pass that a sequential read of row 8,191 ends gives way to the next (R159, R162). -/
def passEnd (s : State) (c : Nat) : State :=
  modCluster (wrapF s (cluBase c) F.CLU_SCRUB_STAT_PASSES 1) c fun v =>
    { v with scrubLate := false, scrubRaised := false, passFrom := s.tc, passParked := parkedFor s c }

/-- A sequential scrub read at NEXT, once INTERVAL has passed, in a tc in which no request claims the slice and no targeted read
is due (R159). -/
def execScrubRead (cl : ClusterId) (glitch : List (Fin 128)) (s : State) : Out :=
  let c := clusterNo cl; let b := cluBase c
  let row := getF s b F.CLU_SCRUB_STAT_NEXT
  let w := waitTc s (scrubDue s c)
  if scrubRuns s c && isF s b F.CLU_SCRUB_CFG_EN && sliceIdle w c row && (targetedNow w c).isNone then
    let s := scrub w c row false (badOf (rowBad w c row) glitch)
    let s := modCluster s c fun v => { v with scrubAt := w.tc, scrubTc := w.tc + 1, sliceTc := put 0 v.sliceTc (sliceOf row) (w.tc + 1) }
    let s := putF s b F.CLU_SCRUB_STAT_NEXT (row + 1)
    .next (if row == 8191 then passEnd s c else s)
  else .next s

/-- The oldest targeted row whose slice is idle is read, one scrub read in a tc; the demand error it belongs to resolves as a
transient read when it is clean, else as stored (R159, R235, R236). -/
def execTargetedScrubRead (cl : ClusterId) (glitch : List (Fin 128)) (s : State) : Out :=
  let c := clusterNo cl
  let w := waitTc s (cluster s c).scrubTc
  match targetedNow w c with
  | none => .next s
  | some e =>
    if scrubRuns s c then
      let bad := badOf (rowBad w c e.1) glitch
      let s := modCluster w c fun v =>
        { v with targeted := v.targeted.erase e, scrubWait := v.scrubWait.erase e, scrubTc := w.tc + 1,
                 sliceTc := put 0 v.sliceTc (sliceOf e.1) (w.tc + 1) }
      if bad.isEmpty then .next (morEvent s c 0x10 0 (e.1 / 512 + 4 * 16) (beatOf s (clusterTile c (e.1 / 512)) e.2))
      else if rowPoisoned s c e.1 then .next (morEvent s c 0x10 3 (e.1 / 512 + 4 * 16) (beatOf s (clusterTile c (e.1 / 512)) e.2))
      else .next (scrub s c e.1 true bad)
    else .next s

/-- tc for which the scrubber has run in the present pass: parking, calving and EN 0 do not count (R162). -/
def passTime (s : State) (c : Nat) : Nat :=
  let v := cluster s c
  s.tc - max v.passFrom s.power.scrubFrom - (parkedFor s c - v.passParked)

/-- EN or a calving has stopped the scrubber or let it go on: the time between does not count (R162). -/
def scrubMark (s : State) (c : Nat) : State :=
  let v := cluster s c
  let runs := isF s (cluBase c) F.CLU_SCRUB_CFG_EN && !v.shift
  match v.stopAt with
  | none => if runs then s else modCluster s c fun v => { v with stopAt := some (s.tc, parkedFor s c) }
  | some (t, p) =>
    if runs then modCluster s c fun v =>
      { v with stopAt := none, passFrom := max v.passFrom s.power.scrubFrom + (s.tc - t), passParked := v.passParked + (parkedFor s c - p) }
    else s

/-- A pass has taken longer than twice its nominal time: 0xD1 once for the pass (R162). -/
def execScrubPassLate (cl : ClusterId) (s : State) : Out :=
  let c := clusterNo cl; let b := cluBase c
  if (cluster s c).scrubRaised || !scrubRuns s c || !isF s b F.CLU_SCRUB_CFG_EN || decide (passTime s c ≤ 2 * 8192 * scrubInterval s c) then .next s
  else
    let s := modCluster s c fun v => { v with scrubLate := true, scrubRaised := true }
    .next (setF (report s (clusterTile c 0) 0xD1 4 0) b F.CLU_ERR_SCRUB_LATE)

/-- A write of CLU.PAR_INJ: the place, and with ARM the injection armed. -/
def writeParInj (s : State) (c v : Nat) : State :=
  let b := cluBase c
  let s := putF s b F.CLU_PAR_INJ_WORD (bits v 16 7)
  let s := putF s b F.CLU_PAR_INJ_ROW (bits v 0 13)
  if bit v 63 then putF s b F.CLU_PAR_INJ_ARMED 1 else s

def execParityInject (cl : ClusterId) (v : Word) (s : State) : Out := .next (writeParInj s (clusterNo cl) v.toNat)

end Sys2Proof.Machine
end

