-- ==== Sys2Proof/Machine/Hinge.lean ====
section
/-! DEFINITION. The hinge lanes (R184 to R186). -/

namespace Sys2Proof.Machine

def modHinge (s : State) (f : Hinge → Hinge) : State := { s with hinge := f s.hinge }

/-- HNG.LANE(l) of a wing: a field of it. -/
def laneF (f : Fld) (l : Nat) : Fld := f.at (8 * l)

def laneState (s : State) (w l : Nat) : Nat := getF s (wingBase w) (laneF F.HNG_LANE_TX_STATE l)

/-- The spare of a lane's group (R184). -/
def spareOf (l : Nat) : Nat := 1344 + l / 32

/-- The lane's PARTNER. -/
def lanePartner (s : State) (w l : Nat) : Nat := getF s (wingBase w) (laneF F.HNG_LANE_PARTNER l)

/-- A failed lane of row traffic that no spare carries. -/
def laneLost (s : State) (w l : Nat) : Bool :=
  laneState s w l == 6 && !(laneState s w (spareOf l) == 5 && lanePartner s w (spareOf l) == l)

/-- Row `y` of a direction carries nothing: both its lanes are lost (Table 07.7). -/
def rowDetoured (s : State) (w y : Nat) : Bool := laneLost s w (2 * y) && laneLost s w (2 * y + 1)

/-- A transmit lane of wing `w` and the receive lane it meets in the other wing take a state (Table 07.6). -/
def setLane (s : State) (w l st : Nat) : State :=
  putF (putF s (wingBase w) (laneF F.HNG_LANE_TX_STATE l) st) (wingBase (1 - w)) (laneF F.HNG_LANE_RX_STATE l) st

/-- A spare carries a lane of its group. -/
def substitute (s : State) (w l : Nat) : State :=
  let b := wingBase w
  let s := setLane s w (spareOf l) 5
  putF (putF s b (laneF F.HNG_LANE_PARTNER (spareOf l)) l) b (laneF F.HNG_LANE_PARTNER l) (spareOf l)

/-- A condition behind the wing's hinge source (Table 15.1). -/
def hingeCondition (s : State) (w code : Nat) : State := condition s (256 + w) code

/-- Rows whose last lane is newly lost are detoured with 0xE4 (Table 07.7). -/
def hingeLost (s : State) (w y : Nat) (was : Bool) : State :=
  if rowDetoured s w y && !was then setF (hingeCondition s w 0xE4) (wingBase w) F.HNG_ERR_DETOUR else s

/-- A spare that carries nothing any longer takes a failed lane of its group that no spare carries, else is idle
(R186). -/
def spareFree (s : State) (w sp : Nat) : State :=
  let g := sp - 1344
  match ((List.range 32).map fun j => 32 * g + j).find? fun l => laneState s w l == 6 with
  | some l => substitute s w l
  | none => setLane s w sp 4

/-- A lane fails (R185, R186): 0xE3, and a free spare takes it. -/
def laneFail (s : State) (w l : Nat) : State :=
  let b := wingBase w
  let sp := spareOf l
  let s' := setF (hingeCondition (setLane s w l 6) w 0xE3) b F.HNG_ERR_LANE_FAIL
  if 1344 ≤ l then
    let p := lanePartner s w l
    if laneState s w l == 5 then hingeLost s' w (p / 2) (rowDetoured s w (p / 2)) else s'
  else
    let s' := if laneState s w sp == 4 then substitute s' w l else s'
    hingeLost s' w (l / 2) (rowDetoured s w (l / 2))

/-- A training attempt of a lane ends (R184, R185). It leaves a row lane ACTIVE and a spare IDLE; a lane in CAL gives its
spare back. The third failed attempt leaves the lane FAILED. -/
def execHingeLaneTrained (w : Fin 2) (l : Fin 1386) (ok : Bool) (s : State) : Out :=
  let b := wingBase w.val; let l := l.val; let w := w.val
  let st := laneState s w l
  if decide (3 < st) || st == 2 || (st == 0 && getF s 0 F.MBX_MIRROR_PHASE < 6) then .next s
  else if ok then
    let s := incF s b (laneF F.HNG_LANE_TRAINS l) 1
    let s := modHinge s fun h => { h with tries := put 0 h.tries (2048 * w + l) 0, trained := put 0 h.trained (2048 * w + l) s.tc }
    if 1344 ≤ l then .next (spareFree s w l)
    else
      let s := setLane s w l 2
      if st == 3 && laneState s w (spareOf l) == 5 && lanePartner s w (spareOf l) == l then
        .next (spareFree s w (spareOf l))
      else .next s
  else
    let n := look 0 s.hinge.tries (2048 * w + l) + 1
    if n < 3 then .next (modHinge s fun h => { h with tries := put 0 h.tries (2048 * w + l) n })
    else
      let s := modHinge s fun h => { h with tries := put 0 h.tries (2048 * w + l) 0 }
      .next (laneFail (if st == 3 then s else setF s b F.HNG_ERR_TRAIN_FAIL) w l)

/-- The lane of group `g` whose turn it is: the next active one in lane order, the first again after the last (R185). -/
def laneTurn (s : State) (w g : Nat) : Option Nat :=
  let t := look 0 s.hinge.turn (64 * w + g)
  ((List.range 32).map fun j => 32 * g + (t + j) % 32).find? fun l => laneState s w l == 2

/-- The first tc in which a group's spare makes its next visit (R185). -/
def visitTime (s : State) (w g : Nat) : Nat :=
  look 0 s.hinge.visits (64 * w + g) + usTc s (1000 * max 1 (getF s (wingBase w) F.HNG_CAL_CFG_INTERVAL))

/-- A group's idle spare visits the active lane whose turn it is, INTERVAL after its last visit, and the lane retrains (R185). No
lane starts training during a DVFS voltage step, nor while calibration is off. -/
def execHingeCalVisit (w : Fin 2) (g : Fin 42) (l : Fin 1386) (s : State) : Out :=
  let b := wingBase w.val; let i := 64 * w.val + g.val
  if isF s b F.HNG_CAL_CFG_EN && laneTurn s w.val g.val == some l.val && laneState s w.val (spareOf l.val) == 4 && !(isF s 0 F.PWR_DVFS_BUSY)
  then
    let s := waitTc s (visitTime s w.val g.val)
    let s := modHinge s fun h => { h with turn := put 0 h.turn i ((l.val + 1) % 32), visits := put 0 h.visits i s.tc }
    .next (substitute (setLane s w.val l.val 3) w.val l.val)
  else .next s

/-- The lane that carries one of row `y`'s two: the lane itself while it carries traffic, or its group's spare (Table 07.6). -/
def carrier (s : State) (w l : Nat) : Option Nat :=
  if laneState s w l == 2 then some l
  else if laneState s w (spareOf l) == 5 && lanePartner s w (spareOf l) == l then some (spareOf l) else none

/-- The lane on which a flit of row `y` met its CRC error. Where the row has two, no rule says which carried the flit: a free
value chooses. -/
def errLane (s : State) (w y : Nat) : State × Option Nat :=
  match carrier s w (2 * y), carrier s w (2 * y + 1) with
  | some a, some b => let (s, i) := nextFree s; (s, some (if Config.freeBit i then a else b))
  | some a, none => (s, some a)
  | none, b => (s, b)

/-- A CRC error on hinge row `y` from wing `w`: the receiving wing counts it, and a lane with more than that wing's ERR_LIM of them
in 1 ms has failed (R185, log entry 140). -/
def hingeCrc (s : State) (w y : Nat) : State :=
  let b := wingBase (1 - w)
  let (s, l) := errLane (incF s b F.HNG_ERR_CRC 1) w y
  match l with
  | none => s
  | some l =>
    let i := 2048 * w + l
    let es := s.tc :: (look [] s.hinge.errs i).filter fun t => decide (s.tc < t + usTc s 1000)
    if getF s b F.HNG_CAL_CFG_ERR_LIM < es.length then laneFail (modHinge s fun h => { h with errs := put [] h.errs i [] }) w l
    else modHinge s fun h => { h with errs := put [] h.errs i es }

/-- ms since a lane was last trained, saturating (HNG.LANE.CAL_AGE). -/
def calAge (s : State) (w l : Nat) : Nat :=
  match s.hinge.trained.find? fun e => e.1 == 2048 * w + l with
  | some e => min 65535 ((s.tc - e.2) / max 1 (usTc s 1000))
  | none => 0

/-- A lane that carries or could carry traffic fails (R184, R186). -/
def execHingeLaneFail (w : Fin 2) (l : Fin 1386) (s : State) : Out :=
  let st := laneState s w.val l.val
  if decide (2 ≤ st) && decide (st ≤ 5) then .next (laneFail s w.val l.val) else .next s

end Sys2Proof.Machine
end

