-- ==== Sys2Proof/Machine/Merge.lean ====
section
/-! DEFINITION. The merge tree of a cluster (R143 to R147). -/

namespace Sys2Proof.Machine

/-- A write of CLU.MT_CTL: with GO while a merge runs it is counted and changes nothing; else the fields are stored, and GO
starts a merge with the settings as they stand (R145). -/
def writeMtCtl (s : State) (c v : Nat) : State :=
  let b := cluBase c
  if bit v 0 && (cluster s c).merge.isSome then incF s b F.CLU_MT_STAT_GO_IGNORED 1
  else
    let s := wr s (b + F.CLU_MT_CTL_GO.off) (v / 2 ^ 26 % 2 ^ 38 * 2 ^ 26)
    if bit v 0 then
      let m : Merge := { mask := bits v 48 16, srcq := bits v 36 3, mode := bits v 26 2, dstk := bit v 28, dstTile := bits v 29 4,
                         dstq := bits v 33 3, doneEn := bit v 39, doneTile := bits v 44 4, doneCtr := bits v 40 4,
                         row := getF s b F.CLU_MT_DST_ROW }
      modCluster s c fun x => { x with merge := some m }
    else s

def execMergeStart (cl : ClusterId) (v : Word) (s : State) : Out := .next (writeMtCtl s (clusterNo cl) v.toNat)

/-- The four elements of a flit (R143). -/
def flitElts (v : Flit) (p : Bool) : List MElt :=
  (List.range 4).map fun i => { idx := bits v.toNat (64 * i) 32, val := bits v.toNat (64 * i + 32) 32, poison := p }

def endMarker : MElt := { idx := 0xFFFFFFFF, val := 0, poison := false }

/-- The active leaves that have not ended. -/
def Merge.open (m : Merge) : List Nat := (List.range 16).filter fun t => bit m.mask t && !look false m.ended t

/-- Leaf `t` takes its next flit if it has no head element and one is there; an end marker ends it. -/
def leafFill (c : Nat) (p : State × Merge) (t : Nat) : State × Merge :=
  let (s, m) := p
  let k := clusterTile c t
  if !(look [] m.heads t).isEmpty || qWhole s k m.srcq == 0 then (s, m)
  else
    let (s, l) := qTake s k m.srcq 1
    let f := l.headD (0, false)
    (s, { m with heads := put [] m.heads t (flitElts f.1 f.2) })

/-- An end marker at a leaf's head ends the leaf. -/
def leafEnd (m : Merge) (t : Nat) : Merge :=
  match look [] m.heads t with
  | e :: _ => if e.idx == 0xFFFFFFFF then { m with ended := put false m.ended t true, heads := put [] m.heads t [] } else m
  | [] => m

/-- The FP32 maximum of MODE 3: -0 below +0 and a NaN canonical; no subnormal is flushed, which R144 asks of MODE 1 alone. -/
def mergeMax (x y : F32) : F32 :=
  let nan (c : F32) : Bool := decide (0x7F800000 < c.toNat % 2 ^ 31)
  let key (c : F32) : Nat := if c.msb then 0xFFFFFFFF - c.toNat else c.toNat + 0x80000000
  if nan x || nan y then f32Nan else if key x < key y then y else x

/-- Two elements of equal index combined (R144). -/
def combine (mode : Nat) (a b : MElt) : MElt :=
  let x := BitVec.ofNat 32 a.val; let y := BitVec.ofNat 32 b.val
  let v := match mode with
    | 1 => (f32Add x y).1
    | 2 => x + y
    | _ => mergeMax x y
  { a with val := v.toNat, poison := a.poison || b.poison }

/-- The output of a run of one element: its FP32 sum, flushed and with a NaN canonical, its integer sum, or its maximum (R144). -/
def lone (mode : Nat) (a : MElt) : MElt :=
  let x := BitVec.ofNat 32 a.val
  { a with val := (match mode with | 1 => (f32Flushed x).1 | 3 => mergeMax x x | _ => x).toNat }

/-- Elements of an output unit: a flit's or a row's. -/
def Merge.unit (m : Merge) : Nat := if m.dstk then 4 else 64

def packElts (l : List MElt) : Nat := l.foldr (fun e acc => e.idx + e.val * 2 ^ 32 + 2 ^ 64 * acc) 0

/-- Writes out whole units; a flit waits for queue space. The answer says whether nothing whole is left. -/
def mergeFlush (s : State) (c : Nat) (m : Merge) : State × Merge :=
  if m.out.length < m.unit then (s, m)
  else
    let l := m.out.take m.unit
    let p := l.any fun e => e.poison
    if m.dstk then
      let k := clusterTile c m.dstTile
      if qFree s k m.dstq == 0 then (s, m)
      else
        let (s, _) := reserve s k m.dstq 1 fun id _ => { id, data := some (BitVec.ofNat 256 (packElts l)), poison := p, at_ := s.tc }
        (s, { m with out := m.out.drop m.unit })
    else
      let s := present s (clusterTile c (m.row / 512 % 16)) 5
        { row := m.row, kind := .write (BitVec.ofNat 4096 (packElts l)) p .merge, bp := parity s (clusterTile c (m.row / 512 % 16)) }
      (s, { m with out := m.out.drop m.unit, row := (m.row + 1) % 8192, writes := m.writes + 1 })

/-- An element leaves the tree: on its own, or into the run of its index. -/
def Merge.emit (m : Merge) (e : MElt) : Merge × Nat :=
  if m.mode == 0 then ({ m with out := m.out ++ [e] }, 1)
  else match m.cur with
    | none => ({ m with cur := some (lone m.mode e) }, 0)
    | some x =>
      if x.idx == e.idx then ({ m with cur := some (combine m.mode x e) }, 0)
      else ({ m with out := m.out ++ [x], cur := some (lone m.mode e) }, 1)

/-- Every leaf has ended: the last run, the end marker, and the last unit filled with end markers. -/
def Merge.close (m : Merge) : Merge × Nat :=
  let o := m.out ++ (match m.cur with | some x => [x] | none => []) ++ [endMarker]
  let r := o.length % m.unit
  ({ m with out := o ++ (if r == 0 then [] else List.replicate (m.unit - r) endMarker), cur := none, finished := true },
   if m.cur.isSome then 1 else 0)

/-- The leaf whose head goes next: the lowest index, then the lowest leaf. -/
def Merge.nextLeaf (m : Merge) : Option (Nat × MElt) :=
  m.open.foldl (fun acc t =>
    match look [] m.heads t, acc with
    | e :: _, some (_, x) => if e.idx < x.idx then some (t, e) else acc
    | e :: _, none => some (t, e)
    | [], _ => acc) none

/-- The tree emits its next element once every leaf that has not ended presents a head, and there is room (R146). -/
def execMergeEmit (cl : ClusterId) (s : State) : Out :=
  let c := clusterNo cl; let b := cluBase c
  match (cluster s c).merge with
  | none => .next s
  | some m =>
    let (s, m) := mergeFlush s c m
    let keep (s : State) (m : Merge) : State := modCluster s c fun x => { x with merge := some m }
    if decide (m.unit ≤ m.out.length) || m.finished then .next (keep s m)
    else
      let (s, m) := m.open.foldl (leafFill c) (s, m)
      let m := m.open.foldl leafEnd m
      if m.open.isEmpty then
        let (m, n) := m.close
        let (s, m) := mergeFlush (wrapF s b F.CLU_MT_CNT_ELEMENTS n) c m
        .next (keep s m)
      else if m.open.any fun t => (look [] m.heads t).isEmpty then .next (keep s m)
      else match m.nextLeaf with
        | none => .next (keep s m)
        | some (t, e) =>
          let disorder := decide (e.idx < look 0 m.lastIdx t)
          let s := if disorder && !m.orderErr then setF (report s (clusterTile c t) 0xC4 4 e.idx) b F.CLU_MT_STAT_ORDER_ERR else s
          let m := { m with heads := put [] m.heads t ((look [] m.heads t).drop 1), lastIdx := put 0 m.lastIdx t e.idx,
                            orderErr := m.orderErr || disorder }
          let (m, n) := m.emit e
          let (s, m) := mergeFlush (wrapF s b F.CLU_MT_CNT_ELEMENTS n) c m
          .next (keep s m)

/-- The merge completes after its end marker is written, and signals its counter (R145, R146). -/
def execMergeComplete (cl : ClusterId) (s : State) : Out :=
  let c := clusterNo cl
  match (cluster s c).merge with
  | some m =>
    if m.finished && m.out.isEmpty && m.writes == 0 then
      let s := modCluster s c fun x => { x with merge := none }
      .next (if m.doneEn then event s (clusterTile c m.doneTile) m.doneCtr 1 else s)
    else .next s
  | none => .next s

end Sys2Proof.Machine
end

