-- ==== Sys2Proof/Machine/Replay.lean ====
section
/-! DEFINITION. Replay records, the buddy and outcomes (R163, R232 to R236). -/

namespace Sys2Proof.Machine

/-- Counts and logs a record's outcome, T or D (R235, Table 09.2). -/
def resolveRecord (s : State) (c : Nat) (r : RRec) : State :=
  let b := cluBase c
  let src := r.tile + (if r.drain then 2 else 1) * 16
  let s := rplLog s c (b2n (!r.agreed)) r.drain r.tile r.desc r.bank r.row r.group r.pass r.beat
  if r.agreed then morEvent (incF s b F.CLU_RPL_CNT_TRANSIENT 1) c 0x20 0 src r.beat
  else
    let s := incF s b F.CLU_RPL_CNT_DISAGREE 1
    let s := report s (clusterTile c r.tile) 0x21 1 (rd s (b + F.CLU_RPL_LOG_VALID.off) % 2 ^ 63)
    let s := morEvent s c 0x21 1 src r.beat
    match buddyOf s c with
    | some d => morEvent s d 0x21 1 src r.beat
    | none => s

/-- Takes the first record that `p` holds of out of a list, or changes it. -/
def updateFirst {α : Type} (p : α → Bool) (f : α → Option α) : List α → List α
  | [] => []
  | x :: r => if p x then (match f x with | some y => y :: r | none => r) else x :: updateFirst p f r

/-- The hub moves the oldest record to the buddy, or resolves it as transient where there is none (R233). -/
def execReplayRecordMove (cl : ClusterId) (s : State) : Out :=
  let c := clusterNo cl
  match (cluster s c).records.find? fun r => !r.moved with
  | none => .next s
  | some r =>
    match buddyOf s c with
    | some _ =>
      let s := incF s (fieldBase (clusterField c)) F.FLD_RPL_STAT_RECORDS 1
      .next (modCluster s c fun v => { v with records := updateFirst (fun x => !x.moved) (fun x => some { x with moved := true }) v.records })
    | none =>
      let s := modCluster s c fun v => { v with records := updateFirst (fun x => !x.moved) (fun _ => none) v.records }
      .next (resolveRecord s c { r with agreed := true })

/-- The buddy's recomputation of a record (R234); `fault` says that the buddy's own hardware erred. -/
def recordAgrees (r : RRec) (fault : Bool) : Bool :=
  if fault then false
  else if r.drain then
    if !r.tally.fp then r.sr.foldl (· + ·) 0 == r.tally.c
    else within ((exactSum (r.sr.map fun v => (f32In v).1)).add (match (f32In r.tally.c).1 with | .fin a m x => .fin (!a) m x | y => y))
      r.tally.a (f32In r.tally.pm).1
  else
    let n := pathN (descPath r.lo)
    let j := r.group % (n / 8)
    let cols := (List.range 8).map fun i => columnFor r.lo r.vec.wset (8 * j + i)
    let sb := cols.map fun col => columnSum r.lo r.vec.pass r.vec.act col
    let t := tallyT r.lo r.vec.pass r.vec.act cols
    sb.map (fun y => y.bits) == r.sr && arrayCheck r.lo t.1 (exactSum (sb.map fun y => y.num)) t.2 false

/-- The first tc in which tile `k` can take a record: its array, or its drain engine, is free of others (R233). -/
def serviceTime (s : State) (k : Nat) (r : RRec) : Nat :=
  max s.tc (if r.drain then (lat s k).drainTc else (lat s k).entryTc)

/-- tc in which a ready program vector waits while a record holds the array in `e .. e + 7`. -/
def stolen (s : State) (k e : Nat) : Nat :=
  match vectorReady s k with
  | some x => e + 8 - min (e + 8) (max e (readySince s k x.o))
  | none => 0

/-- Serves the first record of original `c` that `p` holds of, at its buddy `d`: 8 tc of the array path, or 4 of the drain
engine (R233). -/
def serve (s : State) (c d : Nat) (p : RRec → Bool) (fault forced : Bool) : State :=
  let b := cluBase d
  match (cluster s c).records.find? p with
  | none => s
  | some r =>
    let k := clusterTile d r.tile
    let e := serviceTime s k r
    let n := if r.drain then 0 else stolen s k e
    let s := modCluster s c fun v =>
      { v with records := updateFirst p (fun x => some { x with served := true, agreed := recordAgrees x fault }) v.records }
    let s := incF s b F.CLU_RPL_CNT_SERVED 1
    let s := modLat s k fun l => if r.drain then { l with drainTc := e + 4 } else { l with entryTc := e + 8, heldTc := max l.heldTc (e + 8) }
    if forced then
      let s := incF s b F.CLU_RPL_CNT_FORCED 1
      if n == 0 then s else wrapF s (tileBase k) F.LAT_STEAL_CNT_STOLEN n
    else s

/-- The buddy serves a record in a tc in which no program vector is ready, or between drains (R233). -/
def execReplayService (cl : ClusterId) (t : Fin 16) (fault : Bool) (s : State) : Out :=
  let d := clusterNo cl
  let k := clusterTile d t
  let p (c : Nat) (r : RRec) : Bool :=
    awaitsService s c r && r.tile == t.val && (if r.drain then (lat s k).drain.isNone else (vectorReady s k).isNone)
  match (originalsOf s d).find? fun c => (cluster s c).records.any (p c) with
  | some c => .next (serve s c d (p c) fault false)
  | none => .next s

/-- A demand error of parity `p` whose targeted read was not made in time resolves as stored (R236). -/
def lateScrub (s : State) (c p : Nat) : State :=
  let late := (cluster s c).scrubWait.filter fun e => e.2 == p
  let s := modCluster s c fun v => { v with scrubWait := v.scrubWait.filter fun e => e.2 != p,
                                            targeted := v.targeted.filter fun e => e.2 != p }
  late.foldl (fun s e => morEvent s c 0x10 3 (e.1 / 512 + 4 * 16) (beatOf s (clusterTile c (e.1 / 512)) p)) s

/-- FLD.RPL_CFG.MARGIN: values below 600 act as 600. -/
def replayMargin (s : State) (f : Nat) : Nat := max 600 (getF s (fieldBase f) F.FLD_RPL_CFG_MARGIN)

/-- A record of beat `n - 2` or an earlier one that its buddy is to serve by force. -/
def forcedNow (n : Nat) (r : RRec) : Bool := r.moved && !r.served && decide (r.no + 2 ≤ n)

/-- MARGIN before the scheduled pulse of beat `n` = m + 2, the records of beat m still unserved are served by force (R233), and
its targeted reads resolve (R236). `pulse` is that pulse's tc. -/
def forceServe (s : State) (f n pulse : Nat) : State :=
  let p := 1 - (field s f).par
  let due (c : Nat) : Bool := (cluster s c).records.any (forcedNow n) || (cluster s c).scrubWait.any fun e => e.2 == p
  if !((fieldClusters f).any due) then s
  else (fieldClusters f).foldl (fun s c =>
    let s := match buddyOf s c with
      | some d => ((cluster s c).records.filter (forcedNow n)).foldl (fun s _ => serve s c d (forcedNow n) false true) s
      | none => s
    lateScrub s c p) (waitTc s (pulse - replayMargin s f))

/-- The oldest served record's outcome returns to the original's buffer (R233, R235). -/
def execReplayOutcome (cl : ClusterId) (s : State) : Out :=
  let c := clusterNo cl
  match (cluster s c).records.find? fun r => r.served with
  | none => .next s
  | some r =>
    .next (resolveRecord (modCluster s c fun v => { v with records := updateFirst (fun x => x.served) (fun _ => none) v.records }) c r)

end Sys2Proof.Machine
end

