-- ==== Sys2Proof/Machine/RowMove.lean ====
section
/-! DEFINITION. Row moves, class 0x4 (R49), the sends, class 0x5 (R50, R51, R170), and instruction-buffer fills (R40). -/

namespace Sys2Proof.Machine

/-- A row request of context `n` enters the sequencer's requestor, and counts as outstanding (R56). -/
def rowIssue (s : State) (k n : Nat) (x : XReq) : State :=
  modCtx (present s k 0 { x with bp := bpOf s k n }) k n fun c => { c with rowsOut := c.rowsOut + 1 }

/-- A row store of the context's parity is outstanding (R66). -/
def storeIssue (s : State) (k n : Nat) (x : XReq) : State :=
  let bp := bpOf s k n
  rowIssue (modTile s k fun t => { t with storesOut := put 0 t.storesOut (8 * bp + n) (look 0 t.storesOut (8 * bp + n) + 1) }) k n x

/-- The shape of every row move: the address from A, poison noted, A post-incremented, then `f` with the address. -/
def rowMove (op : TOp) (t : TileId) (n : Fin 8) (f : State → TInsn → Nat → State) (s : State) : Out :=
  issue op t n (fun s i =>
    let k := tileNo t
    let r := rowOperand s k n i i.a.toNat
    let s := usePoison s k n [i.a.toNat]
    (f (postInc s k n i i.a.toNat) i r, .next)) s

def execRldq (t : TileId) (n : Fin 8) (s : State) : Out :=
  rowMove .rldq t n (fun s i r =>
    let k := tileNo t; let q := i.fld 32 3
    let (s, id) := reserve s k q 16 fun id _ => { id }
    rowIssue s k n { row := r, kind := .read (.rldq n q id (bpOf s k n)) }) s

def execRstq (t : TileId) (n : Fin 8) (s : State) : Out :=
  rowMove .rstq t n (fun s i r =>
    let k := tileNo t
    let (s, l) := qTake s k (i.fld 32 3) 16
    storeIssue s k n { row := r, kind := .write (rowOfFlits (l.map Prod.fst)) (l.any Prod.snd) (.store n (bpOf s k n)) }) s

def execRldg (t : TileId) (n : Fin 8) (s : State) : Out :=
  rowMove .rldg t n (fun s i r =>
    let k := tileNo t
    let s := rowIssue s k n { row := r, kind := .read (.rldg n i.d.toNat (i.fld 0 6) (bpOf s k n)) }
    modCtx s k n fun c => { c with hold := .row }) s

/-- RSTG stores B as it stood before A's increment; the context blocks under WHY 4 until the store is made (Table 02.2). -/
def execRstg (t : TileId) (n : Fin 8) (s : State) : Out :=
  issue .rstg t n (fun s i =>
    let k := tileNo t
    let r := rowOperand s k n i i.a.toNat
    let v := getG s k n i.b.toNat; let p := gPoison s k n i.b.toNat
    let s := postInc (usePoison s k n [i.a.toNat]) k n i i.a.toNat
    let s := storeIssue s k n { row := r, kind := .part (i.fld 0 6) v p (.store n (bpOf s k n)) }
    (modCtx s k n fun c => { c with hold := .row }, .next)) s

def execRcpy (t : TileId) (n : Fin 8) (s : State) : Out :=
  issue .rcpy t n (fun s i =>
    let k := tileNo t
    let r := rowOperand s k n i i.a.toNat
    let dst := rowOperand s k n i i.b.toNat
    let s := postInc (usePoison s k n [i.a.toNat, i.b.toNat]) k n i i.a.toNat
    (storeIssue s k n { row := r, kind := .read (.rcpy n dst (bpOf s k n)) }, .next)) s

def execRzero (t : TileId) (n : Fin 8) (s : State) : Out :=
  rowMove .rzero t n (fun s _ r =>
    let k := tileNo t
    storeIssue s k n { row := r, kind := .write 0 false (.store n (bpOf s k n)) }) s

/-- IFILL reads a row into positions 64 * slot and up; an IFENCE waits for it (R42). -/
def execIfill (t : TileId) (n : Fin 8) (s : State) : Out :=
  rowMove .ifill t n (fun s i r =>
    let k := tileNo t
    let (s, id) := freshId s k 1
    let s := modTile s k fun x => { x with stores := x.stores ++ [id] }
    rowIssue s k n { row := r, kind := .read (.ifill n (i.fld 0 3) id) }) s

/-! ### Fills of the instruction buffer (R40) -/

/-- GO starts a fill of NROWS rows, 1..8, unless one is in progress; other row counts fill nothing. -/
def ifillGo (s : State) (k : Nat) : State :=
  let b := tileBase k
  let n := getF s b F.TSQ_IFILL_NROWS
  if isF s b F.TSQ_IFILL_BUSY || n == 0 || decide (8 < n) then s
  else
    let (s, id) := freshId s k 1
    let s := putF s b F.TSQ_IFILL_BUSY 1
    let s := modTile s k fun x => { x with stores := x.stores ++ [id], fillLeft := n, fillBytes := [], fillId := id }
    (List.range n).foldl (fun s j =>
      present s k 0 { row := (getF s b F.TSQ_IFILL_BASE + j) % 8192, kind := .read (.fill j), bp := parity s k }) s

/-- A write of TSQ.IFILL: the RW fields are stored, and GO starts a fill. -/
def writeIfill (s : State) (k v : Nat) : State :=
  let b := tileBase k
  let s := putF s b F.TSQ_IFILL_NROWS (bits v 26 4)
  let s := putF s b F.TSQ_IFILL_SLOT (bits v 13 3)
  let s := putF s b F.TSQ_IFILL_BASE (bits v 0 13)
  if bit v 30 then ifillGo s k else s

def execIfillGo (t : TileId) (v : Word) (s : State) : Out := .next (writeIfill s (tileNo t) v.toNat)

/-- An IB_DATA write of this tc has reached the position, and remains (R41). -/
def ibWritten (s : State) (k pc : Nat) : Bool := (tile s k).ibTc == s.tc && (tile s k).ibWrote.contains pc

/-- A fill of the oldest fetched row is complete. The last row of a fill by TSQ.IFILL clears BUSY and leaves the CRC-32C. -/
def fillEnd (s : State) (k : Nat) (f : FillRow) : State :=
  let b := tileBase k
  let s := modTile s k fun x => { x with fills := x.fills.drop 1 }
  if f.fromReg then
    let s := modTile s k fun x => { x with fillLeft := x.fillLeft - 1, fillBytes := x.fillBytes ++ toBytes 512 f.row.toNat }
    if (tile s k).fillLeft == 0 then
      let s := putF (putF s b F.TSQ_IFILL_BUSY 0) b F.TSQ_IFILL_CRC (crc32c (tile s k).fillBytes)
      ibStoreDone (modTile s k fun x => { x with fillBytes := [] }) k f.id
    else s
  else rowDone (ibStoreDone s k f.id) k f.n s.tc

/-- A tc of the oldest fetched row's writes (R40): its next 8 positions take their new form. From a poisoned row they enter with
inverted parity, and 0x11 is raised once (R158). -/
def execIfillRowWrite (t : TileId) (s : State) : Out :=
  let k := tileNo t; let b := tileBase k
  match (tile s k).fills with
  | [] => .next s
  | f :: r =>
    if !(clockOn s k) then .next s
    else
      let s := waitTc s (tile s k).fillTc
      let s := (List.range 8).foldl (fun s j =>
        let pc := (64 * f.slot + f.done + j) % 512
        if ibWritten s k pc then s else setIb s k pc (rowWord f.row (f.done + j)) f.poison) s
      let s := modTile s k fun x => { x with fills := { f with done := f.done + 8 } :: r, fillTc := s.tc + 1 }
      let s := if f.poison && f.done == 0 then
          setF (poisonConsumed s k 0 (if f.fromReg then parity s k else bpOf s k f.n) 0) b F.TSQ_ERR_POISON_USED
        else s
      .next (if f.done < 56 then s else fillEnd s k f)

/-- The position IB_ADDR names moves on after each IB_DATA access. -/
def ibStep (s : State) (k : Nat) : State :=
  putF s (tileBase k) F.TSQ_IB_ADDR_INDEX (getF s (tileBase k) F.TSQ_IB_ADDR_INDEX + 1)

/-- A write of TSQ.IB_DATA: a store under R41 at INDEX, which remains over an IFILL's of the same tc. -/
def writeIbData (s : State) (k v : Nat) : State :=
  let pc := getF s (tileBase k) F.TSQ_IB_ADDR_INDEX
  let s := modTile s k fun x => { x with ibTc := s.tc, ibWrote := pc :: (if x.ibTc == s.tc then x.ibWrote else []) }
  ibStep (setIb s k pc (BitVec.ofNat 64 v) false) k

def execIbDataWrite (t : TileId) (v : Word) (s : State) : Out := .next (writeIbData s (tileNo t) v.toNat)

/-- A read of TSQ.IB_DATA: the instruction at INDEX. -/
def readIbData (s : State) (k : Nat) : State × Word :=
  (ibStep s k, (ibAt s k (getF s (tileBase k) F.TSQ_IB_ADDR_INDEX)).insn)

def execIbDataRead (t : TileId) (s : State) : Out :=
  let (s, v) := readIbData s (tileNo t)
  .next { s with rdata := v }

/-! ### Sends -/

/-- A destination and rectangle that R170 allows for a class. -/
def destOk (cls dest : Nat) (rect : Word) : Bool :=
  let mc := bit dest 22
  if cls == 0 then !mc && decide (bits dest 11 10 ≤ 671) && decide (bits dest 0 11 ≤ 1151)
  else
    let x0 := bits rect.toNat 0 11; let x1 := bits rect.toNat 11 11
    let y0 := bits rect.toNat 22 10; let y1 := bits rect.toNat 32 10
    mc && bits dest 0 21 == 0 && rect.toNat / 2 ^ 42 == 0 && decide (x0 ≤ x1) && decide (y0 ≤ y1) &&
      decide (x1 ≤ 1151) && decide (y1 ≤ 671)

/-- The shape of every send: destination and rectangle read, checked, and the send queued by `f` (R50, R51, R170). -/
def send (op : TOp) (kind : Nat) (t : TileId) (n : Fin 8) (used : TInsn → List Nat)
    (f : State → TInsn → SendEnt → State × SendEnt) (s : State) : Out :=
  issue op t n (fun s i =>
    let k := tileNo t
    let dest := (getG s k n i.a.toNat).toNat % 2 ^ 23
    let cls := i.fld 10 2
    let rect := getG s k n i.b.toNat
    let s := usePoison s k n (i.a.toNat :: (if cls == 1 then [i.b.toNat] else []) ++ used i)
    if destOk cls dest rect then
      let (s, id) := freshId s k 1
      let bp := bpOf s k n
      let e : SendEnt := { id, n, bp, dest, rect := if cls == 1 then some rect.toNat else none, port := i.fld 32 4,
                           tag := i.fld 16 16, len := i.fld 12 4, cls, kind, srcQ := i.fld 0 3, payload := [] }
      let (s, e) := f s i e
      (modTile s k fun x => { x with sendq := x.sendq ++ [e] }, .next)
    else (setF (ctxFault s k n 0xE1) (tileBase k) F.MSH_ERR_BAD_DEST, .fault)) s

def execSendq (t : TileId) (n : Fin 8) (s : State) : Out :=
  send .sendq 0 t n (fun _ => []) (fun s _ e => (s, e)) s

/-- SENDROW reads the row that D addresses, formed as in R49. -/
def execSendrow (t : TileId) (n : Fin 8) (s : State) : Out :=
  send .sendrow 1 t n (fun i => [i.d.toNat]) (fun s i e =>
    let k := tileNo t
    let r := rowOperand s k n i i.d.toNat
    let s := postInc s k n i i.d.toNat
    (rowIssue s k n { row := r, kind := .read (.sendrow n e.id) }, e)) s

/-- SENDG sends g(D)..g(D + 3) as one flit. -/
def execSendg (t : TileId) (n : Fin 8) (s : State) : Out :=
  send .sendg 2 t n (fun _ => []) (fun s i e =>
    let k := tileNo t; let d := i.d.toNat
    let v : Flit := getG s k n (d + 3) ++ getG s k n (d + 2) ++ getG s k n (d + 1) ++ getG s k n d
    let p := gPoison s k n d || gPoison s k n (d + 1) || gPoison s k n (d + 2) || gPoison s k n (d + 3)
    (s, { e with payload := [(v, p)] })) s

end Sys2Proof.Machine
end

