-- ==== Sys2Proof/Machine/TileRegs.lean ====
section
/-! DEFINITION. Reads and writes of the tile blocks TSQ, LAT, SPU and MSH and of the cluster block CLU: access codes (R9),
live fields, and the registers whose write does something. -/

namespace Sys2Proof.Machine

/-! ### Access codes (R9, R12) -/

/-- A write by the access codes of a register map: RW fields stored, W1C bits cleared, all else ignored. -/
def plainWrite (s : State) (a : Nat) (v : Word) : State :=
  match regAt a with
  | none => s
  | some r =>
    let old := Sparse.get resetWord s.csr a
    let rw := BitVec.ofNat 64 r.rw; let w1 := BitVec.ofNat 64 r.w1c
    wr s a ((((old &&& ~~~rw) ||| (v &&& rw)) &&& ~~~(v &&& w1)).toNat)

/-- What a read may show of a word: every field but WO and RSV. -/
def readMask (a : Nat) : Nat :=
  match regAt a with
  | none => 0
  | some r => r.rw ||| r.ro ||| r.w1c ||| r.rc

/-- The clearing of RC fields that a read causes. -/
def clearRc (s : State) (a : Nat) : State :=
  match regAt a with
  | none => s
  | some r => if r.rc == 0 then s else wr s a ((BitVec.ofNat 64 (rd s a) &&& ~~~(BitVec.ofNat 64 r.rc)).toNat)

/-- A word with a field replaced. -/
def patch (w : Nat) (f : Fld) (v : Nat) : Nat := setBits w f.lo f.w v

/-! ### Queues, contexts, counters (R59, R61, R68) -/

/-- The rest of a message still arriving for queue `q` is discarded and counted (R61). -/
def dropArriving (s : State) (k q : Nat) : State :=
  match (tile s k).eject with
  | some e =>
    if e.discard || e.q != q || 2 ≤ e.cls then s
    else
      let b := tileBase k
      let s := modTile s k fun t => { t with eject := some { e with discard := true, ids := [] } }
      setF (report (incF s b (F.TSQ_QSTAT_DISCARDS.at (8 * q)) 1) k 0x92 0 q) b F.TSQ_ERR_PORT_DISCARD
  | none => s

/-- A queue that a write disables is emptied (R61). -/
def disableQueue (s : State) (k q : Nat) : State := dropArriving (qEmpty s k q) k q

/-- The flits BASE..BASE + DEPTH - 1 leave the 256-flit buffer or overlap another enabled queue (R61). -/
def rangeBad (s : State) (k q base depth : Nat) : Bool :=
  decide (256 < base + depth) ||
    (List.range 8).any fun j => j != q && qEn s k j &&
      decide (base < getF s (tileBase k) (F.TSQ_QCFG_BASE.at (8 * j)) + qDepth s k j) &&
      decide (getF s (tileBase k) (F.TSQ_QCFG_BASE.at (8 * j)) < base + depth)

/-- A write of TSQ.QCFG(q) (R61). A change of BASE or DEPTH of an enabled queue empties it; the rest
of a message still arriving is then discarded, as where EN is left 0 (DESIGN CHOICE, log entry 128). -/
def writeQcfg (s : State) (k q v : Nat) : State :=
  let b := tileBase k
  let was := qEn s k q
  let en := F.TSQ_QCFG_EN.at (8 * q); let fb := F.TSQ_QCFG_BASE.at (8 * q); let fd := F.TSQ_QCFG_DEPTH.at (8 * q)
  let base := bits v 0 8; let depth := bits v 16 9
  if bit v 31 then
    if rangeBad s k q base depth then
      let s := setF (report (putF s b en 0) k 0x95 0 q) b F.TSQ_ERR_QCFG_OVERLAP
      if was then disableQueue s k q else s
    else
      let s1 := if was && (getF s b fb != base || getF s b fd != depth) then disableQueue s k q else s
      setF (putF (putF s1 b fb base) b fd depth) b en
  else
    let s := putF (putF (putF s b fb base) b fd depth) b en 0
    if was then disableQueue s k q else s

def execQcfgWrite (t : TileId) (q : Fin 8) (v : Word) (s : State) : Out := .next (writeQcfg s (tileNo t) q.val v.toNat)

/-- A write of TSQ.CTR(c): the count is replaced before this tc's events are added (R59). -/
def writeCounter (s : State) (k c : Nat) (v : Word) : State := plainWrite s (tileBase k + F.TSQ_CTR_COUNT.off + 8 * c) v

def execCounterWrite (t : TileId) (c : Fin 16) (v : Word) (s : State) : Out := .next (writeCounter s (tileNo t) c.val v)

/-- A write of TSQ.CTX_CTL(n): ENTRY, and RESET, which acts on a context in FAULT or in a FROZEN tile (R68). RESET leaves the context
IDLE and starts nothing (DEDUCED, log entry 129). -/
def writeCtxCtl (s : State) (k n v : Nat) : State :=
  let b := tileBase k
  let s := putF s b (F.TSQ_CTX_CTL_ENTRY.at (8 * n)) (bits v 0 9)
  if bit v 31 && (ctxState s k n == 3 || life s k == .frozen) then
    modCtx (setCtxState s k n 0) k n fun c => { c with loops := [], pre := [], hold := .none }
  else s

def execContextReset (t : TileId) (n : Fin 8) (v : Word) (s : State) : Out := .next (writeCtxCtl s (tileNo t) n.val v.toNat)

/-! ### Tile registers -/

/-- User registers that take a write only in FROZEN or INSTAR (TSQ.GPOI, TSQ.GREG). -/
def heldOpen (s : State) (k : Nat) : Bool := life s k == .frozen || life s k == .instar

/-- A write of a tile register at an offset of its tile. -/
def tileWrite (s : State) (k off : Nat) (v : Word) : State :=
  let a := tileBase k + off; let n := v.toNat
  if off % 8 != 0 then s
  else if off == 0x28 then writeIfill s k n
  else if off == 0x38 then writeIbData s k n
  else if 0x80 ≤ off && off < 0xC0 then writeCtxCtl s k ((off - 0x80) / 8) n
  else if 0x200 ≤ off && off < 0x240 then writeQcfg s k ((off - 0x200) / 8) n
  else if 0x300 ≤ off && off < 0x800 then (if heldOpen s k then plainWrite s a v else s)
  else if off == 0x1020 then writeTallyTest s k n
  else if 0x1400 ≤ off && off < 0x1800 && off % 16 == 0 then writeLatDesc s k ((off - 0x1400) / 16) n
  else if 0x2400 ≤ off && off < 0x2500 then writeSpuDesc s k ((off - 0x2400) / 8) n
  else plainWrite s a v

/-- Contexts in a state, as a bit each. -/
def ctxBits (s : State) (k st : Nat) : Nat := ((List.range 8).map fun n => b2n (ctxState s k n == st) * 2 ^ n).sum

/-- The ramp's allowance, vectors per 4 tc (R86). -/
def rampQ (s : State) (k : Nat) : Nat :=
  match rampStart s k with
  | none => 4
  | some a => min 4 (1 + (s.tc - a) / 64)

/-- The age clock a tile or hub shows (R176). -/
def ageNow (s : State) (f : Nat) : Nat :=
  if s.beats.ticked then
    (128 * (s.beats.no % 2) + min 127 ((s.tc - s.beats.at_) / max 1 (getF s (fieldBase f) F.RIM_AGE_CFG_UNIT))) % 256
  else 0

/-- An output holds a message that waits (MSH.STATUS.OUT_HELD). -/
def outHeld (s : State) (k d : Nat) : Bool := (look none (tile s k).outHold d).isSome

/-- A header waits at the ejection port for queue space (MSH.STATUS.EJ_WAIT). -/
def ejWait (s : State) (k : Nat) : Bool := outHeld s k 4 && (tile s k).eject.isNone

/-- Link kinds of a tile, from the shift tables (Table 07.1): north, east, south, west. -/
def linkKinds (s : State) (k : Nat) : Nat × Nat × Nat × Nat :=
  let x := tileX k; let y := tileY k; let w := tileW k; let c := tileCluster k
  let p := physOf s c
  let at_ (d : Nat) : Nat × Nat := physOf s d
  let vert (q : Nat × Nat) : Nat :=
    if q.1 == p.1 then (if q.2 + 1 == p.2 || p.2 + 1 == q.2 then 0 else 1) else if q.1 < p.1 then 2 else 3
  let horiz (q : Nat × Nat) : Nat := if q.1 + 1 == p.1 || p.1 + 1 == q.1 then 0 else 1
  let hinge := if rowDetoured s w y then 7 else 5
  (if y == 0 then 6 else if y % 96 == 0 then 4 else if y % 4 != 0 then 0 else vert (at_ (c - 288)),
   if x == 1151 then (if w == 0 then hinge else 6) else if x % 96 == 95 then 4 else if x % 4 != 3 then 0 else horiz (at_ (c + 1)),
   if y == 671 then 6 else if y % 96 == 95 then 4 else if y % 4 != 3 then 0 else vert (at_ (c + 288)),
   if x == 0 then (if w == 1 then hinge else 6) else if x % 96 == 0 then 4 else if x % 4 != 0 then 0 else horiz (at_ (c - 1)))

/-- MSH.LINK_SEL: what the hub writes at the map build and at every shift-table update (R168); zero before. -/
def linkSel (s : State) (k : Nat) : Nat :=
  let b := fieldBase (tileField k); let p := physOf s (tileCluster k)
  if isF s b (F.FLD_SHIFT_COL_IN_USE.at (8 * p.2)) then
    let (n, e, so, w) := linkKinds s k
    getF s b F.FLD_SHIFT_ROW_MAP_SEQ * 65536 + w * 4096 + so * 256 + e * 16 + n
  else 0

/-- The beat most recently opened is tail-done in the tile, or sealed by its field (R66, R196). -/
def tailDone (s : State) (k : Nat) : Bool :=
  (tile s k).openNo.isSome && (decide ((tile s k).seen ≤ (tile s k).tails) || phaseOf s k == 2 ||
    getF s (tileBase k) F.TSQ_BEATCFG_BEAT_MASK == 0)

/-- The word a tile register holds, its live fields as they stand. -/
def tileView (s : State) (k off : Nat) : Nat :=
  let b := tileBase k; let w := rd s (b + off); let t := tile s k
  if off == 0 then (if phase s < 2 then 0 else 1) * (tileW k * 2 ^ 35 + tileY k * 2 ^ 25 + tileX k * 2 ^ 14 + tileT k)
  else if off == 8 then
    let w := patch w F.TSQ_STATUS_STATE (life s k).code
    let w := patch w F.TSQ_STATUS_PARKED (b2n (lifeSt s k).parked)
    let w := patch w F.TSQ_STATUS_TAIL_DONE (b2n (tailDone s k))
    patch (patch (patch w F.TSQ_STATUS_RUN_CTX (ctxBits s k 1)) F.TSQ_STATUS_DONE_CTX (ctxBits s k 2))
      F.TSQ_STATUS_FAULT_CTX (ctxBits s k 3)
  else if off == 0x10 then patch w F.TSQ_BEAT_PHASE (phaseOf s k)
  else if 0xC0 ≤ off && off < 0x100 then
    let n := (off - 0xC0) / 8
    patch (patch w F.TSQ_CTX_STATE_LOOP_DEPTH (ctxOf s k n).loops.length) F.TSQ_CTX_STATE_WHY
      (if ctxState s k n == 1 then why s k n else 0)
  else if 0x240 ≤ off && off < 0x280 then
    let q := (off - 0x240) / 8
    patch (patch (patch w F.TSQ_QSTAT_LEVEL (qLevel s k q)) F.TSQ_QSTAT_HELD (qHeld s k q)) F.TSQ_QSTAT_MSGS (qMsgs s k q)
  else if off == 0x38 then (ibAt s k (getF s b F.TSQ_IB_ADDR_INDEX)).insn.toNat
  else if off == 0x1000 then
    let l := t.lat
    let w := patch (patch w F.LAT_STATUS_RAMP_Q (rampQ s k - 1)) F.LAT_STATUS_RAMPING (b2n (decide (rampQ s k < 4)))
    let w := patch (patch w F.LAT_STATUS_FLOOR (b2n (l.floorAt.any fun a => a + 1 == s.tc))) F.LAT_STATUS_Q_OCC l.queue.length
    let w := patch (patch w F.LAT_STATUS_DRAIN_BUSY (b2n l.drain.isSome)) F.LAT_STATUS_ARRAY_BUSY
      (b2n (!l.liss.isEmpty || !l.inArray.isEmpty))
    let w := patch (patch w F.LAT_STATUS_LOADER_BUSY (b2n l.loader.isSome)) F.LAT_STATUS_SET1_POISON (b2n l.set1.poison)
    patch (patch (patch w F.LAT_STATUS_SET0_POISON (b2n l.set0.poison)) F.LAT_STATUS_SET1_FMT l.set1.fmt)
      F.LAT_STATUS_SET0_FMT l.set0.fmt
  else if off == 0x1008 then patch w F.LAT_RAMP_IDLE_CNT (min 0xFFFF (s.tc - max t.lat.lastVec s.power.scrubFrom))
  else if off == 0x2000 then
    let w := patch (patch w F.SPU_STATUS_Q_OCC t.spu.queue.length) F.SPU_STATUS_BUSY (b2n t.spu.cur.isSome)
    match t.spu.cur with
    | none => w
    | some o => patch (patch (patch w F.SPU_STATUS_OP o.e.op) F.SPU_STATUS_DESC o.e.descNo) F.SPU_STATUS_QWAIT
        (b2n (o.e.op == 3 && !o.moves.isEmpty && decide (qFree s k o.e.qn < 16)))
  else if off == 0x3008 then linkSel s k
  else if off == 0x3000 then
    let w := patch (patch w F.MSH_STATUS_PASS (b2n (life s k == .calved))) F.MSH_STATUS_AGE_NOW (ageNow s (tileField k))
    let w := patch w F.MSH_STATUS_OUT_HELD ((List.range 5).map fun d => b2n (outHeld s k d) * 2 ^ d).sum
    let w := patch w F.MSH_STATUS_IN_OCC ((List.range 5).map fun d => b2n (!(look [] t.inq d).isEmpty) * 2 ^ d).sum
    patch (patch w F.MSH_STATUS_EJ_WAIT (b2n (ejWait s k))) F.MSH_STATUS_CLOCKED (b2n (!(lifeSt s k).parked))
  else w

/-! ### Cluster registers -/

/-- The buddy R163 names: the first backed cluster 12 columns on in the row, else 12 rows on in the column. -/
def findBuddy (s : State) (c : Nat) : Option Nat :=
  let f := clusterField c; let x := lcx c; let y := lcy c
  match ((List.range 24).map fun j => fieldCluster f ((x + 12 + j) % 24) y).find? fun d => d != c && backed s d with
  | some d => some d
  | none => ((List.range 24).map fun j => fieldCluster f x ((y + 12 + j) % 24)).find? fun d => d != c && backed s d

/-- The hub assigns a cluster's buddy (R163). -/
def assignBuddy (s : State) (c : Nat) : State :=
  let b := cluBase c
  match findBuddy s c with
  | some d => wr s (b + F.CLU_BUDDY_VALID.off) (2 ^ 13 + 32 * lcy d + lcx d)
  | none => wr s (b + F.CLU_BUDDY_VALID.off) 0

/-- The cluster's CLU.BUDDY names a cluster that is unbacked. -/
def buddyLost (s : State) (c : Nat) : Bool :=
  let b := cluBase c
  !(backed s (fieldCluster (clusterField c) (getF s b F.CLU_BUDDY_LCX) (getF s b F.CLU_BUDDY_LCY)))

/-- Clusters of a field whose buddy is unbacked receive new ones (R164). -/
def reassignBuddies (s : State) (f : Nat) : State :=
  (fieldClusters f).foldl (fun s c => if isF s (cluBase c) F.CLU_BUDDY_VALID && buddyLost s c then assignBuddy s c else s) s

/-- A write of CLU.BUDDY through tile `k`, in INSTAR or FROZEN: with OVR the named cluster, while it is backed; else the hub's
own choice (R164). Before eclosion it leaves VALID clear. -/
def writeBuddy (s : State) (c k : Nat) (v : Nat) : State :=
  if !(heldOpen s k) then s
  else
    let x := bits v 0 5; let y := bits v 5 5; let b := cluBase c
    if bit v 63 && decide (x < 24) && decide (y < 24) && backed s (fieldCluster (clusterField c) x y) then
      wr s (b + F.CLU_BUDDY_VALID.off) (2 ^ 63 + b2n (life s k == .frozen || isF s b F.CLU_BUDDY_VALID) * 2 ^ 13 + 32 * y + x)
    else if isF s b F.CLU_BUDDY_VALID then assignBuddy s c
    else wr s (b + F.CLU_BUDDY_VALID.off) (32 * y + x)

/-- A write of a cluster register, made through tile `k` of the cluster. -/
def cluWrite (s : State) (c k off : Nat) (v : Word) : State :=
  if off == 0x10 then writeBuddy s c k v.toNat
  else if off == 0x18 then scrubMark (plainWrite s (cluBase c + off) v) c
  else if off == 0x48 then writeParInj s c v.toNat
  else if off == 0x800 then writeMtCtl s c v.toNat
  else plainWrite s (cluBase c + off) v

/-- Rows of a cluster whose poison bit is set. -/
def poisonRows (s : State) (c : Nat) : Nat := (s.poisonRow.filter fun e => e.2 && e.1 / 8192 == c).length

/-- The word a cluster register holds, its live fields as they stand. -/
def cluView (s : State) (c off : Nat) : Nat :=
  let w := rd s (cluBase c + off); let v := cluster s c
  if off == 0 then if phase s < 2 then 0 else
    c / 288 / 168 * 2 ^ 35 + c / 288 % 168 * 2 ^ 27 + c % 288 * 2 ^ 18 + c % 288 / 24 * 2 ^ 14 + c / 288 % 168 / 24 * 2 ^ 11 +
      lcy c * 32 + lcx c
  else if off == 8 then
    let w := patch (patch w F.CLU_STATUS_POISON_ROWS (poisonRows s c)) F.CLU_STATUS_SHIFT (b2n v.shift)
    patch (patch w F.CLU_STATUS_SCRUB_LATE (b2n v.scrubLate)) F.CLU_STATUS_SCRUB_RUN
      (b2n (scrubRuns s c && isF s (cluBase c) F.CLU_SCRUB_CFG_EN))
  else if off == 0x20 then patch w F.CLU_SCRUB_STAT_TGT_OCC v.targeted.length
  else if off == 0x60 then
    let n (p : Nat) : Nat := (v.records.filter fun r => r.parity == p).length
    let t (p : Nat) : Nat := b2n (v.scrubWait.any fun e => e.2 == p)
    let serving := (fieldClusters (clusterField c)).any fun d =>
      d != c && buddyOf s d == some c && (cluster s d).records.any fun r => r.moved && !r.served
    let w := patch (patch w F.CLU_RPL_STAT_REC1 (n 1)) F.CLU_RPL_STAT_REC0 (n 0)
    let w := patch (patch w F.CLU_RPL_STAT_SCRUB1 (t 1)) F.CLU_RPL_STAT_SCRUB0 (t 0)
    let w := patch (patch w F.CLU_RPL_STAT_TAINT1 (b2n (look false v.taint 1))) F.CLU_RPL_STAT_TAINT0 (b2n (look false v.taint 0))
    let w := patch (patch w F.CLU_RPL_STAT_SUSP1 (b2n (suspect s c 1))) F.CLU_RPL_STAT_SUSP0 (b2n (suspect s c 0))
    patch (patch w F.CLU_RPL_STAT_CALVE_PEND (b2n v.calvePend)) F.CLU_RPL_STAT_SERVING (b2n serving)
  else if off == 0x800 then patch w F.CLU_MT_CTL_BUSY (b2n v.merge.isSome)
  else w

/-! ### Both, by the local form of R55 -/

/-- An own CSR instruction of the tile has reached the register in this tc. -/
def reachedNow (s : State) (k addr : Nat) : Bool := (tile s k).landTc == s.tc && (tile s k).landed.contains addr

/-- An own CSR instruction of the tile reaches a register. -/
def noteReached (s : State) (k addr : Nat) : State :=
  modTile s k fun x => { x with landTc := s.tc, landed := addr :: (if x.landTc == s.tc then x.landed else []) }

/-- A write over the rime network comes before the tile's own of the same tc (R32): where a tile's own access has already
reached the register in this tc, it lands in the next. -/
def rimeTurn (s : State) (tiles : List Nat) (addr : Nat) : State :=
  if tiles.any fun k => reachedNow s k addr then waitTc s (s.tc + 1) else s

def localWrite (s : State) (k addr : Nat) (v : Word) : State :=
  if bit addr 14 then cluWrite s (tileCluster k) k (addr % 4096) v else tileWrite s k (addr % 16384) v

def localAddr (k addr : Nat) : Nat :=
  if bit addr 14 then cluBase (tileCluster k) + addr % 4096 else tileBase k + addr % 16384

/-- The bits of a local register that count tile cycles of waiting, which no command tells (R34, R86, R87, R146, R177, R218):
TSQ.EMPTY_CNT and STALL_CNT, the waits of MSH, and CLU.MT_STAT.STALL. -/
def timedBits (addr : Nat) : Nat :=
  let off := addr % 16384
  if bit addr 14 then (if addr % 4096 == 0x810 then 2 ^ 16 - 1 else 0)
  else if 0x288 ≤ off && off < 0x2C8 then 2 ^ 48 - 1
  else if 0x3080 ≤ off && off < 0x30A8 then 2 ^ 48 - 1
  else if off == 0x30C0 then 2 ^ 64 - 2 ^ 32
  else if off == 0x30C8 then 2 ^ 64 - 1
  else if 0x3140 ≤ off && off < 0x3160 then 2 ^ 64 - 2 ^ 24
  else 0

/-- A value read, its bits in `m` free where they may have counted (log entry 123). -/
def readTimed (s : State) (counts : Bool) (m : Nat) (v : Word) : State × Word :=
  if counts && m != 0 then
    let (s, n) := nextFree s
    (s, (v &&& ~~~(BitVec.ofNat 64 m)) ||| (Config.freeWord n &&& BitVec.ofNat 64 m))
  else (s, v)

/-- A read in the local form: the value, and what the read does. -/
def localRead (s : State) (k addr : Nat) : State × Word :=
  let a := localAddr k addr
  let s := if addr % 32768 == 0x1038 || addr % 32768 == 0x1040 then countWaiting s k s.tc else s
  let w := if bit addr 14 then cluView s (tileCluster k) (addr % 4096) else tileView s k (addr % 16384)
  let v := BitVec.ofNat 64 (w &&& readMask a)
  let s := clearRc s a
  if addr % 32768 == 0x38 then (ibStep s k, v) else readTimed s (life s k != .dark) (timedBits addr) v

end Sys2Proof.Machine
end

