-- ==== Sys2Proof/Machine/Configure.lean ====
section
/-! DEFINITION. The configuration loader of a tile: rows, checks and eclosion (R204 to R211). -/

namespace Sys2Proof.Machine

/-! ### Banks in a slice (R204, R205) -/

def sliceRow (s : State) (k r : Nat) : Row := readRow s (tileCluster k) (512 * tileT k + r % 512)
def sliceBytes (s : State) (k r : Nat) : List Byte := toBytes 512 (sliceRow s k r).toNat

/-- A field of the header of the bank at row `r` (Table 08.4). -/
def hdr (s : State) (k r off n : Nat) : Nat := bits (sliceRow s k r).toNat (8 * off) (8 * n)

def bankTag (s : State) (k r : Nat) : Nat := hdr s k r 8 4
def bankNrows (s : State) (k r : Nat) : Nat := hdr s k r 3 1
def bankNirows (s : State) (k r : Nat) : Nat := hdr s k r 13 1
def bankNrec (s : State) (k r : Nat) : Nat := hdr s k r 14 2
def bankCrc (s : State) (k r : Nat) : Nat := hdr s k r 4 4

/-- The loader reads a bank back: its header and, as the header says, its rows (R209, R214). -/
def readBank (s : State) (k r : Nat) : State := scanRows s k r (max 1 (min 32 (bankNrows s k r)))

/-- The bank at row `r` is bank `b` whole: its header as R204 has it, and its CRC good. -/
def bankGood (s : State) (k b r : Nat) : Bool :=
  let n := bankNrows s k r
  hdr s k r 0 2 == 0xC0F1 && hdr s k r 2 1 == 1 && hdr s k r 12 1 == b && decide (2 ≤ n) && decide (n ≤ 32) &&
    decide (r + n ≤ 512) && decide (bankNirows s k r ≤ 8) && decide (bankNrec s k r ≤ 32 * (n - 1 - bankNirows s k r)) &&
    bankCrc s k r == crc32c ((sliceBytes s k r).drop 8 ++ (List.range (n - 1)).flatMap fun i => sliceBytes s k (r + 1 + i))

/-- The banks that bank 0's header names, with their first rows. -/
def namedBanks (s : State) (k : Nat) : List (Nat × Nat) :=
  (0, 480) :: ([1, 2, 3].map fun b => (b, hdr s k 480 (22 + 2 * b) 2)).filter fun e => e.2 != 0

/-- The row at which bank `b` stands: TSQ.CFGB(b).BASE. -/
def bankBase (s : State) (k b : Nat) : Nat := getF s (tileBase k) (F.TSQ_CFGB_BASE.at (8 * b))

/-- TSQ.CFGB(b) as a header at row `r` sets it. -/
def setCfgb (s : State) (k b r : Nat) (valid : Bool) : State :=
  wr s (tileBase k + F.TSQ_CFGB_BASE.off + 8 * b) (bankCrc s k r * 2 ^ 32 + b2n valid * 2 ^ 31 + r % 512)

/-! ### Loads in progress -/

def modLoad (s : State) (f : Load → Load) : State := { s with load := s.load.map f }

/-- Answers a load whose checks have all ended: with 0x34 and the tiles where some failed three times; a STANDBY load
when all passed. A full load that passed answers once the engine is LIVE (R209, Table 14.4). -/
def loadEnd (s : State) : State :=
  match s.load with
  | none => s
  | some l =>
    if l.left != 0 || !l.running then s
    else if !l.failed.isEmpty then
      let ids := (l.failed.take 5).map fun k => tileView s k 0
      respondAll (modLoad s fun l => { l with running := false }) (· == .load) 0x34 (l.verified :: l.failed.length :: ids)
    else if l.standby then respondAll (modLoad s fun l => { l with running := false }) (· == .load) 0 [l.verified, 0]
    else s

/-- A check of tile `k` ended badly with bank `b` (R209): 0x34; the rows are sent again, up to twice. -/
def checkFails (s : State) (k b : Nat) : State :=
  let fb := fieldBase (tileField k)
  let s := setF (report s k 0x34 0 b) fb F.FLD_BEAT_ERR_CFG_CRC
  let s := if (tile s k).failedCheck then s else incF s fb F.FLD_CFG_STAT_CRC_FAIL 1
  let s := modTile s k fun t => { t with failedCheck := true, headerSeen := none, rowsSeen := 0, tries := t.tries + 1 }
  if (tile s k).tries == 3 then
    loadEnd (modLoad s fun l => { l with failed := l.failed ++ [k], left := l.left - 1 })
  else s

/-- A check passes: a tile that failed its last check no longer counts as failed. -/
def unfail (s : State) (k : Nat) : State :=
  if (tile s k).failedCheck then
    let fb := fieldBase (tileField k)
    modTile (putF s fb F.FLD_CFG_STAT_CRC_FAIL (getF s fb F.FLD_CFG_STAT_CRC_FAIL - 1)) k fun t => { t with failedCheck := false }
  else s

/-- Every backed tile of a field is verified (R211). -/
def fieldReady (s : State) (f : Nat) : Bool :=
  getF s (fieldBase f) F.FLD_CFG_STAT_VERIFIED == 16 * ((fieldClusters f).filter fun c => backed s c).length

/-- Rows that the check of bank `b`, its header at row `r`, reads back: in a full load every bank and data row (R209). -/
def readBackRows (s : State) (k b r : Nat) : Nat :=
  if b == 0 then ((namedBanks s k).map fun e => bankNrows s k e.2).sum + hdr s k 480 16 2 else bankNrows s k r

/-- The row arrives at the loader: written to the slice, counted, and, as a header, starting the check (R181, R209). -/
def configRow (s : State) (k r : Nat) (v : Row) (poison : Bool) : State :=
  let s := scanWrite s (tileCluster k) (tileT k) (512 * tileT k + r) v poison
  let s := modTile s k fun t => { t with rowsSeen := t.rowsSeen + 1 }
  let start (b : Nat) : State := modTile s k fun t => { t with headerSeen := some b, checkTc := s.tc + 6 + readBackRows s k b r }
  if life s k == .instar then
    if r == 480 then (if hdr s k 480 18 2 == (tile s k).rowsSeen then start 0 else checkFails s k 0) else s
  else
    match s.load with
    | some l =>
      match (banksFor s l.base k).find? fun e => e.row == r with
      | some e => if l.running && l.standby then start e.kind else s
      | none => s
    | none => s

/-- The next row of the load reaches a tile as a CLASS 2 message (R208, R209), its firn read as R254 has it. -/
def execConfigRowArrival (t : TileId) (row : RowArrival) (s : State) : Out :=
  let k := tileNo t
  match s.load with
  | some l =>
    if !l.running || (tile s k).headerSeen.isSome || decide (3 ≤ (tile s k).tries) || (tile s k).verified ||
        !(backed s (tileCluster k)) || (rowsFor s l k)[(tile s k).rowsSeen]? != some row.row.val then .next s
    else match rowSource s l.base k row.row.val with
      | some a =>
        let (s, v, p) := firnRead s a row.corr row.uncorr
        .next (configRow s k row.row.val v p)
      | none => .next s
  | none => .next s

/-- The first bank whose check fails in a full load; the data rows count against bank 0. -/
def firstBad (s : State) (k : Nat) (data : List Nat) : Option Nat :=
  match (namedBanks s k).find? fun e => !(bankGood s k e.1 e.2) with
  | some e => some e.1
  | none =>
    if hdr s k 480 16 2 == data.length && hdr s k 480 20 4 == crc32c (data.flatMap (sliceBytes s k)) then none else some 0

/-- The check of a tile ends (R209). In a full load every bank and data row is read back; in a STANDBY load the bank whose
header arrived. -/
def execConfigCheckDone (t : TileId) (s : State) : Out :=
  let k := tileNo t; let f := tileField k
  match (tile s k).headerSeen with
  | none => .next s
  | some b =>
    let s := waitTc s (tile s k).checkTc
    if life s k == .instar then
      let data := match s.load with | some l => dataRows s l.base k | none => []
      let s := (namedBanks s k).foldl (fun s e => readBank s k e.2) s
      let s := data.foldl (fun s r => scanRows s k r 1) s
      let bad := firstBad s k data
      let s := (namedBanks s k).foldl (fun s e => setCfgb s k e.1 e.2 (bankGood s k e.1 e.2 && bad != some e.1)) s
      match bad with
      | some b => .next (checkFails s k b)
      | none =>
        let s := unfail s k
        let s := incF (modTile s k fun t => { t with headerSeen := none, verified := true }) (fieldBase f) F.FLD_CFG_STAT_VERIFIED 1
        let s := modField s f fun v => { v with ready := fieldReady s f }
        .next (loadEnd (modLoad s fun l => { l with left := l.left - 1, verified := l.verified + 1 }))
    else
      match s.load with
      | none => .next s
      | some l =>
        let bs := banksFor s l.base k
        match bs.find? fun e => e.kind == b with
        | none => .next s
        | some e =>
          let good := bankGood s k b e.row
          let s := setCfgb (readBank s k e.row) k b e.row good
          if good then
            let s := unfail s k
            let s := modTile s k fun t => { t with headerSeen := none, passed := b :: t.passed }
            let all := (tile s k).passed.length == bs.length
            let s := modTile s k fun t => { t with verified := all }
            .next (loadEnd (modLoad s fun l => { l with left := l.left - b2n all, verified := l.verified + b2n all }))
          else .next (checkFails (modTile s k fun t => { t with passed := [] }) k b)

/-! ### INSTAR and eclosion (R210, R211) -/

/-- What a tile loses when it enters INSTAR: contexts, queues, vector registers and work in its units (Table 08.7). What
its router, its reports and its configuration hold stays. -/
def Tile.cleared (t : Tile) (tc : Nat) : Tile :=
  { inq := t.inq, worm := t.worm, outHold := t.outHold, outRr := t.outRr, link := t.link,
    eject := t.eject.map fun e => { e with discard := true }, tokens := t.tokens, details := t.details, nextId := t.nextId,
    lat := { lastVec := tc, countTc := tc }, verified := t.verified, failedCheck := t.failedCheck, tries := t.tries, rowsSeen := t.rowsSeen,
    headerSeen := t.headerSeen, checkTc := t.checkTc, passed := t.passed }

/-- Offsets of a tile's user registers, which INSTAR holds at reset values (Table 08.7): of TSQ, LAT and SPU all that a program's
configuration writes, with the counters (log entry 136). -/
def userReg (off : Nat) : Bool :=
  (decide (0x18 ≤ off) && decide (off < 0x40)) || (decide (0x80 ≤ off) && decide (off < 0x800)) ||
    (decide (0x1400 ≤ off) && decide (off < 0x1800)) || (decide (0x2400 ≤ off) && decide (off < 0x2500)) ||
    [0x1008, 0x1058, 0x2018, 0x2020, 0x2030].contains off

/-- A tile enters INSTAR. -/
def enterInstar (s : State) (k : Nat) : State :=
  let b := tileBase k
  let s := resetRegs s fun a => decide (b ≤ a) && decide (a < b + 0x4000) && userReg (a - b)
  let s := modTile s k fun t =>
    { t.cleared s.tc with verified := false, failedCheck := false, tries := 0, rowsSeen := 0, headerSeen := none, passed := [] }
  let s := modCluster s (tileCluster k) fun c => { c with reads := c.reads.filter fun a => a.tile != tileT k }
  setLife s k { st := .instar }

/-- Offsets of a tile's blocks that eclosion sets to their reset values (R88, R116, R142, R191 and TSQ's register map; log entry
48). -/
def eclosed (off : Nat) : Bool :=
  decide (off < 0x1000) || [0x1010, 0x1018, 0x1028, 0x1030, 0x1038, 0x1040, 0x1048, 0x1050, 0x1060, 0x1068, 0x1070, 0x1078, 0x1080, 0x1088].contains off ||
    [0x2000, 0x2008, 0x2010, 0x2028, 0x2038, 0x2040, 0x2048].contains off ||
    (decide (0x3010 ≤ off) && decide (off < 0x3100)) || (decide (0x3140 ≤ off) && decide (off < 0x4000))

/-- Offsets of the CLU block that eclosion sets to their reset values (R165). -/
def cluEclosed (off : Nat) : Bool :=
  [0x28, 0x30, 0x38, 0x40, 0x48, 0x68].contains off || (decide (0x100 ≤ off) && decide (off < 0x280)) ||
    (decide (0x800 ≤ off) && decide (off < 0x820))

/-- Eclosion of a cluster's CLU state; the hub assigns its buddy, unless a user's override stands (R163 to R165). -/
def eclodeCluster (s : State) (c : Nat) : State :=
  let b := cluBase c
  let s := resetRegs s fun a => decide (b ≤ a) && decide (a < b + 0x1000) && cluEclosed (a - b)
  let s := putF (putF s b F.CLU_SCRUB_STAT_PASSES 0) b F.CLU_SCRUB_STAT_TGT_OVF 0
  let s := modCluster s c fun v => { v with ps := [], targeted := [], tgtOvf := [], merge := none, records := [],
                                            scrubWait := [], taint := [] }
  if isF s b F.CLU_BUDDY_OVR && !(buddyLost s c) then setF s b F.CLU_BUDDY_VALID else assignBuddy s c

/-- Register record `j` of the bank at row `r` (R205). -/
def applyRecord (s : State) (k r j : Nat) : State :=
  let w := (sliceRow s k (r + 1 + bankNirows s k r + j / 32)).toNat
  localWrite s k (bits w (128 * (j % 32)) 15) (BitVec.ofNat 64 (bits w (128 * (j % 32) + 64) 64))

/-- The records of a bank, in order; a later record to the same register wins. A buddy that an image names stands (R164). -/
def applyRecords (s : State) (k r : Nat) : State :=
  let s := (List.range (bankNrec s k r)).foldl (fun s j => applyRecord s k r j) s
  if isF s (cluBase (tileCluster k)) F.CLU_BUDDY_OVR then setF s (cluBase (tileCluster k)) F.CLU_BUDDY_VALID else s

/-- The records of a bank that address the cluster block. -/
def applyCluRecords (s : State) (k r : Nat) : State :=
  (List.range (bankNrec s k r)).foldl (fun s j =>
    if bit ((sliceRow s k (r + 1 + bankNirows s k r + j / 32)).toNat / 2 ^ (128 * (j % 32))) 14 then applyRecord s k r j else s) s

/-- The instruction positions from a bank. From a row read with the poison mark they have inverted parity, and the fill raises
0x11 (R158). -/
def fillFrom (s : State) (k r : Nat) : State :=
  (List.range (bankNirows s k r)).foldl (fun s i =>
    let v := sliceRow s k (r + 1 + i)
    let (s, bad) := scanRead s (tileCluster k) (tileT k) (512 * tileT k + (r + 1 + i) % 512)
    let s := (List.range 64).foldl (fun s j => setIb s k (64 * i + j) (rowWord v j) bad) s
    if bad then setF (poisonConsumed s k 0 (parity s k) 0) (tileBase k) F.TSQ_ERR_POISON_USED else s) s

/-- A tile's registers and instructions from the bank at row `r`, whose record rows the loader reads (R211, R214). -/
def takeBank (s : State) (k r : Nat) : State :=
  let s := scanRows s k (r + 1 + bankNirows s k r) (ceilDiv (bankNrec s k r) 32)
  fillFrom (applyRecords s k r) k r

/-- The release that eclosion waits for has come (R211): with FIELD_RELEASE the field is ready, else all fields are. -/
def released (s : State) (k : Nat) : Bool :=
  match s.load with
  | none => false
  | some l => if fieldRelease s l.base && !l.calve then (field s (tileField k)).ready else l.left == 0 && l.failed.isEmpty

/-- A field none of whose tiles is INSTAR any longer has ecloded (FLD.CFG_STAT); when all have, a full load answers. -/
def noteEclosed (s : State) (f tag : Nat) (st : Life) : State :=
  if lifeCount s f .instar != 0 then s
  else
    let b := fieldBase f
    let s := setLifeField s f { st }
    let s := putF (putF (setF s b F.FLD_CFG_STAT_ECLOSED) b F.FLD_CFG_STAT_IMAGE_TAG tag) b F.FLD_CFG_STAT_BANK 0
    let s := wr s (b + F.FLD_BEAT_STAT_OPEN_NO.off) 0
    let s := if st == .live then modField s f fun v => { v with par := 0 } else s
    if anyLife s .instar then s
    else match s.load with
      | some l =>
        if l.calve then s
        else respondAll (modLoad s fun l => { l with running := false }) (· == .load) 0 [l.verified, 0]
      | none => s

end Sys2Proof.Machine
end

