-- ==== Sys2Proof/Machine/Mesh.lean ====
section
/-! DEFINITION. Routers, links and messages (R167 to R182). Directions: 0 north, 1 east, 2 south, 3 west, 4 local. -/

namespace Sys2Proof.Machine

/-! ### Places -/

/-- Tile number from coordinates. -/
def tileAt (w x y : Nat) : Nat := (w * 672 + y) * 1152 + x

/-- The tile that output `d` of tile `k` leads to (R167); none at a wing edge. -/
def neighbour (k d : Nat) : Option Nat :=
  let w := tileW k; let x := tileX k; let y := tileY k
  match d with
  | 0 => if y == 0 then none else some (tileAt w x (y - 1))
  | 1 => if x < 1151 then some (tileAt w (x + 1) y) else if w == 0 then some (tileAt 1 0 y) else none
  | 2 => if y < 671 then some (tileAt w x (y + 1)) else none
  | 3 => if 0 < x then some (tileAt w (x - 1) y) else if w == 1 then some (tileAt 0 1151 y) else none
  | _ => none

/-- Output `d` of tile `k` crosses the hinge. -/
def crossesHinge (k d : Nat) : Bool :=
  (d == 1 && tileW k == 0 && tileX k == 1151) || (d == 3 && tileW k == 1 && tileX k == 0)

def inqOf (s : State) (k i : Nat) : List MFlit := look [] (tile s k).inq i
def setInq (s : State) (k i : Nat) (l : List MFlit) : State := modTile s k fun t => { t with inq := put [] t.inq i l }
def linkOf (s : State) (k d : Nat) : List MFlit := look [] (tile s k).link d
def setLink (s : State) (k d : Nat) (l : List MFlit) : State := modTile s k fun t => { t with link := put [] t.link d l }
def wormOf (s : State) (k i : Nat) : Option Worm := look none (tile s k).worm i
def setWorm (s : State) (k i : Nat) (w : Option Worm) : State := modTile s k fun t => { t with worm := put none t.worm i w }

/-- Output `d` can send a flit: its link's buffer has room, and a hinge row has a lane (R167, Table 07.7). -/
def linkRoom (s : State) (k d : Nat) : Bool :=
  match neighbour k d with
  | none => false
  | some n =>
    if crossesHinge k d then decide ((linkOf s k d).length < 64) && !(rowDetoured s (tileW k) (tileY k))
    else decide ((linkOf s k d).length + (inqOf s n ((d + 2) % 4)).length < 8)

/-! ### Headers (Tables 07.2 and 07.3) -/

/-- The number of set bits of `v` below `n`. -/
def ones (v n : Nat) : Nat := ((List.range n).filter fun i => bit v i).length

/-- The bit that makes the parity of `n` low bits of `v` odd. -/
def oddParity (v n : Nat) : Nat := (ones v n + 1) % 2

def headerFlit (k : Nat) (e : SendEnt) (age : Nat) : Flit :=
  let v := e.dest % 2 ^ 23 + (tileW k * 2 ^ 21 + tileY k * 2 ^ 11 + tileX k) * 2 ^ 23 + e.port % 16 * 2 ^ 46 +
    e.tag % 2 ^ 16 * 2 ^ 50 + e.len % 16 * 2 ^ 66 + age % 256 * 2 ^ 70 + e.cls % 4 * 2 ^ 78
  BitVec.ofNat 256 (v + oddParity v 80 * 2 ^ 80)

def rectFlit (r : Nat) : Flit := BitVec.ofNat 256 (r % 2 ^ 42 + oddParity r 42 * 2 ^ 42)

def hDest (h : Flit) : Nat := bits h.toNat 0 23
def hSrc (h : Flit) : Nat := bits h.toNat 23 22
def hPort (h : Flit) : Nat := bits h.toNat 46 4
def hTag (h : Flit) : Nat := bits h.toNat 50 16
def msgLen (h : Flit) : Nat := bits h.toNat 66 4
def hAge (h : Flit) : Nat := bits h.toNat 70 8
def hClass (h : Flit) : Nat := bits h.toNat 78 2

/-! ### Routing (R172, R173) -/

/-- The next output towards tile (w, x, y): in X first and then in Y; to the other wing along the row to the hinge column,
one hop aside while the row's crossing is lost (Table 07.7). -/
def towards (s : State) (k w x y : Nat) : Nat :=
  if tileW k == w then
    if tileX k < x then 1 else if x < tileX k then 3
    else if tileY k < y then 2 else if y < tileY k then 0 else 4
  else
    let out := if tileW k == 0 then 1 else 3
    let row := tileY k
    let pair := if row % 2 == 0 then row + 1 else row - 1
    if crossesHinge k out && rowDetoured s (tileW k) row && !(rowDetoured s (tileW k) pair) then
      (if row % 2 == 0 then 2 else 0)
    else out

/-- `v` clamped to `lo..hi`. -/
def clamp (v lo hi : Nat) : Nat := max lo (min v hi)

/-- Outputs of a multicast at tile `k`, arriving on input `i`. Outside its rectangle it goes to its entry tile; a message
that enters the rectangle, or runs along the entry's row, spreads along that row and both ways along its column; one that
runs along a column goes on along it. A flit never leaves on the side it arrived from (R167, R173). -/
def spread (s : State) (k i : Nat) (h r : Flit) : List Nat :=
  let w := bits (hDest h) 21 1
  let x0 := bits r.toNat 0 11; let x1 := bits r.toNat 11 11
  let y0 := bits r.toNat 22 10; let y1 := bits r.toNat 32 10
  let x := tileX k; let y := tileY k
  if tileW k == w && decide (x0 ≤ x) && decide (x ≤ x1) && decide (y0 ≤ y) && decide (y ≤ y1) then
    let column := (i == 0 && decide (y0 < y)) || (i == 2 && decide (y < y1))
    let outs := (if y0 < y then [0] else []) ++ (if x < x1 && !column then [1] else []) ++ (if y < y1 then [2] else []) ++
      (if x0 < x && !column then [3] else []) ++ [4]
    outs.filter fun d => d != i || d == 4
  else
    let sw := bits (hSrc h) 21 1
    let xc := if sw == w then bits (hSrc h) 0 11 else if w == 1 then 0 else 1151
    [towards s k w (clamp xc x0 x1) (clamp (bits (hSrc h) 11 10) y0 y1)]

/-- The outputs of the message that heads input `i`; none until they can be decided (R173). -/
def outputs (s : State) (k i : Nat) : Option (List Nat) :=
  match inqOf s k i with
  | h :: r =>
    if h.kind != 0 then none
    else if hClass h.data == 1 then
      match r with
      | x :: _ => if x.kind == 1 then some (spread s k i h.data x.data) else none
      | [] => none
    else
      let d := hDest h.data
      some [towards s k (bits d 21 1) (bits d 0 11) (bits d 11 10)]
  | [] => none

/-- The message at the head of input `i`, with its outputs once decided. -/
def headWorm (s : State) (k i : Nat) : Option Worm :=
  match wormOf s k i with
  | some w => some w
  | none => (outputs s k i).map fun l => { outs := l, granted := [] }

/-- How long the message at the head of input `i` has waited, in age units (R176). -/
def waitOf (s : State) (k i : Nat) : Nat :=
  match inqOf s k i with
  | h :: _ => (ageNow s (tileField k) + 256 - hAge h.data) % 256
  | [] => 0

/-- The inputs whose head message wants output `d` and does not hold it. -/
def wanting (s : State) (k d : Nat) : List Nat :=
  let last := look 4 (tile s k).outRr d
  ((List.range 5).map fun j => (last + 1 + j) % 5).filter fun i =>
    match inqOf s k i, headWorm s k i with
    | h :: _, some w => h.kind == 0 && w.outs.contains d && !(w.granted.contains d)
    | _, _ => false

/-- The input that a free output grants: the largest wait, the first of these from the last one granted on (R177). -/
def pick (s : State) (k d : Nat) : Option Nat :=
  (wanting s k d).foldl (fun b i =>
    match b with
    | none => some i
    | some j => if waitOf s k j < waitOf s k i then some i else some j) none

/-- Output `d` is granted, unless a message holds it already. -/
def grant (s : State) (k d : Nat) : State :=
  match look none (tile s k).outHold d with
  | some _ => s
  | none =>
    match pick s k d with
    | none => s
    | some i =>
      match headWorm s k i with
      | none => s
      | some w =>
        modTile (setWorm s k i (some { w with granted := d :: w.granted })) k fun t =>
          { t with outHold := put none t.outHold d (some i), outRr := put 4 t.outRr d i }

/-! ### Ejection (R62, R174, R181) -/

/-- MSH.TAG_CNT counts a message that matches (direction 0 ejected, 1 injected). -/
def tagCount (s : State) (k dir tag : Nat) : State :=
  let b := tileBase k
  (List.range 4).foldl (fun s i =>
    let m := getF s b (F.MSH_TAG_SEL_MASK.at (8 * i)); let v := getF s b (F.MSH_TAG_SEL_VALUE.at (8 * i))
    if isF s b (F.MSH_TAG_SEL_EN.at (8 * i)) && getF s b (F.MSH_TAG_SEL_DIR.at (8 * i)) == dir && (tag ^^^ v) &&& m == 0 then
      incF s b (F.MSH_TAG_CNT_MSGS.at (8 * i)) 1
    else s) s

/-- A message the tile discards under R62: counted, reported with its PORT. -/
def discardMessage (s : State) (k port code : Nat) : State :=
  let b := tileBase k
  let s := incF s b (F.TSQ_QSTAT_DISCARDS.at (8 * (port % 8))) 1
  let e := match code with | 0x92 => F.TSQ_ERR_PORT_DISCARD | 0x93 => F.TSQ_ERR_OVERSIZE_MSG | _ => F.TSQ_ERR_INSTAR_DISCARD
  setF (report s k code 0 port) b e

/-- Flits of the rest of a message discarded at the ejection port. -/
def ejectDiscard (s : State) (k i cls : Nat) : State :=
  modTile s k fun t => { t with eject := some { input := i, q := 0, ids := [], cls, row := 0, discard := true } }

/-- An edge tile of its wing (R258). -/
def onEdge (k : Nat) : Bool :=
  tileY k == 0 || tileY k == 671 || tileX k == (if tileW k == 0 then 0 else 1151)

/-- A cocoon transfer is under way: a COCOON_OUT that was accepted is not answered. -/
def transferring (s : State) : Bool := !(waiters s fun w => match w with | .cocoonOut _ => true | _ => false).isEmpty

/-- What the ejection port does with the header it granted: it reserves LEN + 1 flits of queue PORT, or takes the message
to discard it; none while the header waits for space (R174). Scan data that an edge tile accepts goes on to the firn with the
cocoon, of which COCOON_OUT writes all at once (log entry 139). -/
def ejectHeader (s : State) (k i : Nat) (h : Flit) : Option State :=
  let b := tileBase k
  let cls := hClass h; let port := hPort h; let len := msgLen h
  let l := life s k
  if l == .calved then
    let s := incF s b F.MSH_DROP_CNT_UNBACKED 1
    let s := if cls == 1 then s else setF (report s k 0xE2 3 (hSrc h)) b F.MSH_ERR_UNBACKED
    some (ejectDiscard s k i cls)
  else if 2 ≤ cls then
    let row := hTag h % 8192
    if cls == 2 && len == 15 && row / 512 == tileT k && (l == .instar || l == .frozen) then
      some (modTile s k fun t => { t with eject := some { input := i, q := 0, ids := [], cls, row := row % 512 } })
    else if cls == 3 && onEdge k && (l == .instar || l == .frozen) && transferring s then some (ejectDiscard s k i cls)
    else
      let s := incF s b F.MSH_DROP_CNT_REFUSED 1
      some (ejectDiscard (setF (report s k 0xE6 3 (hSrc h)) b F.MSH_ERR_REFUSED) k i cls)
  else if l == .instar then some (ejectDiscard (discardMessage s k port 0x70) k i cls)
  else if decide (8 ≤ port) || !(qEn s k port) then some (ejectDiscard (discardMessage s k port 0x92) k i cls)
  else if qDepth s k port < len + 1 then some (ejectDiscard (discardMessage s k port 0x93) k i cls)
  else if qFree s k port < len + 1 then none
  else
    let (s, id) := reserve s k port (len + 1) fun id j =>
      { id, msg := true, first := j == 0, last := j == len, tag := hTag h, len, cls }
    let s := tagCount s k 0 (hTag h)
    some (modTile s k fun t =>
      { t with eject := some { input := i, q := port, ids := (List.range (len + 1)).map (id + ·), cls, row := 0 } })

/-- One flit of the message in the ejection port reaches its queue or the configuration loader (R181); the last flit ends
the message, a counter event (Table 02.8). -/
def ejectFlit (s : State) (k : Nat) (f : MFlit) : State :=
  match (tile s k).eject with
  | none => s
  | some e =>
    let done (s : State) : State := if f.kind == 3 then modTile s k fun t => { t with eject := none } else s
    if f.kind < 2 || e.discard then done s
    else if e.cls == 2 then
      let acc := e.acc ++ [(f.data, f.poison)]
      if f.kind == 3 then configRow (done s) k e.row (rowOfFlits (acc.map Prod.fst)) (acc.any Prod.snd)
      else modTile s k fun t => { t with eject := some { e with acc } }
    else
      match e.ids with
      | [] => done s
      | id :: r =>
        let s := modTile (fillSlot s k e.q id f.data f.poison) k fun t => { t with eject := some { e with ids := r } }
        if f.kind == 3 then done (sourceEvent s k 1 e.q) else s

/-! ### Forwarding -/

/-- Every branch of the message at input `i` is granted and accepts a flit (R173). -/
def branchesAccept (s : State) (k i : Nat) (w : Worm) : Bool :=
  w.outs.all fun d => w.granted.contains d &&
    (if d == 4 then (match (tile s k).eject with | some e => e.input == i | none => false) else linkRoom s k d)

/-- The head flit of input `i` goes to all its outputs together; the last flit releases them (R173, R177). -/
def forward (s : State) (k i : Nat) : State :=
  match inqOf s k i, wormOf s k i with
  | f :: r, some w =>
    if branchesAccept s k i w then
      let s := setInq s k i r
      let s := w.outs.foldl (fun s d =>
        let s := wrapF s (tileBase k) (F.MSH_FLIT_CNT_FLITS.at (8 * d)) 1
        if d == 4 then ejectFlit s k f else setLink s k d (linkOf s k d ++ [{ f with tries := 0 }])) s
      if f.kind == 3 then
        modTile (setWorm s k i none) k fun t => { t with outHold := w.outs.foldl (fun m d => put none m d none) t.outHold }
      else s
    else s
  | _, _ => s

/-- An output grants a message if it is free, and sends one flit of the message that holds it (R177). Flits that only
the local output takes are moved by FLIT_EJECT. -/
def execRouterGrant (t : TileId) (d : Fin 5) (s : State) : Out :=
  let k := tileNo t
  let s := grant s k d.val
  match look none (tile s k).outHold d.val with
  | none => .next s
  | some i =>
    match wormOf s k i with
    | some w => if w.outs == [4] then .next s else .next (forward s k i)
    | none => .next s

/-- The header that holds the local output reserves its queue, or its message is discarded; a header and a rectangle
that only the ejection port takes leave the router with it. -/
def execEjectionReserve (t : TileId) (s : State) : Out :=
  let k := tileNo t
  match look none (tile s k).outHold 4, (tile s k).eject with
  | some i, none =>
    match inqOf s k i with
    | h :: _ =>
      if h.kind == 0 then
        match ejectHeader s k i h.data with
        | none => .next s
        | some s =>
          match wormOf s k i with
          | some w =>
            if w.outs == [4] then
              let s := forward s k i
              .next (if hClass h.data == 1 then forward s k i else s)
            else .next s
          | none => .next s
      else .next s
    | [] => .next s
  | _, _ => .next s

/-- One payload flit enters the destination queue (R174). -/
def execFlitEject (t : TileId) (s : State) : Out :=
  let k := tileNo t
  match (tile s k).eject with
  | none => .next s
  | some e => .next (forward s k e.input)

/-! ### Injection (R51, R175) -/

/-- The head send's header, and a multicast's rectangle behind it, enter the local input; AGE is stamped (R176). -/
def execMessageInjection (t : TileId) (s : State) : Out :=
  let k := tileNo t
  match (tile s k).sendq with
  | [] => .next s
  | e :: r =>
    let q := inqOf s k 4
    let need := if e.rect.isSome then 2 else 1
    if e.headerOut || decide (8 < q.length + need) || !(crossbarRuns s (tileCluster k)) then .next s
    else
      let h : MFlit := { data := headerFlit k e (ageNow s (tileField k)), kind := 0 }
      let s := setInq s k 4 (q ++ h :: (match e.rect with | some x => [{ data := rectFlit x, kind := 1 }] | none => []))
      let s := modTile s k fun x => { x with sendq := { e with headerOut := true } :: r }
      .next (tagCount (incF s (tileBase k) F.MSH_INJ_CNT_MSGS 1) k 1 e.tag)

/-- The next payload flit of the head send, from its queue or from what was read for it; none while data lacks. -/
def nextPayload (s : State) (k : Nat) (e : SendEnt) : Option (State × Flit × Bool) :=
  if e.kind == 0 then
    if qWhole s k e.srcQ == 0 then none
    else
      let (s, l) := qTake s k e.srcQ 1
      l.head?.map fun f => (s, f.1, f.2)
  else (e.payload[e.sent]?).map fun f => (s, f.1, f.2)

/-- A payload flit of the head send leaves the tile; its last one ends the send (R51, R66). -/
def execPayloadFlitInject (t : TileId) (s : State) : Out :=
  let k := tileNo t
  match (tile s k).sendq with
  | [] => .next s
  | e :: r =>
    let q := inqOf s k 4
    if !e.headerOut || decide (8 ≤ q.length) then .next s
    else match nextPayload s k e with
      | none => .next s
      | some (s, f, p) =>
        let last := e.sent == e.len
        let s := setInq s k 4 (q ++ [{ data := f, kind := if last then 3 else 2, poison := p }])
        if last then
          .next (modTile s k fun x => { x with sendq := r })
        else .next (modTile s k fun x => { x with sendq := { e with sent := e.sent + 1 } :: r })

/-! ### Arrival and link errors (R171, R182) -/

/-- The message whose header or rectangle flit failed at input `i` is discarded at this router: counted, its cluster's
beat tainted (R182, R226). A failing rectangle takes its header with it. -/
def discardAt (s : State) (k i : Nat) (f : MFlit) (code : Nat) : State :=
  let b := tileBase k
  let s := incF (report s k code 3 (hSrc f.data)) b F.MSH_DROP_CNT_HDR 1
  let s := taint s (tileCluster k) (parity s k) code
  let s := if f.kind == 1 then setInq s k i ((inqOf s k i).dropLast) else s
  setWorm s k (8 + i) (some { outs := [], granted := [], discard := true })

/-- A flit with a good CRC, or one whose attempts ended, enters input `i`. -/
def enter (s : State) (k i : Nat) (f : MFlit) : State := setInq s k i (inqOf s k i ++ [f])

/-- Takes the flit off the sender's link. -/
def takeLink (s : State) (n d : Nat) : State := setLink s n d ((linkOf s n d).drop 1)

/-- A link's oldest flit arrives at input `d`. A bad CRC has it sent again; after four attempts a payload flit is accepted
poisoned, a header or rectangle flit discards its message, both with 0x13. A header or rectangle with bad parity discards
its message with 0xE0. -/
def execFlitArrival (t : TileId) (d : Fin 4) (crcBad parityBad : Bool) (s : State) : Out :=
  let k := tileNo t; let i := d.val; let b := tileBase k
  match neighbour k i with
  | none => .next s
  | some n =>
    let o := (i + 2) % 4
    match linkOf s n o with
    | [] => .next s
    | f :: r =>
      let hinge := crossesHinge n o
      if decide (8 ≤ (inqOf s k i).length) then .next s
      else
        let discarding := (wormOf s k (8 + i)).isSome
        let s := if crcBad && hinge then hingeCrc s (tileW n) (tileY n) else s
        if crcBad && decide (f.tries < 3) then
          .next (setLink (incF s b F.MSH_CRC_CNT_RETRIES 1) n o ({ f with tries := f.tries + 1 } :: r))
        else
          let s := takeLink s n o
          let s := if crcBad then setF (incF s b F.MSH_CRC_CNT_EXHAUSTED 1) b F.MSH_ERR_CRC_EXH else s
          if discarding then
            let s := if crcBad then report s k 0x13 3 0 else s
            .next (if f.kind == 3 then setWorm s k (8 + i) none else s)
          else if crcBad then
            if f.kind < 2 then .next (discardAt s k i f 0x13)
            else .next (enter (report s k 0x13 3 0) k i { f with poison := true, tries := 0 })
          else if parityBad && decide (f.kind < 2) then .next (setF (discardAt s k i f 0xE0) b F.MSH_ERR_HPAR)
          else .next (enter s k i { f with tries := 0 })

end Sys2Proof.Machine
end

