-- ==== Sys2Proof/Machine/Stream.lean ====
section
/-! DEFINITION. Edge streams (R258 to R269). -/

namespace Sys2Proof.Machine

/-- STR(n)'s block. -/
def strBase (n : Nat) : Nat := 64 * n
def strm (s : State) (n : Nat) : Strm := look {} s.streams n
def setStrm (s : State) (n : Nat) (v : Strm) : State := { s with streams := put {} s.streams n v }
def modStrm (s : State) (n : Nat) (f : Strm → Strm) : State := setStrm s n (f (strm s n))
def strF (s : State) (n : Nat) (f : Fld) : Nat := getF s (strBase n) f
def strOn (s : State) (n : Nat) : Bool := isF s (strBase n) F.STR_CFG_EN
def strKind (s : State) (n : Nat) : Nat := strF s n F.STR_CFG_KIND
def strWing (n : Nat) : Nat := n / 32768
def perBeat (s : State) (n : Nat) : Bool := strF s n F.STR_CFG_MODE == 1
def bankFlits (s : State) (n : Nat) : Nat := 16 * strF s n F.STR_CFG_BANKROWS

/-- Edge tile `i` of wing `w`, and the input of its router that the outward link feeds (R258). -/
def edgeTile (w i : Nat) : Nat × Nat :=
  if i < 1152 then (tileAt w i 0, 0)
  else if i < 2304 then (tileAt w (i - 1152) 671, 2)
  else if w == 0 then (tileAt 0 0 (i - 2303), 3) else (tileAt 1 1151 (i - 2303), 1)

def anchor (s : State) (n : Nat) : Nat × Nat := edgeTile (strWing n) (strF s n F.STR_CFG_ANCHOR)

/-- No transfer takes place: during a full load until every field has ecloded, and from parking until the engine has resumed
(R269). -/
def loadHolds (s : State) : Bool :=
  match s.load with
  | some l => !l.standby && !l.calve && anyLife s .instar
  | none => false
def streamsHeld (s : State) : Bool := loadHolds s || decide (4 ≤ getF s 0 F.PWR_STATUS_STATE)

/-- An enabled channel of the wing's ports names the stream, in the direction of its KIND (R272, R278). -/
def strNamed (s : State) (n : Nat) : Bool :=
  let k := strKind s n; let dir := b2n (k == 4 || k == 6)
  s.csr.any fun e =>
    decide (0x800000 ≤ e.1) && decide (e.1 < 0xA00000) && (e.1 - 0x800000) / 0x100000 == strWing n &&
      decide (0x1000 ≤ e.1 % 0x10000) && decide (e.1 % 0x10000 < 0x3000) &&
      (let v := e.2.toNat; bit v 63 && bits v 62 1 == dir && bits v 30 16 == n)

/-- A stream moves data. One of the fabric does so only through a channel that names it (R278). -/
def strRuns (s : State) (n : Nat) : Bool :=
  strOn s n && !(streamsHeld s) && (decide (strKind s n < 3) || strNamed s n)

/-! ### Arbitration (R266) -/

/-- The due time of what a stream holds; none for background traffic. -/
def dueOf (s : State) (n : Nat) : Option Nat :=
  let d := strF s n F.STR_SCHED_DEADLINE
  if d == 0 then none else some ((strm s n).base + d)

/-- Stream `m` is granted a resource before stream `n`: the earlier due time, then the lower number; background traffic last,
in round-robin. -/
def dueBefore (s : State) (res m n : Nat) : Bool :=
  match dueOf s m, dueOf s n with
  | some a, some b => decide (a < b) || (a == b && decide (m < n))
  | some _, none => true
  | none, some _ => false
  | none, none => let t := look 0 s.edge.turn res; decide ((m + 65536 - t) % 65536 < (n + 65536 - t) % 65536)

/-- A resource has served a stream. -/
def served (s : State) (res n : Nat) : State :=
  if (dueOf s n).isSome then s else { s with edge := { s.edge with turn := put 0 s.edge.turn res ((n + 1) % 65536) } }

/-- The stream of a list that a resource grants first. -/
def firstDue (s : State) (res : Nat) (l : List Nat) : Option Nat :=
  l.foldl (fun b n => match b with
    | none => some n
    | some m => if dueBefore s res n m then some n else some m) none

/-! ### Notices (R264, R267) -/

/-- A notice or error bit is set: the wing's stream source sees it in FRN.STR_PEND. -/
def strNote (s : State) (n : Nat) (f : Fld) : State := setF s (strBase n) f

/-- As `strNote`, with a condition when the bit was clear. -/
def strRaise (s : State) (n : Nat) (f : Fld) (code : Nat) : State :=
  if isF s (strBase n) f then s else condition (strNote s n f) (258 + strWing n) code

def strLevel (v : Strm) : Nat := v.prod.length + v.cons.length

/-- A threshold as it applies now: one written in a tc applies from the next. -/
def wmHi (s : State) (n : Nat) : Nat := if s.tc < (strm s n).wmFrom then (strm s n).hiOld else strF s n F.STR_WMARK_HI
def wmLo (s : State) (n : Nat) : Nat := if s.tc < (strm s n).wmFrom then (strm s n).loOld else strF s n F.STR_WMARK_LO

/-- The level has gone from `old` to what it is: crossings of the two thresholds are counted. -/
def strCross (s : State) (n old : Nat) : State :=
  let new := strLevel (strm s n); let b := strBase n
  let hi := wmHi s n; let lo := wmLo s n
  let s := if hi != 0 && decide (old < hi) && decide (hi ≤ new) then incF (strNote s n F.STR_WMARK_HI_SEEN) b F.STR_WMARK_HI_CROSS 1 else s
  if lo != 0 && decide (new ≤ lo) && decide (lo < old) then incF (strNote s n F.STR_WMARK_LO_SEEN) b F.STR_WMARK_LO_CROSS 1 else s

/-- Energy of a row: on its way in, and on its way out of a bank (Table 10.4). -/
def energyIn (kind : Nat) : Nat :=
  match kind with | 0 | 3 => 600 | 1 | 2 | 5 => 16400 | _ => 20500
def energyOut (kind : Nat) : Nat :=
  2000 + match kind with | 0 | 6 => 18000 | 1 | 2 | 4 => 600 | _ => 20500
def strEnergy (s : State) (n pj : Nat) : State := incF s (strBase n) F.STR_ENERGY_PJ pj

/-! ### Runs and firn reads (R260, R263) -/

/-- The address of the granule that stands `i` granules after STR.FIRN.ADDR. A stream reaches only its own wing's half
(R251). -/
def strAddr (s : State) (n i : Nat) : Nat := strWing n * 2 ^ 40 + (strF s n F.STR_FIRN_ADDR + 512 * i) % 2 ^ 40

/-- Granule `i` after the start position of a beat parity (R263). -/
def posAddr (s : State) (n par i : Nat) : Nat := strAddr s n (strF s n F.STR_SCHED_STRIDE * par + i)

/-- Where granule `i` of the run stands. -/
def runAddr (s : State) (n i : Nat) : Nat :=
  let v := strm s n
  if strKind s n == 2 then strAddr s n (v.list.getD i 0) else posAddr s n v.par i

/-- One more granule of the run is asked for, while its bank has room and, of a fetch list, while fewer than 64 are ahead.
A full controller makes it wait. -/
def askOne (s : State) (n : Nat) : State :=
  let v := strm s n
  let known := if strKind s n == 2 then v.list.length else v.total
  if v.run && decide (v.asked < known) && decide (v.rows.length < 64) &&
      decide (v.prod.length / 16 + v.rows.length < strF s n F.STR_CFG_BANKROWS) then
    let a := runAddr s n v.asked
    match firnPost s a (.read n v.key a) with
    | some s => modStrm s n fun v => { v with asked := v.asked + 1, key := v.key + 1, rows := v.rows ++ [{ key := v.key, addr := a }] }
    | none => firnBlock s (stackOf a) n
  else s

def askRows (s : State) (n : Nat) : State :=
  if strRuns s n then (List.range 64).foldl (fun s _ => askOne s n) s else s

/-- A run of a firn producer starts with a parity. -/
def runStart (s : State) (n p : Nat) : State :=
  askRows (modStrm s n fun v => { v with par := p, run := true, done := false, total := strF s n F.STR_FIRN_COUNT, asked := 0, got := 0,
                                         list := [], listLeft := none, pendRun := none }) n

def firnProducer (k : Nat) : Bool := k == 1 || k == 2 || k == 5

/-- The run's last granule has entered its bank: the bank is due, and a run that waited starts. -/
def runCheck (s : State) (n : Nat) : State :=
  let v := strm s n
  let ended := v.run && v.got == v.total && (strKind s n != 2 || v.listLeft == some 0)
  if ended then
    let s := modStrm s n fun v => { v with run := false, done := true, fin := !v.prod.isEmpty }
    match v.pendRun with
    | some p => runStart s n p
    | none => s
  else s

/-- A list flit from the anchor's queue: the count first, then 16-bit entries; at most 4,096 are taken (R260). -/
def listFlit (s : State) (n : Nat) (f : Flit) : State :=
  let v := strm s n
  let entry (i : Nat) : Nat := bits f.toNat (16 * i) 13
  match v.listLeft with
  | none =>
    let c := bits f.toNat 0 64
    let s := if 4096 < c then condition s (258 + strWing n) 0xF1 else s
    modStrm s n fun v => { v with total := min c 4096, listLeft := some (c - 12), list := ((List.range (min c 12)).map fun i => entry (4 + i)) }
  | some l =>
    modStrm s n fun v => { v with listLeft := some (l - 16),
                                  list := (v.list ++ (List.range (min l 16)).map entry).take 4096 }

/-! ### Moving flits (R261) -/

/-- The oldest whole flit of the anchor's source queue. -/
def srcFlit (s : State) (n : Nat) : Option Slot :=
  let l := (queueOf s (anchor s n).1 (strF s n F.STR_TILE_SRCQ)).dropWhile fun f => f.popped != 0
  match l with
  | f :: _ => if f.data.isSome then some f else none
  | [] => none

def srcTake (s : State) (n : Nat) : State := (qTake s (anchor s n).1 (strF s n F.STR_TILE_SRCQ) 1).1

/-- A side moves at most one flit per tc (R261): the next waits. -/
def prodWait (s : State) (n : Nat) : State :=
  let s := waitTc s (strm s n).inTc
  modStrm s n fun v => { v with inTc := s.tc + 1 }

/-- A flit enters the bank being filled; a row it completes adds its energy. -/
def pushFlit (s : State) (n : Nat) (f : SFlit) : State :=
  let s := prodWait s n
  let v := strm s n
  let old := strLevel v
  let s := modStrm s n fun v => { v with prod := v.prod ++ [f], first := if v.prod.isEmpty then s.tc else v.first
                                         rowAt := (v.rowAt + 1) % 16, head := f }
  let s := if f.poison then strNote s n F.STR_STAT_POISON else s
  let s := if v.rowAt == 15 then strEnergy s n (energyIn (strKind s n)) else s
  strCross s n old

/-- The next flit of a message that the stream drains (KIND 0 and 3): a short message is padded to a row. -/
def drainFlit (s : State) (n : Nat) : State :=
  let v := strm s n
  let inRow := v.rowAt != 0
  let prev := v.head
  let close (s : State) : State :=
    if (strm s n).rowAt == 0 && (strm s n).head.fin then modStrm s n fun v => { v with fin := true } else s
  if v.pad != 0 then close (pushFlit (modStrm s n fun v => { v with pad := v.pad - 1 }) n { prev with data := 0, poison := false })
  else match srcFlit s n with
    | none => s
    | some f =>
      let par := if perBeat s n then f.tag / 32768 else 0
      let pos := look 0 v.wpos par
      let e : SFlit :=
        if inRow then { prev with data := f.data.getD 0, poison := f.poison }
        else { data := f.data.getD 0, poison := f.poison, par, fin := strKind s n == 3 && bit f.tag 14
               addr := posAddr s n par pos }
      let s := srcTake s n
      let s := if inRow then s else modStrm s n fun v => { v with wpos := put 0 v.wpos par (pos + 1) }
      let s := pushFlit s n e
      close (if f.msg && f.last then modStrm s n fun v => { v with pad := (16 - v.rowAt) % 16 } else s)

/-- The next flit of the oldest row that has arrived; a row from the fabric takes the next firn position (KIND 6). -/
def rowFlitIn (s : State) (n : Nat) : State :=
  let v := strm s n
  match v.rows with
  | [] => s
  | r :: rest =>
    match r.data with
    | none => s
    | some (d, p) =>
      let j := v.rowAt
      let a := if strKind s n == 6 then (if j == 0 then posAddr s n v.par (look 0 v.wpos v.par) else v.head.addr) else r.addr
      let s := pushFlit s n { data := rowFlit d j, poison := p, addr := a, par := v.par, fin := r.fin }
      if j == 15 then
        let s := modStrm s n fun v => { v with rows := rest, got := v.got + 1, wpos := put 0 v.wpos v.par (look 0 v.wpos v.par + 1),
                                               fin := v.fin || r.fin }
        askRows (runCheck s n) n
      else s

/-- The producer's side moves a flit, while its bank has room and is not due. -/
def producerMove (s : State) (n : Nat) : State :=
  let v := strm s n; let k := strKind s n
  if v.fin || decide (bankFlits s n ≤ v.prod.length) then s
  else if k == 0 || k == 3 then drainFlit s n
  else if k == 2 && (v.rows.head?.all fun r => r.data.isNone) && v.run && v.listLeft != some 0 then
    match srcFlit s n with
    | some f => runCheck (askRows (listFlit (srcTake (prodWait s n) n) n (f.data.getD 0)) n) n
    | none => s
  else rowFlitIn s n

/-- The flit at the head of the bank handed over leaves it; the bank becomes empty with its last one. -/
def popFlit (s : State) (n : Nat) : State :=
  let s := waitTc s (strm s n).outTc
  let old := strLevel (strm s n)
  let s := modStrm s n fun v => { v with cons := v.cons.drop 1, empty := if v.cons.length ≤ 1 then s.tc else v.empty, outTc := s.tc + 1 }
  strCross s n old

/-- The header of a message that the stream sends (R259). -/
def strHeader (s : State) (n len par : Nat) : MFlit :=
  let k := (anchor s n).1
  let e : SendEnt := { id := 0, n := 0, bp := 0, dest := strF s n F.STR_TILE_DEST, rect := none, port := strF s n F.STR_TILE_PORT,
                       tag := strF s n F.STR_TILE_TAG + 32768 * par, len, cls := 0, kind := 0, srcQ := 0, payload := [] }
  { data := headerFlit k e (ageNow s (tileField k)), kind := 0 }

/-! The edge link -/

/-- The payload of a message is on its way. -/
def midMessage (v : Strm) : Bool := v.sent != 0 || !v.out.isEmpty

/-- The edge link that the stream's next flit takes. -/
def edgeOf (s : State) (n : Nat) : Nat × Nat := if midMessage (strm s n) then (strm s n).link else anchor s n
def linkNo (l : Nat × Nat) : Nat := 64 + 8 * l.1 + l.2

def toTile (k : Nat) : Bool := k == 1 || k == 2 || k == 4

/-- The stream has a flit for its edge link. -/
def linkReady (s : State) (n : Nat) : Bool :=
  !(streamsHeld s) && (!(strm s n).out.isEmpty || (strRuns s n && toTile (strKind s n) && !(strm s n).cons.isEmpty))

/-- The edge link is the stream's: it carries a message of it, or none, and no stream that is ready comes first (R266). -/
def linkGranted (s : State) (n : Nat) : Bool :=
  midMessage (strm s n) ||
    s.streams.all fun e => e.1 == n || edgeOf s e.1 != edgeOf s n ||
      (!(midMessage e.2) && !(linkReady s e.1 && dueBefore s (linkNo (edgeOf s n)) e.1 n))

/-- Flits enter the router at the end of the edge link, one per tc, as soon as the link and the stream's side are free. -/
def edgeIn (s : State) (n : Nat) (l : List MFlit) : State :=
  let (k, d) := edgeOf s n
  let res := linkNo (k, d)
  let s := served (waitTc s (max (strm s n).outTc (look 0 s.edge.linkTc res))) res n
  let s := { s with edge := { s.edge with linkTc := put 0 s.edge.linkTc res (s.tc + l.length) } }
  let s := modStrm s n fun v => { v with link := (k, d) }
  setInq s k d (inqOf s k d ++ l)
def edgeRoom (s : State) (n need : Nat) : Bool := let (k, d) := edgeOf s n; decide ((inqOf s k d).length + need ≤ 8)

/-- A flit that a broken message still owes its router moves; it belongs to no bank. -/
def outMove (s : State) (n : Nat) : State :=
  match (strm s n).out with
  | f :: r => if edgeRoom s n 1 && linkGranted s n then modStrm (edgeIn s n [f]) n fun v => { v with out := r } else s
  | [] => s

/-- The row that has left the bank whole goes to its controller, with the poison of its flits, or waits for it. -/
def rowOut (s : State) (n : Nat) : State :=
  let v := strm s n
  if v.held.length < 16 then s
  else
    let a := ((v.held.head?).map SFlit.addr).getD 0
    match firnPost s a (.write a (rowOfFlits (v.held.map SFlit.data)) (v.held.any SFlit.poison)) with
    | some s => strEnergy (modStrm s n fun v => { v with held := [] }) n (energyOut (strKind s n))
    | none => firnBlock s (stackOf a) n

/-- The poisoned granule that a pointer mismatch owes the firn (R265) goes to its controller, or waits for it. -/
def owedOut (s : State) (n : Nat) : State :=
  let v := strm s n
  if !v.owed then s
  else match firnPost s v.owedAt (.write v.owedAt (Config.freeRow s.free) true) with
    | some s => (nextFree (modStrm s n fun v => { v with owed := false })).1
    | none => firnBlock s (stackOf v.owedAt) n

def toFirn (k : Nat) : Bool := k == 0 || k == 6

/-- What a stream has for the controllers is asked for, or posted. -/
def firnAsk (s : State) (n : Nat) : State :=
  if !(strRuns s n) then s
  else if toFirn (strKind s n) then (let s := owedOut s n; if (strm s n).owed then s else rowOut s n)
  else askRows s n

/-- A controller that has taken transactions in full again grants those that wait for it, in the order of R266. -/
def firnServe (s : State) (st : Nat) : State :=
  (List.range (frnWait s st).who.length).foldl (fun s _ =>
    if 4096 ≤ (firnPending s st).length then s
    else match firstDue s st (frnWait s st).who with
      | none => s
      | some n =>
        let s := fullSettle s st
        let s := setFrnWait s st { frnWait s st with who := (frnWait s st).who.filter fun m => m != n }
        firnAsk (served s st n) n) s

/-- The consumer's side moves a flit: into the mesh, or of a row on its way to the firn, which is written once it is whole. Rows
for the fabric leave in frames. -/
def consumerMove (s : State) (n : Nat) : State :=
  let v := strm s n; let k := strKind s n
  if !v.out.isEmpty then outMove s n
  else match v.cons with
    | [] => if toFirn k then firnAsk s n else s
    | f :: _ =>
      if toTile k then
        let m : MFlit := { data := f.data, kind := if v.sent == 15 then 3 else 2, poison := f.poison }
        if edgeRoom s n (if v.sent == 0 then 2 else 1) && linkGranted s n then
          let s := edgeIn s n (if v.sent == 0 then [strHeader s n 15 f.par, m] else [m])
          let s := modStrm (popFlit s n) n fun v => { v with sent := (v.sent + 1) % 16 }
          if v.sent == 15 then strEnergy s n (energyOut k) else s
        else s
      else if toFirn k then
        let s := firnAsk s n
        if (strm s n).owed || decide (16 ≤ (strm s n).held.length) then s
        else firnAsk (popFlit (modStrm s n fun v => { v with held := v.held ++ [f] }) n) n
      else s

/-! ### Hand-over (R261, R262) -/

/-- The bank being filled is handed over. A row whose flits have not all come goes on in the other bank. -/
def handOver (s : State) (n : Nat) : State :=
  let v := strm s n
  if !v.cons.isEmpty || v.prod.isEmpty then s
  else askRows (modStrm s n fun v => { v with cons := v.prod, prod := [], pbank := 1 - v.pbank, fin := false,
                                              first := s.tc, missed := false }) n

/-- The banks swap (R261). -/
def execBankSwap (n : Fin 65536) (s : State) : Out :=
  let v := strm s n.val
  if strRuns s n.val && (v.fin || decide (bankFlits s n.val ≤ v.prod.length)) then .next (handOver s n.val) else .next s

/-- The timeout hands over a short bank (R262). -/
def execBankTimeout (n : Fin 65536) (s : State) : Out :=
  let n := n.val; let v := strm s n; let t := strF s n F.STR_SCHED_TIMEOUT
  if strRuns s n && t != 0 && v.cons.isEmpty && !v.prod.isEmpty && decide (v.prod.length < bankFlits s n) && !v.fin &&
      decide (max v.empty v.first + 16 * t ≤ s.tc) then
    .next (strRaise (incF (handOver s n) (strBase n) F.STR_STAT_FLUSHES 1) n F.STR_STAT_FLUSHED 0x2B)
  else .next s

/-- A bank of a stream with a deadline is not consumed by its due time (R266). -/
def execDeadlineMiss (n : Fin 65536) (s : State) : Out :=
  let n := n.val; let v := strm s n; let d := strF s n F.STR_SCHED_DEADLINE
  if strRuns s n && d != 0 && !v.cons.isEmpty && !v.missed && decide (v.base + d < s.tc) then
    let s := modStrm s n fun v => { v with missed := true }
    .next (strRaise (incF s (strBase n) F.STR_STAT_MISSES 1) n F.STR_STAT_DL_MISS 0xF2)
  else .next s

/-! ### Pointer mismatch (R265) -/

/-- The payload flits that a message broken off still owes its routers, poisoned. -/
def breakOff (v : Strm) : List MFlit :=
  if v.sent == 0 then v.out
  else v.out ++ (List.range (16 - v.sent)).map fun j => { data := 0, kind := if v.sent + j == 15 then 3 else 2, poison := true }

/-- Both banks empty, the run at its start; a message broken off is completed. -/
def emptyBanks (s : State) (n : Nat) : State :=
  modStrm s n fun v => { v with prod := [], cons := [], fin := false, rows := [], asked := 0, got := 0, wpos := put 0 v.wpos v.par 0,
                                pad := 0, sent := 0, held := [], rowAt := 0, out := breakOff v, empty := s.tc, first := s.tc, missed := false }

/-- A duplicated pointer does not match: the stream goes back to its run start and its consumer gets one poisoned flit, granule
or frame, with 0x2A each time. -/
def pointerReset (s : State) (n : Nat) : State :=
  let k := strKind s n
  let s := emptyBanks s n
  let s := condition (strNote (incF s (strBase n) F.STR_STAT_PTR_RESETS 1) n F.STR_STAT_PTR) (258 + strWing n) 0x2A
  if toTile k then
    let s := modStrm s n fun v => { v with link := anchor s n, out := v.out ++ [strHeader s n 0 v.par, { data := Config.freeFlit s.free, kind := 3, poison := true }] }
    askRows (nextFree s).1 n
  else firnAsk (modStrm s n fun v => { v with owed := true, owedAt := posAddr s n v.par 0 }) n

/-! ### Beats, rollbacks (R263, R269) -/

/-- A beat of parity `p` opens in the anchor's field at tc `o`: positions return, short banks of the parity are handed over,
runs start. -/
def strBeatOpen (s : State) (n p o : Nat) : State :=
  if !(strOn s n) || !(perBeat s n) then s
  else
    let k := strKind s n
    let s := modStrm s n fun v => { v with base := o }
    if firnProducer k then
      if (strm s n).run then modStrm s n fun v => { v with pendRun := some p } else runStart s n p
    else
      let s := if k == 0 && ((strm s n).prod.any fun f => f.par == p) then handOver (modStrm s n fun v => { v with fin := true }) n else s
      modStrm s n fun v => { v with wpos := put 0 v.wpos p 0, par := p }

/-- Streams that are enabled, in order. -/
def strEnabled (s : State) : List Nat :=
  (s.csr.filter fun e => decide (0x1000000 ≤ e.1) && decide (e.1 < 0x1400000) && e.1 % 64 == 0 && bit e.2.toNat 63).map
    fun e => (e.1 - 0x1000000) / 64

/-- A field's beat opens: the streams anchored in it see it. -/
def anchorsOpen (s : State) (f p o : Nat) : State :=
  (strEnabled s).foldl (fun s n => if tileField (anchor s n).1 == f then strBeatOpen s n p o else s) s

/-- A rollback or a restart: banks emptied, positions and runs at their start (R269). -/
def strRestart (s : State) (n : Nat) : State :=
  let s := emptyBanks s n
  let s := modStrm s n fun v => { v with run := false, done := false, list := [], listLeft := none, pendRun := none, wpos := [], par := 0, owed := false }
  if strOn s n && !(perBeat s n) && firnProducer (strKind s n) then runStart s n 0 else s
def streamsRestart (s : State) : State := (s.streams.map Prod.fst).foldl strRestart s

/-! ### Enabling (R269) -/

/-- Banks of an enabled stream of the same wing overlap those of stream `n`. -/
def strOverlap (s : State) (n : Nat) : Bool :=
  let a := strF s n F.STR_CFG_BUFBASE; let b := a + 2 * strF s n F.STR_CFG_BANKROWS
  (strEnabled s).any fun m => m != n && strWing m == strWing n &&
    (let c := strF s m F.STR_CFG_BUFBASE; decide (a < c + 2 * strF s m F.STR_CFG_BANKROWS) && decide (c < b))

/-- Streams that a replica takes are refused to the program (R295). -/
def strReserved (s : State) (n : Nat) : Bool := n % 32768 == 32767 && getF s 0 F.FAB_POLICY_REPLICA != 0xFFFF

/-- A write of EN from 0 to 1 is refused. -/
def strRefused (s : State) (n : Nat) : Bool :=
  let k := strKind s n; let d := strF s n F.STR_TILE_DEST
  strOverlap s n || decide (131072 < strF s n F.STR_CFG_BUFBASE + 2 * strF s n F.STR_CFG_BANKROWS) ||
    strF s n F.STR_FIRN_ADDR / 2 ^ 40 != strWing n ||
    bit d 22 || decide (1151 < bits d 0 11) || decide (671 < bits d 11 10) || decide (7 < strF s n F.STR_TILE_PORT) ||
    decide (2973 < strF s n F.STR_CFG_ANCHOR) || k == 7 || strReserved s n

/-- A write of STR.CFG(n). -/
def writeStrCfg (s : State) (n : Nat) (v : Word) : State :=
  let a := strBase n + F.STR_CFG_EN.off
  if strOn s n then
    if bit v.toNat 63 then s
    else
      let s := putF s (strBase n) F.STR_CFG_EN 0
      setStrm s n { out := breakOff (strm s n), link := (strm s n).link, key := (strm s n).key }
  else
    let s := plainWrite s a (v &&& ~~~(BitVec.ofNat 64 (2 ^ 63)))
    if !(bit v.toNat 63) then s
    else if strRefused s n then condition s (258 + strWing n) 0xF1
    else
      let s := setF s (strBase n) F.STR_CFG_EN
      let s := modStrm s n fun x => { x with base := s.tc, empty := s.tc, first := s.tc, par := 0 }
      if !(perBeat s n) && firnProducer (strKind s n) then runStart s n 0 else s

def execStreamEnable (n : Fin 65536) (v : Word) (s : State) : Out := .next (writeStrCfg s n.val (v ||| BitVec.ofNat 64 (2 ^ 63)))
def execStreamDisable (n : Fin 65536) (v : Word) (s : State) : Out := .next (writeStrCfg s n.val (v &&& ~~~(BitVec.ofNat 64 (2 ^ 63))))

/-- A write of a stream register: while EN is 1 only EN, the thresholds, DEADLINE and TIMEOUT take it. -/
def strWrite (s : State) (n off : Nat) (v : Word) : State :=
  let a := strBase n + F.STR_CFG_EN.off + off
  if off == 0 then writeStrCfg s n v
  else if off == 0x28 then
    let hi := wmHi s n; let lo := wmLo s n
    plainWrite (modStrm s n fun x => { x with wmFrom := s.tc + 1, hiOld := hi, loOld := lo }) a v
  else if off == 0x30 then plainWrite s a v
  else if strOn s n then
    if off == 0x18 then putF (putF s (strBase n) F.STR_SCHED_TIMEOUT (bits v.toNat 32 16)) (strBase n) F.STR_SCHED_DEADLINE (bits v.toNat 0 26)
    else s
  else plainWrite s a v

/-- STR.LEVEL(n) as it stands. -/
def strView (s : State) (n off : Nat) : Nat :=
  let w := rd s (strBase n + F.STR_CFG_EN.off + off); let v := strm s n
  if off == 0x20 then
    let pos := if firnProducer (strKind s n) then v.got else look 0 v.wpos v.par
    let st := if !(strOn s n) then 0 else if streamsHeld s then 3 else if v.done then 2 else 1
    patch (patch (patch (patch (patch w F.STR_LEVEL_POS pos) F.STR_LEVEL_STATE st) F.STR_LEVEL_CFULL (b2n (!v.cons.isEmpty)))
      F.STR_LEVEL_PBANK v.pbank) F.STR_LEVEL_LEVEL (strLevel v)
  else w

end Sys2Proof.Machine
end

