-- ==== Sys2Proof/Machine/Driftline.lean ====
section
/-! DEFINITION. Driftline frames: their bytes on the wire, their addresses, and how a port sends one (R275, R277, R283, R287). -/

namespace Sys2Proof.Machine

/-! ### Layout (Tables 11.2 and 11.3) -/

/-- The Driftline header, least significant byte first. -/
def dlHeader (f : Frame) : List Byte :=
  toBytes 1 (f.ver.toNat + 16 * f.op.toNat) ++ toBytes 1 (b2n f.isEnd + 2 * b2n f.retx) ++ toBytes 2 f.srcId.toNat ++
    toBytes 2 f.dstId.toNat ++ toBytes 2 f.chan.val ++ toBytes 2 f.epoch.toNat ++ toBytes 2 (f.rows.length - 1) ++
    toBytes 2 f.poison.toNat ++ toBytes 2 f.tag.val ++ toBytes 4 f.seq.toNat ++ toBytes 8 f.operand.toNat ++ toBytes 4 0

/-- Header and payload: the rows of DATA, or what Jitor defines for MGMT (Table 11.4). -/
def dlBody (f : Frame) : List Byte := dlHeader f ++ (f.rows.flatMap fun r => toBytes 512 r.toNat) ++ f.mgmt

/-- One byte of the CRC-32 of IEEE 802.3, the polynomial reflected. -/
def fcsByte (crc : Nat) (b : Byte) : Nat :=
  (List.range 8).foldl (fun c _ => if c % 2 == 1 then c / 2 ^^^ 0xEDB88320 else c / 2) (crc ^^^ b.toNat)
def fcs (bs : List Byte) : Nat := bs.foldl fcsByte 0xFFFFFFFF ^^^ 0xFFFFFFFF

/-- An Ethernet field, most significant byte first. -/
def netBytes (n v : Nat) : List Byte := (toBytes n v).reverse

/-- The Ethernet frame up to its frame check sequence, padded to the minimum of 60 bytes; MACsec, which adds a SecTAG and an ICV
and enciphers the rest, is left out. -/
def dlEther (f : Frame) : List Byte :=
  let l := netBytes 6 f.dest.toNat ++ netBytes 6 f.mac.toNat ++
    (match f.vlan with | some t => netBytes 2 0x8100 ++ netBytes 2 t.toNat | none => []) ++
    netBytes 2 f.etype.toNat ++ dlBody f ++ toBytes 4 (crc32c (dlBody f))
  l ++ toBytes (60 - l.length) 0

/-- The frame's bytes in the order in which they are sent. -/
def dlBytes (f : Frame) : List Byte := dlEther f ++ toBytes 4 (fcs (dlEther f))

/-! ### Ports and peers -/

/-- FAB(p)'s block. -/
def fab (p : Nat) : Nat := 65536 * p
def portState (s : State) (p : Nat) : Nat := getF s (fab p) F.FAB_STATUS_STATE
def portUp (s : State) (p : Nat) : Bool := portState s p == 2
def peerId (s : State) (p i : Nat) : Nat := getF s (fab p) (F.FAB_PEER_ID.at (8 * i))

/-- FAB.MAC(p), from NVS in phase 1 (R11). -/
def macOf (s : State) (p : Nat) : BitVec 48 := if phase s < 2 then 0 else Config.mac p
def broadcast : BitVec 48 := BitVec.ofNat 48 (2 ^ 48 - 1)

/-- A frame for peer entry `i` of a port: its identifier, and its MAC address, or the broadcast address while the entry is
empty. -/
def toPeer (s : State) (p i : Nat) (f : Frame) : Frame :=
  let id := peerId s p i
  { f with dstId := BitVec.ofNat 16 id, dest := if id == 0xFFFF then broadcast else BitVec.ofNat 48 (getF s (fab p) (F.FAB_PEER_MAC.at (8 * i))) }

/-- A frame's common header fields. -/
def mgmtFrame (s : State) (op operand : Nat) : Frame :=
  { op := BitVec.ofNat 4 op, srcId := BitVec.ofNat 16 (getF s 0 F.FAB_DOM_ID), epoch := BitVec.ofNat 16 (getF s 0 F.FAB_DOM_EPOCH),
    operand := BitVec.ofNat 64 operand }

/-- What the port itself puts into every frame (Table 11.2): its address, the 802.1Q tag, the EtherType, MACsec. -/
def stamp (s : State) (p : Nat) (f : Frame) : Frame :=
  let b := fab p
  { f with mac := macOf s p, etype := BitVec.ofNat 16 (getF s 0 F.FAB_DOM_CFG_ETYPE), sec := isF s b F.FAB_MACSEC_EN
           an := BitVec.ofNat 2 (look {} s.ports p).an
           vlan := if isF s b F.FAB_CFG_VLAN_EN then
             some (BitVec.ofNat 16 (getF s b F.FAB_CFG_PCP * 2 ^ 13 + getF s b F.FAB_CFG_VID)) else none }

/-- A port sends frames while UP, heartbeats also while LOST (Table 11.1), and nothing but management frames during a full load
(R283). -/
def maySend (s : State) (p : Nat) (f : Frame) : Bool :=
  (portUp s p || (f.op == 2 && portState s p == 3)) && (decide (2 ≤ f.op.toNat) || !(loadHolds s))

/-- A frame leaves a port. -/
def sendFrame (s : State) (p : Nat) (f : Frame) : State :=
  if !(maySend s p f) then s
  else
    let s := { s with dom := { s.dom with out := s.dom.out ++ [(p, stamp s p f)] },
                      ports := put {} s.ports p (let v := look {} s.ports p; { v with pn := v.pn + 1 }) }
    incF s (fab p) F.FAB_CNT_TX 1

end Sys2Proof.Machine
end

