-- ==== Sys2Proof/Machine/Dvfs.lean ====
section
/-! DEFINITION. The tile frequency, and times in tile cycles (R176, R301, R325). -/

namespace Sys2Proof.Machine

/-- The highest frequency of each rail code (Table 12.2), MHz. -/
def railTop : List Nat := [600, 700, 800, 900, 1000, 1100, 1250, 1320, 1400]

/-- The lowest rail code that allows a frequency. -/
def railFor (f : Nat) : Nat := (railTop.filter fun x => decide (x < f)).length

/-- The hubs' age unit: max(1, ceil(L / 128)) with L the beat's length in tc (R176). -/
def setAgeUnits (s : State) : State :=
  (List.range 168).foldl (fun s f =>
    let b := fieldBase f
    putF s b F.RIM_AGE_CFG_UNIT (max 1 (ceilDiv (nsTc s (getF s b F.FLD_BEAT_PER_PERIOD)) 128))) s

/-- A frequency that waits takes effect: at a beat tick, or at once while none runs. With a higher rail than it needs, the
voltage then steps down (R301). In the safe state it is deferred (R330). -/
def takeFreq (s : State) : State :=
  match if isF s 0 F.CLK_STATUS_SAFE then none else s.power.freqPend with
  | none => s
  | some f =>
    let s := putF s 0 F.PWR_DVFS_FREQ_NOW f
    let s := putF (putF s (wingBase 0) F.WNG_PLL_FREQ_MHZ f) (wingBase 1) F.WNG_PLL_FREQ_MHZ f
    let down := decide (railFor f < getF s 0 F.PWR_DVFS_VCODE)
    let s := putF s 0 F.PWR_DVFS_BUSY (b2n down)
    setAgeUnits { s with power := { s.power with freqPend := none, freqGoal := if down then some f else none } }

/-- As `takeFreq` where no tick runs. -/
def settleFreq (s : State) : State := if s.beats.running then s else takeFreq s

/-- The engine is asked for a frequency: the voltage rises first, or the frequency falls first (R301). A change already
under way ends first. -/
def askFreq (s : State) (f : Nat) : State :=
  if s.power.freqGoal.isSome then { s with power := { s.power with freqAsked := some f } }
  else if f == freq s then s
  else if getF s 0 F.PWR_DVFS_VCODE < railFor f then
    setF { s with power := { s.power with freqGoal := some f } } 0 F.PWR_DVFS_BUSY
  else settleFreq { s with power := { s.power with freqPend := some f, freqGoal := some f } }

/-- The frequency asked for during a change is gone to once that has ended. -/
def freqNext (s : State) : State :=
  match s.power.freqAsked with
  | some f => if s.power.freqGoal.isSome then s else askFreq { s with power := { s.power with freqAsked := none } } f
  | none => s

/-- As `takeFreq`, and on to what was asked for meanwhile. -/
def applyFreq (s : State) : State := freqNext (takeFreq s)

/-- A step of the core rail ends: up towards the goal, whose frequency then waits for its tick, or down. -/
def voltageStep (s : State) : State :=
  if !(isF s 0 F.PWR_DVFS_BUSY) then s
  else match s.power.freqGoal with
    | none => putF s 0 F.PWR_DVFS_BUSY 0
    | some f =>
      let v := getF s 0 F.PWR_DVFS_VCODE; let goal := railFor f
      if v < goal then
        let s := putF s 0 F.PWR_DVFS_VCODE (v + 1)
        if v + 1 == goal then settleFreq { putF s 0 F.PWR_DVFS_BUSY 0 with power := { s.power with freqPend := some f } } else s
      else if goal < v then
        let s := putF s 0 F.PWR_DVFS_VCODE (v - 1)
        if v - 1 == goal then { putF s 0 F.PWR_DVFS_BUSY 0 with power := { s.power with freqGoal := none } } else s
      else putF s 0 F.PWR_DVFS_BUSY 0

def execVoltageStepDone (s : State) : Out := .next (freqNext (voltageStep s))

end Sys2Proof.Machine
end

