-- ==== Sys2Proof/Machine/Beat.lean ====
section
/-! DEFINITION. Beats: the tick train, opening, tails, seals, freezing (R193 to R203, R396). -/

namespace Sys2Proof.Machine

def joined (s : State) : Bool := isF s 0 F.FAB_DOM_JOINED

/-! ### The tick train (R396) -/

/-- Number of the next tick. -/
def nextTick (s : State) : Nat := if s.beats.ticked then s.beats.no + 1 else s.beats.no

/-- A period in tc. -/
def periodTc (s : State) : Nat := nsTc s s.beats.period

/-- tc of tick `m`: T(m). -/
def tickTc (s : State) (m : Nat) : Nat :=
  if nextTick s ≤ m then s.beats.due + (m - nextTick s) * periodTc s else s.beats.due - (nextTick s - m) * periodTc s

/-- The first tick at or after tc `x`. -/
def tickFrom (s : State) (x : Nat) : Nat :=
  let n := nextTick s; let l := max 1 (periodTc s)
  if s.beats.due ≤ x then n + ceilDiv (x - s.beats.due) l
  else if s.beats.ticked then n - (s.beats.due - x) / l else n

/-- The first beat after a barrier now: the first tick at least 2 us on (R202). -/
def barrierBeat (s : State) : Nat := tickFrom s (s.tc + waferTc 2)

/-- The ports that send TICK frames: TICK_OUT set and UP (R288); none in the safe state (R330). -/
def tickPorts (s : State) : List Nat :=
  if isF s 0 F.CLK_STATUS_SAFE then [] else (List.range 32).filter fun p => isF s (65536 * p) F.FAB_CFG_TICK_OUT && getF s (65536 * p) F.FAB_STATUS_STATE == 2

/-! ### The commit tree (R290) -/

def isRoot (s : State) : Bool := joined s && getF s 0 F.FAB_DOM_TICKPORT == 4

/-- The commit children of the engine: of a row head its slots, of a sector head its row heads, of the root the sector
heads. -/
def children (s : State) : List Nat :=
  let id := getF s 0 F.FAB_DOM_ID
  let slots := (List.range (getF s 0 F.FAB_DOM_NSLOTM1)).map fun i => id + i + 1
  let rows := (List.range (getF s 0 F.FAB_DOM_NROWM1)).map fun i => id + 32 * (i + 1)
  let secs := (List.range (getF s 0 F.FAB_DOM_NSECTM1)).map fun i => id + 1024 * (i + 1)
  (if id % 32 == 0 then slots else []) ++ (if id % 1024 == 0 then rows else []) ++ (if id == 0 then secs else [])

/-- An UP port that reaches an engine, and the peer entry of it that names the engine. -/
def portTo (s : State) (id : Nat) : Option (Nat × Nat) :=
  (List.range 32).findSome? fun p =>
    if portUp s p then ((List.range 64).find? fun i => peerId s p i == id).map fun i => (p, i) else none

/-- An ORDER goes down the commit tree: its kind, its step or tick, and the epoch it carries (Table 11.4). -/
def orderDown (s : State) (kind v epoch : Nat) : State :=
  (children s).foldl (fun s id =>
    match portTo s id with
    | some (p, i) => sendFrame s p (toPeer s p i { mgmtFrame s 5 (kind + 16 * v) with epoch := BitVec.ofNat 16 epoch })
    | none => s) s

/-- After a rollback the engine holds the restored checkpoint, and its tick is the domain's (R239, R333). -/
def restored (s : State) : Bool := s.dom.rolled && !s.dep.stuck && s.dep.calves.isEmpty && !(isF s 0 F.CLK_STATUS_SAFE) && s.clocks.realigned

/-- A calving is in progress (R247). -/
def calving (s : State) : Bool := (List.range 168).any fun f => isF s (fieldBase f) F.FLD_CALVE_STAT_PHASE

/-- The engine stays FROZEN: a calving runs, or one has left a cluster unbacked and no image has been loaded since (R245,
R250). -/
def mustStay (s : State) : Bool := calving s || s.dep.stuck

/-! ### Barriers (R202) -/

/-- A barrier for a field: its next pulse opens the first beat after it, with the ramp. -/
def fieldBarrier (s : State) (f : Nat) : State :=
  modField s f fun v => { v with nextNo := some (barrierBeat s), ramp := true, withheld := false }

/-- FAB.STEP changes, which pulses source 320 (Table 15.1). -/
def putStep (s : State) (id st : Nat) : State :=
  if getF s 0 F.FAB_STEP_ID == id && getF s 0 F.FAB_STEP_STATE == st then s
  else pulse (putF (putF s 0 F.FAB_STEP_ID id) 0 F.FAB_STEP_STATE st) 320

/-- A step opens with the first beat after a barrier (R292, R294). -/
def stepBarrier (s : State) : State :=
  match s.dom.opens with
  | none => s
  | some id =>
    let s := { s with dom := { s.dom with opens := none, first := some (barrierBeat s), running := some id } }
    putStep s id 0

/-- A frozen field goes on, at a barrier (R202, R203). Before START it opens no beat (R212). -/
def thawField (s : State) (f : Nat) : State :=
  if fieldFrozen s f then
    let s := setLifeField s f { st := .live }
    let s := modField s f fun v => { v with freezeReq := none, forced := false, timedOut := false, rampAt := some s.tc }
    if (field s f).started then fieldBarrier s f else s
  else s

/-- THAW: every frozen field, and an exchange that waits moves to the first beat after it (R215). -/
def thawAll (s : State) : State :=
  let s := (List.range 168).foldl thawField (stepBarrier s)
  { s with exch := s.exch.map fun x => { x with beat := barrierBeat s }, dom := { s.dom with ckptFreeze := false } }

/-! ### Freezing (R203) -/

/-- The beats a field has open are given up or stand as left: it counts them as past. -/
def dropBeats (s : State) (f : Nat) : State := modField s f fun v => { v with beats := [], seals := v.pulses }

/-- The last beat SEALED engine-wide. -/
def lastSealed (s : State) : Nat :=
  (List.range 168).foldl (fun n f => min n ((field s f).lastSealed.getD 0)) ((field s 0).lastSealed.getD 0)

/-- A freeze is under way. -/
def freezing (s : State) : Bool := (List.range 168).any fun f => (field s f).freezeReq.isSome && !(fieldFrozen s f)
def anyFrozen (s : State) : Bool := (List.range 168).any fun f => fieldFrozen s f
def anyForced (s : State) : Bool := (List.range 168).any fun f => (field s f).forced
def anyTimedOut (s : State) : Bool := (List.range 168).any fun f => (field s f).timedOut

/-- Once every field has frozen: FREEZE answers, with 0x33 where one reached its limit, and a THAW that waited goes on. -/
def freezeEnd (s : State) : State :=
  if freezing s then s
  else
    let s := respondAll s (· == .freeze) (if anyTimedOut s then 0x33 else 0) [lastSealed s]
    if (waiters s (· == .thaw)).isEmpty && !s.dom.thawWait then s
    else
      let n := barrierBeat s
      respondAll (thawAll { s with dom := { s.dom with thawWait := false } }) (· == .thaw) 0 [n]

/-- A field's tiles enter FROZEN. -/
def freezeNow (s : State) (f : Nat) : State := setLifeField (modField s f fun v => { v with frozenAt := s.tc }) f { st := .frozen }

/-- A freeze reaches a field's hub: it opens nothing more, and is FROZEN at once if nothing is open. -/
def freezeField (s : State) (f : Nat) : State :=
  if (look {} s.lifeF f).st == .live && (field s f).freezeReq.isNone then
    let s := modField s f fun v => { v with freezeReq := some s.tc }
    if (field s f).beats.isEmpty then freezeNow s f else s
  else s

/-- The root broadcasts a freeze. -/
def freezeAll (s : State) : State :=
  freezeEnd ((List.range 168).foldl freezeField { s with dom := { s.dom with ckptFreeze := false } })

/-- The replay records and targeted reads of a field's clusters are discarded (Table 09.3). -/
def dropRecords (s : State) (f : Nat) : State :=
  (fieldClusters f).foldl (fun s c =>
    if (cluster s c).records.isEmpty && (cluster s c).scrubWait.isEmpty then s
    else modCluster s c fun v => { v with records := [], scrubWait := [], targeted := [] }) s

/-- A field is forced FROZEN, its open beats standing as they were left. -/
def forceField (s : State) (f : Nat) : State := dropRecords (dropBeats (freezeNow s f) f) f

/-- A freeze with the limit taken as 0, without 0x33 (R199, R239). -/
def freezeZero (s : State) : State :=
  let s := (List.range 168).foldl (fun s f =>
    if (look {} s.lifeF f).st == .live then forceField (modField s f fun v => { v with freezeReq := some s.tc, forced := v.forced || !v.beats.isEmpty }) f
    else s) s
  freezeEnd s

/-! ### Open pulses (R195, R199) -/

/-- tc at which field `f` opens beat `n` on schedule. -/
def openTc (s : State) (f n : Nat) : Nat := tickTc s n + f % 84 * getF s (fieldBase f) F.FLD_BEAT_SKEW_SKEW

/-- tc at which its open pulse is scheduled. -/
def pulseTc (s : State) (f n : Nat) : Nat := openTc s f n - 500

/-- A field may open beat `n` but for the seal gate. -/
def mayOpen (s : State) (f n : Nat) : Bool :=
  (look {} s.lifeF f).st == .live && s.beats.running && getF s (fieldBase f) F.FLD_BEAT_PER_PERIOD != 0 &&
    (field s f).freezeReq.isNone && !(field s f).withheld && !(stepFull s n)

/-- The pulse of beat `n` goes out. -/
def issuePulse (s : State) (f n opens : Nat) : State :=
  let p := 1 - (field s f).par
  modField s f fun v =>
    { v with par := p, pulses := v.pulses + 1, nextNo := some (n + 1), ramp := false,
             beats := v.beats ++ [{ no := n, parity := p, openTc := opens, ramp := v.ramp }] }

/-- A field opens a beat, which the first of its tiles to open it shows: it is counted, and what was kept of the last beat of
its parity goes: the flags, and every record and targeted read that still awaits its outcome (R161, R226). -/
def fieldOpen (s : State) (f : Nat) (e : OpenBeat) : State :=
  if e.opened then s
  else
    let p := e.parity
    let s := modField s f fun v =>
      { v with openNo := some e.no, beats := v.beats.map (fun b => if b.no == e.no then { b with opened := true } else b),
               dropRaised := false, taintRaised := put false v.taintRaised p false, suspectSeen := put false v.suspectSeen p false }
    let s := { s with power := { s.power with droopRaised := put false s.power.droopRaised f false } }
    let s := (fieldClusters f).foldl (fun s c =>
      if cluster s c == {} then s
      else modCluster s c fun v =>
        { v with taint := put false v.taint p false, tgtOvf := put false v.tgtOvf p false,
                 records := v.records.filter fun r => r.parity != p, scrubWait := v.scrubWait.filter fun x => x.2 != p,
                 targeted := v.targeted.filter fun x => x.2 != p }) s
    anchorsOpen (wrapF s (fieldBase f) F.FLD_BEAT_STAT_OPEN_NO 1) f p e.openTc

/-- MARGIN before the scheduled pulse of beat n + 2, what beat n still leaves unserved is served by force, or resolves (R233,
R236). -/
def execReplayForce (f : FieldId) (s : State) : Out :=
  match (field s f.val).nextNo with
  | some n => .next (if s.beats.running then forceServe s f.val n (pulseTc s f.val n) else s)
  | none => .next s

/-- A hub issues an open pulse at its scheduled time, once the beat before the last is sealed (R199). -/
def execOpenPulse (f : FieldId) (s : State) : Out :=
  let f := f.val
  match (field s f).nextNo with
  | none => .next s
  | some n =>
    if mayOpen s f n && decide ((field s f).beats.length ≤ 1) then
      .next (issuePulse (waitTc s (pulseTc s f n)) f n (openTc s f n))
    else .next s

/-! ### A tile's beat (R65, R66, R196) -/

/-- Beats the tile has opened, and has ended, counting those given up. -/
def seenOf (s : State) (k : Nat) : Nat := max (tile s k).seen (field s (tileField k)).seals
def tailsOf (s : State) (k : Nat) : Nat := max (tile s k).tails (field s (tileField k)).seals

/-- Beat `j` of the tile's field, counted from the load, if it is open. -/
def beatAt (s : State) (f j : Nat) : Option OpenBeat := (field s f).beats[j - (field s f).seals]?

/-- The beat opens in the tile. -/
def tileOpen (s : State) (k : Nat) (e : OpenBeat) (ramp : Bool) : State :=
  let b := tileBase k; let p := e.parity
  let s := fieldOpen s (tileField k) e
  let s := putF (wrapF (putF s b F.TSQ_BEAT_PARITY p) b F.TSQ_BEAT_BEAT_NO 1) b F.TSQ_BEAT_PHASE 0
  let s := modTile s k fun t => { t with seen := seenOf s k + 1, openNo := some e.no, ended := Sparse.drop (fun i => i / 8 == p) t.ended, exchWait := false }
  let s := (List.range 8).foldl (fun s n =>
    if !(bit (getF s b F.TSQ_BEATCFG_START_MASK) n) then s
    else if ctxState s k n == 0 || ctxState s k n == 2 then startCtx s k n p
    else incF s b F.TSQ_STATUS_START_MISS 1) s
  let s := (List.range 16).foldl (fun s c =>
    if isF s b (F.TSQ_CTR_SRC_BCLR.at (8 * c)) then putF s b (F.TSQ_CTR_COUNT.at (8 * c)) 0 else s) s
  let s := sourceEvent s k 2 0
  let s := putF s b F.SPU_VERIFY_CNT_BEAT_MISS 0
  let s := if ramp then rampTrigger s k else s
  phaseUpdate s k

/-- A tile's beat opens at its field's open. The beat of an exchange waits for it (R214). -/
def execBeatOpen (t : TileId) (s : State) : Out :=
  let k := tileNo t; let f := tileField k
  if life s k != .live || (tile s k).exchWait then .next s
  else match beatAt s f (seenOf s k) with
    | none => .next s
    | some e =>
      let w := waitTc s e.openTc
      if s.exch.any fun x => x.beat == e.no && !x.done.contains k then .next (modTile w k fun t => { t with exchWait := true })
      else .next (tileOpen w k e e.ramp)

/-- No send of the beat's contexts is left in the send queue, and no row store outstanding (R66). -/
def workDone (s : State) (k p : Nat) : Bool :=
  let inMask (n : Nat) : Bool := bit (getF s (tileBase k) F.TSQ_BEATCFG_BEAT_MASK) n
  !((tile s k).sendq.any fun e => e.bp == p && inMask e.n) &&
    (List.range 8).all fun n => !(inMask n) || look 0 (tile s k).storesOut (8 * p + n) == 0

/-- A tile signals tail done for the oldest beat it has open (R66). -/
def execTailDone (t : TileId) (s : State) : Out :=
  let k := tileNo t; let f := tileField k; let j := tailsOf s k
  if life s k != .live && life s k != .frozen then .next s
  else if seenOf s k ≤ j then .next s
  else match beatAt s f j with
    | none => .next s
    | some e =>
      if maskEnded s k e.parity && workDone s k e.parity then
        let s := modTile s k fun t => { t with tails := j + 1 }
        .next (modField s f fun v => { v with beats := v.beats.map fun b => if b.no == e.no then { b with tailMax := max b.tailMax (s.tc - b.openTc) } else b })
      else .next s

/-- DETAIL of condition 0x30 (Table 08.2). -/
def overrunDetail (s : State) (k p : Nat) : Nat :=
  let b := tileBase k
  let open_ (n : Nat) : Bool := bit (getF s b F.TSQ_BEATCFG_BEAT_MASK) n && !(look false (tile s k).ended (8 * p + n))
  let w (n : Nat) : Nat := if ctxState s k n == 1 then why s k n else 0
  ((List.range 8).map fun n => b2n (open_ n) * 2 ^ n).sum + ((List.range 8).map fun n => w n * 2 ^ (8 + 3 * n)).sum +
    b2n ((tile s k).sendq.any fun e => e.bp == p) * 2 ^ 32 +
    b2n ((List.range 8).any fun n => look 0 (tile s k).storesOut (8 * p + n) != 0) * 2 ^ 33 + b2n (ejWait s k) * 2 ^ 34

/-- A tile not tail-done by the field's next open plus W overruns, once for the beat (R197). -/
def execBeatOverrun (t : TileId) (s : State) : Out :=
  let k := tileNo t; let f := tileField k; let fb := fieldBase f
  let j := max (tile s k).overruns (tailsOf s k)
  match beatAt s f j with
  | none => .next s
  | some e =>
    let next := match beatAt s f (j + 1) with | some e' => e'.openTc | none => openTc s f (e.no + 1)
    if decide (j < seenOf s k) && getF s (tileBase k) F.TSQ_BEATCFG_BEAT_MASK != 0 &&
        decide (next + nsTc s (getF s fb F.FLD_BEAT_WIN_WINDOW) < s.tc) then
      let s := modTile (report s k 0x30 0 (overrunDetail s k e.parity)) k fun t => { t with overruns := j + 1 }
      let s := if e.overrun then s else setF (incF s fb F.FLD_BEAT_ERR_OVERRUN_CNT 1) fb F.FLD_BEAT_ERR_OVERRUN
      .next (modField s f fun v => { v with beats := v.beats.map fun b => if b.no == e.no then { b with overrun := true } else b })
    else .next s

/-! ### Seals (R198, R199) -/

/-- Every backed tile has signalled tail done for beat `j`, and no work of its parity is suspect. -/
def sealable (s : State) (f j p : Nat) : Bool :=
  (fieldClusters f).all fun c => !(backed s c) ||
    (!(suspect s c p) && (clusterTiles c).all fun k =>
      decide (j < tailsOf s k) || (decide (j < seenOf s k) && getF s (tileBase k) F.TSQ_BEATCFG_BEAT_MASK == 0))

/-- The field has two beats open, and the pulse of the next has waited past X for the seal of the older (R199). -/
def sealOverdue (s : State) (f : Nat) : Bool :=
  let v := field s f
  match v.nextNo with
  | none => false
  | some n => decide (2 ≤ v.beats.length) && mayOpen s f n &&
      decide (pulseTc s f n + nsTc s (getF s (fieldBase f) F.FLD_BEAT_WIN_STRETCH) < s.tc)

/-- No seal by X after a scheduled pulse: 0x31, and no further beat opens. The domain rolls back; an engine outside one
freezes with the limit taken as 0 (R199). -/
def sealLate (s : State) (f : Nat) : State :=
  let s := setF (hubReport s f 0x31 0) (fieldBase f) F.FLD_BEAT_ERR_SEAL_LATE
  let s := modField s f fun v => { v with withheld := true }
  if joined s then { s with stepFail := true, dom := { s.dom with fail := 0x31 } }
  else noteState s (freezeZero s)

def execSealLate (f : FieldId) (s : State) : Out := .next (if sealOverdue s f.val then sealLate s f.val else s)

/-- The oldest open beat of a field is sealed; a freeze that waited for it takes effect. -/
def sealBeat (s : State) (f : Nat) (e : OpenBeat) (rest : List OpenBeat) : State :=
  let b := fieldBase f
  let s := modField s f fun v => { v with beats := rest, seals := v.seals + 1, lastSealed := some e.no }
  let s := wrapF s b F.FLD_BEAT_STAT_SEALED_NO 1
  let s := putF (putF s b F.FLD_TAIL_TIME_SEAL_AT (s.tc - e.openTc)) b F.FLD_TAIL_TIME_TAIL_MAX e.tailMax
  if (field s f).freezeReq.isSome && rest.isEmpty then noteState s (freezeEnd (freezeNow s f)) else s

/-- A field seals its oldest open beat. A pulse that waited for it goes out at once, within the stretch limit, with 0x38; past the
limit 0x31 comes first (R198, R199). -/
def execFieldSeal (f : FieldId) (s : State) : Out :=
  let f := f.val; let b := fieldBase f
  let s := if sealOverdue s f then sealLate s f else s
  let v := field s f
  match v.beats with
  | [] => .next s
  | e :: rest =>
    if !(sealable s f v.seals e.parity) then .next s
    else
      let s := sealBeat s f e rest
      match v.nextNo with
      | none => .next s
      | some n =>
        let t := pulseTc s f n
        if decide (2 ≤ v.beats.length) && v.freezeReq.isNone && mayOpen s f n && decide (t < s.tc) then
          let s := setF (incF (hubReport s f 0x38 0) b F.FLD_BEAT_ERR_STRETCH_CNT 1) b F.FLD_BEAT_ERR_STRETCHED
          .next (issuePulse s f n (s.tc + 500))
        else .next s

/-- A field that has not sealed within FLD.FREEZE_CFG.LIMIT of a freeze is forced FROZEN with 0x33; the step of its beat
cannot commit (R203). -/
def execFreezeTimeout (f : FieldId) (s : State) : Out :=
  let f := f.val; let b := fieldBase f
  match (field s f).freezeReq with
  | none => .next s
  | some a =>
    if (look {} s.lifeF f).st == .live && decide (a + usTc s (getF s b F.FLD_FREEZE_CFG_LIMIT) < s.tc) then
      let s' := setF (hubReport s f 0x33 0) b F.FLD_BEAT_ERR_FREEZE_TO
      let s' := forceField (modField s' f fun v => { v with forced := true, timedOut := true }) f
      .next (noteState s (freezeEnd { s' with stepFail := true }))
    else .next s

/-! ### Ticks -/

/-- The root orders RESTART once every position is present and restored. No frame carries that to it, so of the others a free
value tells it; it names a tick at least 5 ms on, within which an order reaches every engine (R294). -/
def rootRestart (s : State) : State :=
  if !(isRoot s) || !(restored s) || s.dom.restart.isSome then s
  else
    let (s, i) := nextFree s
    if !(children s).isEmpty && !(Config.freeBit i) then s
    else
      let n := tickFrom s (s.tc + usTc s 5000)
      orderDown { s with dom := { s.dom with restart := some n, lost := [] } } 2 n (getF s 0 F.FAB_DOM_EPOCH)

/-- A beat tick: the number rises, a frequency that waits takes effect, TICK frames go out, and the barrier of a domain
restart falls on its tick (R294, R301, R396). -/
def execBeatTick (s : State) : Out :=
  let b := s.beats
  if !b.running then .next s
  else
    let s := waitTc s b.due
    let n := nextTick s
    let s := applyFreq { s with beats := { b with ticked := true, no := n, at_ := b.due } }
    let s := { s with beats := { s.beats with due := b.due + periodTc s } }
    let s := putF s 0 F.FAB_TICK_BEAT n
    let s := (tickPorts s).foldl (fun s p => sendFrame s p (toPeer s p 0 (mgmtFrame s 3 (n % 2 ^ 32 + s.beats.period % 2 ^ 24 * 2 ^ 32)))) s
    if s.dom.restart == some n && restored s then
      let s := { s with dom := { s.dom with restart := none, rolled := false } }
      .next (noteState s (thawAll s))
    else .next (rootRestart s)

/-! ### START, FREEZE, THAW -/

/-- The beat parameters an image gives, defaults filled in (Table 08.1): P, W, X in ns, S in tc, F_MIN in MHz. -/
def beatParams (s : State) (base : Nat) : Nat × Nat × Nat × Nat × Nat :=
  let p := imgField s base 12 4; let w := imgField s base 16 4; let x := imgField s base 20 4
  let sk := imgField s base 24 2; let fm := imgField s base 26 2
  let w := if w == 0 then p / 10 else w
  (p, w, if x == 0 then w else x, if sk == 0 then 64 else sk, if fm == 0 then 600 else fm)

/-- START accepts the parameters (R193, R194). -/
def paramsOk (p w x sk fm : Nat) : Bool :=
  decide (2000 ≤ p) && decide (p ≤ 16000000) && decide (2 * w ≤ p) && decide (2 * x ≤ p) && decide (600 ≤ fm) && decide (fm ≤ 1400) &&
    decide (83 * sk * 1000 + w * fm < p * fm) && decide (w + 400 < p)

/-- The parameters reach the 168 hubs. -/
def setParams (s : State) (p w x sk : Nat) : State :=
  (List.range 168).foldl (fun s f =>
    let b := fieldBase f
    let s := putF (putF (putF s b F.FLD_BEAT_PER_PERIOD p) b F.FLD_BEAT_WIN_WINDOW w) b F.FLD_BEAT_WIN_STRETCH x
    putF (putF s b F.FLD_BEAT_SKEW_SKEW sk) b F.FLD_BEAT_SKEW_OPEN_OFS (f % 84 * sk)) s

/-- Every field has ecloded an image. -/
def allEclosed (s : State) : Bool := s.beats.image.isSome && !(anyLife s .instar) && !(anyLife s .dark) && !(anyLife s .selftest)

/-- START (R193, R194, R289, R396). Every field's next beat is the first after the barrier; during a freeze START waits for it,
as THAW does. -/
def startBody (slot : Nat) (s : State) : State :=
  let (p, w, x, sk, fm) := beatParams s (s.beats.image.getD 0)
  let fixed := joined s && (!(isRoot s) || s.beats.running)
  if !(allEclosed s) || !(paramsOk p w x sk fm) || (fixed && p != (if isRoot s then s.beats.period else s.dom.period)) then
    respond s slot 0x36 []
  else
    let s := setParams s p w x sk
    let s := askFreq (putF s 0 F.PWR_DVFS_F_MIN fm) (max fm (freq s))
    let s := setAgeUnits s
    let s := (List.range 168).foldl (fun s f => modField s f fun v => { v with started := true }) s
    let s := if fixed then s
      else { s with beats := { s.beats with running := true, period := p, due := s.tc + waferTc 2 } }
    if freezing s then await s slot .thaw
    else
      let s := stepBarrier s
      let s := (List.range 168).foldl (fun s f =>
        if fieldFrozen s f then (if isF s 0 F.PWR_DIN_FRZ_ACT || mustStay s then s else thawField s f)
        else if (look {} s.lifeF f).st == .live then fieldBarrier s f else s) s
      respond s slot 0 [barrierBeat s]

def execStart (slot : Fin 34) (s : State) : Out := mailbox 0x21 slot.val yes [] (startBody slot.val) s

/-- FREEZE (R203). -/
def freezeBody (slot : Nat) (s : State) : State := freezeAll (await s slot .freeze)

def execFreeze (slot : Fin 34) (s : State) : Out := mailbox 0x22 slot.val yes [] (freezeBody slot.val) s

/-- THAW (R203, R312, R333). -/
def thawBody (slot : Nat) (s : State) : State :=
  if isF s 0 F.PWR_DIN_FRZ_ACT then respond s slot 0x63 []
  else if freezing s then await s slot .thaw
  else if !(anyFrozen s) || !s.clocks.realigned || isF s 0 F.CLK_STATUS_SAFE || mustStay s then respond s slot 0x55 []
  else
    let n := barrierBeat s
    respond (thawAll s) slot 0 [n]

def execThaw (slot : Fin 34) (s : State) : Out := mailbox 0x23 slot.val yes [] (thawBody slot.val) s

end Sys2Proof.Machine
end

