-- ==== Sys2Proof/Machine/Firn.lean ====
section
/-! DEFINITION. Firn controllers at work, the patrol, and the host's window BAR4 (R253 to R257, R360). -/

namespace Sys2Proof.Machine

def FirnTx.isRead : FirnTx → Bool
  | .read _ _ _ => true
  | .write _ _ _ => false

/-- The stack answers: it is ready, or FAILED (R256). -/
def frnUp (s : State) (st : Nat) : Bool := decide (2 ≤ frnState s st)

/-- A granule read for a stream completes (R253, R254): its entry takes the row, and the stream asks on. -/
def readDone (s : State) (n key a corr uncorr : Nat) : State :=
  let (s, v, p) := granuleRead s a corr uncorr false
  let s := modStrm s n fun x =>
    { x with rows := x.rows.map fun r => if r.key == key && r.data.isNone then { r with data := some (v, p) } else r }
  firnAsk s n

def execFirnReadDone (st : Fin 32) (corr uncorr : Nat) (s : State) : Out :=
  let st := st.val
  if !(frnUp s st) then .next s
  else match firnNext FirnTx.isRead [] (firnPending s st) with
    | some (.read n key a, rest) => .next (firnServe (readDone (setFirnQ s st rest) n key a corr uncorr) st)
    | _ => .next s

/-- A posted write is durable. -/
def execFirnWriteDone (st : Fin 32) (s : State) : Out :=
  let st := st.val
  if !(frnUp s st) then .next s
  else match firnNext (fun x => !x.isRead) [] (firnPending s st) with
    | some (.write a v p, rest) => .next (firnServe (granuleWrite (setFirnQ s st rest) a v p) st)
    | _ => .next s

/-- The address of granule `i` of a stack (R251). -/
def granuleAddr (st i : Nat) : Nat :=
  let hi := i % 16
  st / 16 * 2 ^ 40 + i / 16 * 2 ^ 17 + hi * 2 ^ 13 + (st % 16 ^^^ hi) * 2 ^ 9

/-- The patrol reads a granule, in a slot that no request claims (R255); not while the firn refreshes itself (R269). -/
def execPatrolRead (st : Fin 32) (granule : Fin 134217728) (corr uncorr : Nat) (s : State) : Out :=
  let st := st.val
  if frnState s st == 2 && (firnPending s st).isEmpty && decide (getF s 0 F.PWR_STATUS_STATE < 4) && getF s (frnBase st) F.FRN_CFG_PATROL_H != 0 then
    .next (granuleRead s (granuleAddr st granule.val) corr uncorr true).1
  else .next s

/-! ### BAR4 -/

/-- The firn is available: phase 7 of a cold start has completed, and STATE does not read 7 (R360). -/
def firnAvailable (s : State) : Bool := decide (7 < phase s) && !s.steward.failed

def barAddr (s : State) (off : Nat) : Nat := getF s 0 F.FRN_WIN_BASE * 2 ^ 34 + off

/-- No transaction on these granules is outstanding, so an access need not wait. -/
def firnTurn (s : State) (gs : List Nat) : Bool :=
  gs.all fun g => !((firnPending s (stackOf g)).any fun x => x.addr / 512 == g / 512)

/-- An access to a granule takes its turn behind those outstanding on it, which complete first (R253). -/
def firnFirst (s : State) (g : Nat) : State :=
  let st := stackOf g
  let mine (x : FirnTx) : Bool := x.addr / 512 == g / 512
  let l := firnPending s st
  if l.any mine then
    firnServe ((l.filter mine).foldl (fun s x => match x with
      | .read n key a => readDone s n key a 0 0
      | .write a v p => granuleWrite s a v p) (setFirnQ s st (l.filter fun x => !(mine x)))) st
  else s

/-- A host read: whole granules, as R254 has it; `corr` and `uncorr` are the errors that each of them meets, in order. -/
def execBar4Read (off : Fin 17179869184) (len : Fin 513) (corr uncorr : List Nat) (s : State) : Out :=
  let off := off.val; let n := len.val
  if !s.steward.on then .next { s with bus := List.replicate n 0 }
  else if !(firnAvailable s) then .next { s with bus := Mem.bytes s.steward.recovery off n }
  else
    let a := barAddr s off
    let (s, rows) := (granulesOf a n).foldl (fun (x : State × List Byte) g =>
      let i := g / 512 - a / 512
      let (s, v, _) := granuleRead (firnFirst x.1 g) g (corr.getD i 0) (uncorr.getD i 0) false
      (s, x.2 ++ toBytes 512 v.toNat)) (s, [])
    .next { s with bus := (rows.drop (a % 512)).take n }

/-- A host write: a whole granule as it is, else read, changed and written whole; its flag is the OR of the written flits'
marks (R257). -/
def execBar4Write (off : Fin 17179869184) (data : List Byte) (corr uncorr : List Nat) (s : State) : Out :=
  let off := off.val
  if !s.steward.on then .next s
  else if !(firnAvailable s) then
    let bs := data.take (16777216 - off)
    .next (modSteward s fun w => { w with recovery := Mem.write w.recovery off bs })
  else
    let a := barAddr s off
    .next ((granulesOf a data.length).foldl (fun s g =>
      let s := firnFirst s g
      let lo := max a g; let hi := min (a + data.length) (g + 512)
      let bs := (data.drop (lo - a)).take (hi - lo)
      if bs.length == 512 then granuleWrite s g (BitVec.ofNat 4096 (ofBytes bs)) false
      else
        let i := g / 512 - a / 512
        let (s, v, p) := granuleRead s g (corr.getD i 0) (uncorr.getD i 0) false
        granuleWrite s g (rowPatch v (lo - g) bs) p) s)

end Sys2Proof.Machine
end

