-- ==== Sys2Proof/Machine/Load.lean ====
section
/-! DEFINITION. LOAD_IMAGE, the owner's scrub, and the on-line exchange (R207, R210, R213 to R215, R361). -/

namespace Sys2Proof.Machine

/-- Every tile that holds something beside its registers, changed; the form stays canonical. -/
def mapTiles (s : State) (g : Tile → Tile) : State :=
  { s with tiles := (s.tiles.map fun e => (e.1, g e.2)).filter fun e => e.2 != {} }

def mapClusters (s : State) (g : Cluster → Cluster) : State :=
  { s with clusters := (s.clusters.map fun e => (e.1, g e.2)).filter fun e => e.2 != {} }

/-! ### The scrub between owners (R361) -/

/-- Scratch zero with valid parity and no poison; the edge buffer; the firn outside the new image. -/
def scrubOwner (s : State) (base len : Nat) : State :=
  let inside (g : Nat) : Bool := decide (base < 512 * g + 512) && decide (512 * g < base + len)
  let s := (s.streams.map Prod.fst).foldl emptyBanks s
  { s with scratch := [], badPar := [], poisonRow := [],
           firn := s.firn.filter fun c => decide (base ≤ c.1) && decide (c.1 < base + len),
           firnPoison := Sparse.drop (fun g => !(inside g)) s.firnPoison }

/-! ### Loads -/

/-- The load's counts begin anew in every hub, and in every tile. -/
def loadCounts (s : State) (full : Bool) : State :=
  let s := (List.range 168).foldl (fun s f =>
    let b := fieldBase f
    let s := putF (putF s b F.FLD_CFG_STAT_VERIFIED 0) b F.FLD_CFG_STAT_CRC_FAIL 0
    if full then modField (putF s b F.FLD_CFG_STAT_ECLOSED 0) f fun v =>
      { v with ready := false, beats := [], seals := v.pulses, nextNo := none, started := false, freezeReq := none, forced := false, timedOut := false,
               withheld := false }
    else s) s
  mapTiles s fun t => { t with verified := false, failedCheck := false, tries := 0, rowsSeen := 0, headerSeen := none, passed := [] }

/-- Every backed tile enters INSTAR (R207, Table 08.7). -/
def instarAll (s : State) : State :=
  let s := resetRegs s fun a => a / 0x1000000000 == 4 && userReg (a % 0x4000)
  let s := mapTiles s fun t => t.cleared s.tc
  let s := mapClusters s fun c => { c with reads := [] }
  { s with lifeT := [], lifeF := (List.range 168).foldl (fun m f => put {} m f { st := .instar }) [] }

/-- LOAD_IMAGE (R207). -/
def loadBody (slot : Nat) (s : State) : State :=
  let base := arg s slot 0; let owner := arg s slot 1
  if calving s then respond s slot 0x29 []
  else if imageRefused s base then respond s slot 0x37 []
  else if isStandby s base then
    let s := loadCounts s false
    let left := ((List.range 1548288).filter fun k => backed s (tileCluster k) && !(banksFor s base k).isEmpty).length
    let s := { s with load := some { base, standby := true, slot, left } }
    loadEnd (await s slot .load)
  else
    let s := match s.steward.owner with
      | some o => if o == owner then s else scrubOwner s base (imgLen s base)
      | none => s
    let s := modDep (modSteward s fun w => { w with owner := some owner, loaded := true }) fun d => { d with stuck := false }
    let s := putF (loadCounts (instarAll s) true) 0 F.THM_DEMAND_DUTY 100
    let s := { s with load := some { base, standby := false, slot, left := backedTiles s }, beats := { s.beats with image := some base }, exch := none }
    if backedTiles s == 0 then respond (modLoad s fun l => { l with running := false }) slot 0 [0, 0]
    else await s slot .load

def execLoadImage (slot : Fin 34) (s : State) : Out :=
  mailbox 0x20 slot.val yes [2 ^ 41 - 1, 2 ^ 32 - 1] (loadBody slot.val) s

/-! ### Exchanges -/

/-- Bank `b` is VALID in every backed tile. -/
def bankValid (s : State) (b : Nat) : Bool :=
  (List.range 96768).all fun c => !(backed s c) || (clusterTiles c).all fun k => isF s (tileBase k) (F.TSQ_CFGB_VALID.at (8 * b))

/-- The beat that a field has pulsed and not yet opened, else the next it will pulse (R195). -/
def unopened (s : State) (f : Nat) : Option Nat :=
  match (field s f).beats.find? fun e => decide (s.tc < e.openTc) with
  | some e => some e.no
  | none => (field s f).nextNo

/-- The fields in which beats run: one has opened since the last barrier. -/
def beating (s : State) : List Nat :=
  (List.range 168).filter fun f => (look {} s.lifeF f).st == .live && (field s f).nextNo.isSome && !(field s f).ramp &&
    !((field s f).beats.any fun e => e.ramp && decide (s.tc < e.openTc))

/-- The beat an exchange takes: the one named, or the first that opens in every field at least 4 us on (R213). -/
def exchBeat (s : State) (n : Nat) : Nat :=
  if n != 0 then n else (beating s).foldl (fun m f => max m ((unopened s f).getD 0)) (tickFrom s (s.tc + waferTc 4))

/-- The exchange is refused with 0x35 (R213). -/
def exchRefused (s : State) (b n : Nat) : Bool :=
  s.exch.isSome || (s.load.any fun l => l.running) || (List.range 168).any (fun f => (field s f).freezeReq.isSome) ||
    (beating s).isEmpty || ((beating s).any fun f => decide (n < (unopened s f).getD 0)) || !(bankValid s b)

/-- EXCHANGE (R213). -/
def exchangeBody (slot : Nat) (s : State) : State :=
  let b := arg s slot 0; let n := exchBeat s (arg s slot 1)
  if calving s then respond s slot 0x29 []
  else if exchRefused s b n then respond s slot 0x35 []
  else if backedTiles s == 0 then respond s slot 0 [n]
  else await { s with exch := some { bank := b, beat := n, slot, left := backedTiles s } } slot .exchange

def execExchange (slot : Fin 34) (s : State) : Out := mailbox 0x24 slot.val yes [3, 2 ^ 32 - 1] (exchangeBody slot.val) s

/-- The value a record of the bank at row `r` gives to TSQ.QCFG(q), the last one, if any. -/
def recordFor (s : State) (k r addr : Nat) : Option Nat :=
  (List.range (bankNrec s k r)).foldl (fun v j =>
    let w := (sliceRow s k (r + 1 + bankNirows s k r + j / 32)).toNat
    if bits w (128 * (j % 32)) 15 == addr then some (bits w (128 * (j % 32) + 64) 64) else v) none

/-- tc that an exchange takes from its tile's FROZEN to its beat's open (R214). -/
def exchangeTime (s : State) (k r : Nat) : Nat := 12 + bankNrows s k r + ceilDiv (bankNrec s k r) 2 + 8 * bankNirows s k r

/-- CLU records of several tiles of one cluster stand as if applied in ascending T: those of tiles above `k` that have run the
exchange are applied again (R205). -/
def laterCluRecords (s : State) (x : Exch) (k : Nat) : State :=
  (List.range 16).foldl (fun s t =>
    let j := clusterTile (tileCluster k) t
    if decide (tileT k < t) && x.done.contains j then applyCluRecords s j (bankBase s j x.bank) else s) s

/-- What an exchange keeps (Table 08.9), then the records and instructions of bank `b`. -/
def exchangeTile (s : State) (k b : Nat) : State :=
  let tb := tileBase k; let r := bankBase s k b
  let old := s
  let s := (List.range 8).foldl (fun s n => modCtx (setCtxState s k n 0) k n fun c =>
    { c with loops := [], pre := [], hold := .none, muls := [] }) s
  let s := modTile s k fun t => { t with p := 0 }
  let s := (List.range 8).foldl (fun s q =>
    let qa := 0x200 + 8 * q
    match recordFor old k r qa with
    | some v => if v &&& 0x81FF00FF == rd old (tb + qa) &&& 0x81FF00FF then s else disableQueue s k q
    | none => s) s
  let carry (c : Nat) : Bool := isF old tb (F.TSQ_CTR_SRC_CARRY.at (8 * c))
  let s := (List.range 16).foldl (fun s c =>
    if carry c then s else putF (putF s tb (F.TSQ_CTR_COUNT.at (8 * c)) 0) tb (F.TSQ_CTR_OVF.at (8 * c)) 0) s
  let s := takeBank s k r
  let s := (List.range 16).foldl (fun s c =>
    if carry c then
      putF (putF s tb (F.TSQ_CTR_COUNT.at (8 * c)) (getF old tb (F.TSQ_CTR_COUNT.at (8 * c)))) tb (F.TSQ_CTR_OVF.at (8 * c))
        (getF old tb (F.TSQ_CTR_OVF.at (8 * c)))
    else s) s
  let same (c : Nat) (f : Fld) : Bool := getF s tb (f.at (8 * c)) == getF old tb (f.at (8 * c))
  let s := modTile s k fun t => { t with rearm := (List.range 16).foldl (fun m c =>
    if same c F.TSQ_CTR_SRC_SRC && same c F.TSQ_CTR_SRC_SEL && same c F.TSQ_CTR_SRC_LEVEL then m else put false m c true) t.rearm }
  let s := putF (wrapF s tb F.TSQ_CFG_EXCH_CNT 1) tb F.TSQ_CFG_BANK b
  putF (setCfgb s k b r true) (fieldBase (tileField k)) F.FLD_CFG_STAT_BANK b

/-- A tile runs its exchange: once tail-done for the beat before and with no repeat or replay of it outstanding, it enters FROZEN,
checks the bank, takes it, and opens the beat with the ramp. A bad CRC leaves it FROZEN on its old configuration (R214, R215). -/
def execExchangeRun (t : TileId) (s : State) : Out :=
  let k := tileNo t; let f := tileField k; let c := tileCluster k
  match s.exch with
  | none => .next s
  | some x =>
    if !(tile s k).exchWait || decide (tailsOf s k < seenOf s k) || suspect s c 0 || suspect s c 1 || !(lat s k).failed.isEmpty then .next s
    else match beatAt s f (seenOf s k) with
      | none => .next s
      | some e =>
        let r := bankBase s k x.bank
        let s := setLife (readBank (waitTc s (e.openTc + exchangeTime s k r)) k r) k { st := .frozen }
        if !(bankGood s k x.bank r) then
          let fb := fieldBase f
          let s := setF (report (setCfgb s k x.bank r false) k 0x34 0 x.bank) fb F.FLD_BEAT_ERR_CFG_CRC
          let s := if (tile s k).failedCheck then s else incF s fb F.FLD_CFG_STAT_CRC_FAIL 1
          .next (modTile s k fun t => { t with exchWait := false, failedCheck := true })
        else
          let s := setLife (laterCluRecords (exchangeTile (unfail s k) k x.bank) x k) k { st := .live }
          let s := tileOpen s k e true
          if x.left ≤ 1 then .next (respondAll { s with exch := none } (· == .exchange) 0 [x.beat])
          else .next { s with exch := some { x with left := x.left - 1, done := k :: x.done } }

end Sys2Proof.Machine
end

