-- ==== Sys2Proof/Machine/Cocoon.lean ====
section
/-! DEFINITION. Cocoons: what COCOON_OUT writes and COCOON_IN restores (R219 to R222). -/

namespace Sys2Proof.Machine

/-- What a tile's frame restores where its rows are not as the engine laid them out: the spec lists the contents of these rows
and gives no places (log entry 2). -/
opaque frameTile : List Row → Tile
opaque frameRegs : List Row → List (Nat × Word)

/-! ### Frames (Table 08.13) -/

/-- Bytes as 512-byte rows. -/
def rowsOf (n : Nat) (bs : List Byte) : List Row :=
  (List.range n).map fun i => BitVec.ofNat 4096 (ofBytes ((bs.drop (512 * i)).take 512))

def words (l : List Nat) (n : Nat) : List Byte := l.flatMap (toBytes n)

/-- Rows `r .. r + n - 1`, whose contents Table 08.13 lists without their places. -/
def openRows (r n : Nat) (l : List Nat) : List Row := (List.range n).map fun i => Config.frameRow (r + i) l

/-- Accumulator rows and groups in the order of Table 08.13. -/
def groupsInOrder : List (Nat × Nat × Nat) :=
  (List.range 2).flatMap fun b => (List.range 128).flatMap fun r => (List.range 4).map fun g => (b, r, g)

/-- Registers `o, o + 8, ..` below `e` of a tile, as they read. -/
def regValues (s : State) (k o e : Nat) : List Nat := (List.range ((e - o) / 8)).map fun i => tileView s k (o + 8 * i)

/-- Row 1: the contexts, with the poison tags of their registers. -/
def contextValues (s : State) (k : Nat) : List Nat :=
  (List.range 8).flatMap fun n =>
    let c := ctxOf s k n
    [tileView s k (0xC0 + 8 * n), rd s (tileBase k + F.TSQ_GPOI_TAGS.off + 8 * n)] ++ c.loops.flatMap (fun l => [l.start, l.fin, l.count]) ++
      c.pre.flatMap fun p => [p.pc, p.insn.toNat, b2n p.bad]

/-- Rows 13..29: the flits of the operand queues, then their sideband and the send queue. -/
def bufferValues (s : State) (k : Nat) : List Nat :=
  (List.range 8).flatMap fun q => (queueOf s k q).map fun f => (f.data.getD 0).toNat
def sidebandValues (s : State) (k : Nat) : List Nat :=
  ((List.range 8).flatMap fun q => (queueOf s k q).flatMap fun f =>
    [f.id, b2n f.data.isSome, b2n f.poison, f.popped, b2n f.msg, b2n f.first, b2n f.last, f.tag, f.len, f.cls]) ++
  (tile s k).sendq.flatMap fun e => [e.n, e.bp, e.dest, e.rect.getD 0, e.port, e.tag, e.len, e.cls, e.kind, e.srcQ]

/-- Rows 32..33: the weight sets with their side parts. -/
def setValues (w : WSet) : List Nat := [w.kind, w.fmt, b2n w.s24, w.data.toNat, w.side.toNat, b2n w.poison]

/-- Rows 125..126: the entries of the issue queues. -/
def queueValues (s : State) (k : Nat) : List Nat :=
  ((lat s k).queue.flatMap fun e => [e.op, e.n, e.bp, e.a, e.b, e.lo, e.hi]) ++
    (tile s k).spu.queue.flatMap fun e => [e.op, e.n, e.bp, e.a, e.b, e.d, e.desc]

/-- Rows 1..127 of a tile's frame. -/
def frameRest (s : State) (k : Nat) : List Row :=
  let l := lat s k; let c := tileCluster k
  let gs := (List.range 8).flatMap fun n => (List.range 16).map fun i => (getG s k n i).toNat
  let vs := (List.range 8).map fun i => (look 0 (tile s k).vreg i).toNat
  let ib := (List.range 512).map fun i => (look {} (tile s k).ib i).insn.toNat
  let acc := (List.range 2).flatMap fun b => (List.range 128).flatMap fun r => (List.range 32).map fun i => (accAt l b r i).toNat
  let sums := groupsInOrder.map fun (b, r, g) => (grpAt l b r g).c.toNat + (grpAt l b r g).pm.toNat * 2 ^ 32
  let marks := groupsInOrder.map fun (b, r, g) =>
    let e := grpAt l b r g
    let par := ((List.range 8).map fun i =>
      ((ones (accAt l b r (8 * g + i)).toNat 32 + b2n (look false l.accBad (accKey b r (8 * g + i)))) % 2) * 2 ^ i).sum
    par + e.a % 4096 * 2 ^ 8 + b2n e.fp * 2 ^ 22 + b2n e.poison * 2 ^ 23
  let clu := if tileT k == 0 then (List.range 16).map (fun i => cluView s c (8 * i)) ++ (List.range 4).map (fun i => cluView s c (0x800 + 8 * i))
    else []
  openRows 1 1 (contextValues s k) ++ rowsOf 2 (words gs 8) ++ rowsOf 1 (words vs 64) ++ rowsOf 8 (words ib 8) ++
    openRows 13 16 (bufferValues s k) ++ openRows 29 1 (sidebandValues s k) ++ openRows 30 2 (regValues s k 0 0x300) ++
    openRows 32 2 (setValues l.set0 ++ setValues l.set1) ++ rowsOf 64 (words acc 4) ++ rowsOf 16 (words sums 8) ++ rowsOf 6 (words marks 3) ++
    openRows 120 3 (regValues s k 0x1000 0x1090 ++ regValues s k 0x1400 0x1800) ++
    openRows 123 2 (regValues s k 0x2000 0x2050 ++ regValues s k 0x2400 0x2500 ++ regValues s k 0x3000 0x3160) ++
    openRows 125 2 (queueValues s k) ++ rowsOf 1 (words clu 8)

/-- The CRC-32C over rows 1..127 of a frame. -/
def frameSum (rest : List Row) : Nat := crc32c (rest.flatMap fun r => toBytes 512 r.toNat)

/-- The 128 rows of a tile's frame. -/
def frameRows (s : State) (k : Nat) : List Row :=
  if !(backed s (tileCluster k)) then Config.frameRow 0 [tileW k, tileY k, tileX k, Life.calved.code] :: List.replicate 127 0
  else
    let rest := frameRest s k
    Config.frameRow 0 [tileW k, tileY k, tileX k, (life s k).code, getF s (tileBase k) F.TSQ_BEAT_BEAT_NO, parity s k, (tile s k).p,
      b2n (field s (tileField k)).forced, frameSum rest] :: rest

/-- The rows of a frame whose places the spec does not give, in order. -/
def openPart (l : List Row) : List Row :=
  ([0, 1] ++ (List.range 21).map (13 + ·) ++ (List.range 7).map (120 + ·)).map fun i => l.getD i 0

/-! ### Writing a cocoon -/

def frameCount : Nat := 1548288
def cocoonBytes (scratch : Bool) : Nat := 512 + 65536 * frameCount + (if scratch then 262656 * frameCount else 0)
def frameOfs (dest : Nat) : Nat := dest + 512
def scratchOfs (dest : Nat) : Nat := dest + 512 + 65536 * frameCount

/-- The header row (Table 08.12). -/
def cocoonHeader (s : State) (dest : Nat) (scratch incomplete : Bool) : List Byte :=
  let tag := match s.beats.image with | some b => imgTag s b | none => 0
  let h := toBytes 2 0x434F ++ toBytes 1 1 ++ toBytes 1 (b2n scratch + 2 * b2n incomplete) ++ toBytes 4 tag ++
    toBytes 2 (getF s 0 F.FAB_DOM_ID) ++ toBytes 6 (getF s 0 F.FAB_STEP_ID) ++ toBytes 4 s.beats.no ++
    toBytes 4 (getF s (fieldBase 0) F.FLD_CFG_STAT_BANK) ++ toBytes 8 (frameOfs dest) ++
    toBytes 8 (if scratch then scratchOfs dest else 0)
  h ++ toBytes 4 (crc32c h) ++ toBytes 468 0

/-- Rows with their poison marks written to the firn from address `a` (R158, R254). -/
def putRows (s : State) (a : Nat) (l : List (Row × Bool)) : State :=
  (List.range l.length).foldl (fun s i => granuleWrite s (a + 512 * i) (l.getD i (0, false)).1 (l.getD i (0, false)).2) s

/-- The rows of a tile's slice leave by its scan requestor, to the firn from address `a`; then a row of their poison bits
(R151, R220). -/
def putScratch (s : State) (k a : Nat) : State :=
  let c := tileCluster k; let r0 := 512 * tileT k
  let bits_ := ((List.range 512).map fun r => b2n (rowPoisoned s c (r0 + r)) * 2 ^ r).sum
  let s := (List.range 512).foldl (fun s r =>
    let v := readRow s c (r0 + r)
    let (s, p) := scanRead s c (tileT k) (r0 + r)
    granuleWrite s (a + 512 * r) v p) s
  granuleWrite s (a + 262144) (BitVec.ofNat 4096 bits_) false

/-- Registers that a frame saves: the tile blocks. -/
def savedReg (a : Nat) : Bool := a / 0x1000000000 == 4

/-- What the frames hold, as the engine lays it out; TSQ.BEAT.PHASE as it reads. -/
def takeSnap (s : State) : Snap :=
  let s' := s.tiles.foldl (fun s e => putF s (tileBase e.1) F.TSQ_BEAT_PHASE (phaseOf s e.1)) s
  { tiles := s.tiles, csr := s'.csr.filter fun e => savedReg e.1, calved := unbackedClusters s,
    rows := (List.range frameCount).map fun k => (k, openPart (frameRows s k)),
    crcs := (List.range frameCount).map fun k => (k, frameSum (frameRest s k)) }

/-- A cocoon is written at `dest`: frames, scratch, header (R219, R220). -/
def writeCocoon (s : State) (dest : Nat) (scratch incomplete : Bool) : State :=
  let snap := takeSnap s
  let s := (List.range frameCount).foldl (fun x k =>
    putRows x (frameOfs dest + 65536 * k) ((frameRows s k).map fun r => (r, false))) s
  let s := if scratch then (List.range frameCount).foldl (fun s k =>
      if backed s (tileCluster k) then putScratch s k (scratchOfs dest + 262656 * k) else s) s
    else s
  let s := putRows s dest ((rowsOf 1 (cocoonHeader s dest scratch incomplete)).map fun r => (r, false))
  { s with cocoons := put none s.cocoons dest (some snap) }

/-- Flits of user messages are in the mesh. -/
def meshBusy (s : State) : Bool :=
  s.tiles.any fun e => e.2.inq.any (fun q => !q.2.isEmpty) || e.2.link.any fun q => !q.2.isEmpty

def allFrozen (s : State) : Bool := (List.range 168).all fun f => fieldFrozen s f

/-- Regions of the firn in use: the image, and the checkpoint slots of the policy (R222, R295). -/
def regions (s : State) : List (Nat × Nat) :=
  let own := cocoonBytes (isF s 0 F.FAB_POLICY_SCRATCH)
  (match s.beats.image with | some b => [(b, imgLen s b)] | none => []) ++
    (if getF s 0 F.FAB_POLICY_STEP_BEATS == 0 then [] else [(s.dom.ckpt, 2 * own), (s.dom.hold, 2 * own)])

def overlaps (a n b m : Nat) : Bool := decide (a < b + m) && decide (b < a + n)

/-- COCOON_OUT is refused with 0x3A: the range does not fit outside regions in use, or the engine holds no program that could
freeze. -/
def cocoonOutRefused (s : State) (dest : Nat) (scratch : Bool) : Bool :=
  let n := cocoonBytes scratch
  dest % 512 != 0 || decide (2 ^ 41 < dest + n) || (regions s).any (fun r => overlaps dest n r.1 r.2) ||
    (!(allFrozen s) && !((List.range 168).all fun f => (look {} s.lifeF f).st == .live || fieldFrozen s f))

/-- tc in which the last field became FROZEN. -/
def frozenSince (s : State) : Nat := (List.range 168).foldl (fun m f => max m (field s f).frozenAt) 0

/-- 100 us have passed for the mesh to empty, since `since` and since the engine is FROZEN (R6, R219). -/
def meshWaitOver (s : State) (since : Nat) : Bool := decide (max since (frozenSince s) + waferTc 100 ≤ s.tc)

/-- COCOON_OUT that was accepted at `since` goes on once the engine is FROZEN and the mesh is empty, or 100 us have passed. -/
def cocoonStep (slot since : Nat) (s : State) : State :=
  let dest := arg s slot 0; let scratch := bit (arg s slot 1) 0
  if !(allFrozen s) || (meshBusy s && !(meshWaitOver s since)) then s
  else
    let inc := meshBusy s || anyForced s
    let s := writeCocoon s dest scratch inc
    respond s slot (if inc then 0x39 else 0) [cocoonBytes scratch, b2n inc]

def cocoonOutBody (slot : Nat) (s : State) : State :=
  if calving s then respond s slot 0x29 []
  else if cocoonOutRefused s (arg s slot 0) (bit (arg s slot 1) 0) then respond s slot 0x3A []
  else cocoonStep slot s.tc (freezeAll (await s slot (.cocoonOut s.tc)))

/-- COCOON_OUT (R219): a first step that accepts it, and a further one once what it waits for has come about. -/
def execCocoonOut (slot : Fin 34) (s : State) : Out :=
  match waiting s slot.val with
  | some (.cocoonOut a) => .next (noteState s (cocoonStep slot.val a s))
  | _ => mailbox 0x60 slot.val yes [2 ^ 64 - 1, 1] (cocoonOutBody slot.val) s

/-! ### Restoring one (R221) -/

/-- What a frame restores of a tile; routers, links and reports stay as they are. -/
def Tile.restored (old new : Tile) (opened : Nat) : Tile :=
  let n := if new.seen == 0 then 0 else opened
  { new with inq := old.inq, worm := old.worm, outHold := old.outHold, outRr := old.outRr, link := old.link, eject := old.eject,
             tokens := old.tokens, details := old.details, reqs := [], seen := n, tails := n, overruns := n, exchWait := false,
             nextId := max old.nextId new.nextId }

/-- A frame's rows, as its tile's loader gets them from the firn (R181, R221, R254). -/
def framePull (s : State) (a : Nat) : State × List (Row × Bool) :=
  (List.range 128).foldl (fun (x : State × List (Row × Bool)) i =>
    let (s, v, p) := firnRead x.1 (a + 512 * i) 0 0
    (s, x.2 ++ [(v, p)])) (s, [])

/-- The engine's own layout of tile `k`'s frame, where the rows are still as it wrote them. -/
def ownLayout (x : Option Snap) (k : Nat) (l : List Row) : Option Snap :=
  x.bind fun x => if look [] x.rows k == openPart l then some x else none

/-- Bytes of frame rows `r .. r + n - 1`, and the number in bytes `o .. o + w - 1` of them. -/
def frameBytes (l : List Row) (r n : Nat) : List Byte := ((l.drop r).take n).flatMap fun v => toBytes 512 v.toNat
def numAt (bs : List Byte) (o w : Nat) : Nat := ofBytes ((bs.drop o).take w)

/-- What the rows with places give a tile: vector registers, instructions, accumulators and the tally (Table 08.13). -/
def Tile.fromRows (t : Tile) (l : List Row) : Tile :=
  let vs := frameBytes l 4 1; let ib := frameBytes l 5 8; let acc := frameBytes l 34 64
  let sums := frameBytes l 98 16; let marks := frameBytes l 114 6
  let lane (i : Nat) : BitVec 32 := BitVec.ofNat 32 (numAt acc (4 * i) 4)
  let mark (g : Nat) : Nat := numAt marks (3 * g) 3
  { t with
    vreg := (List.range 8).foldl (fun m i => put 0 m i (BitVec.ofNat 512 (numAt vs (64 * i) 64))) t.vreg,
    ib := (List.range 512).foldl (fun m i => put {} m i { insn := BitVec.ofNat 64 (numAt ib (8 * i) 8), bad := (look {} t.ib i).bad }) t.ib,
    lat := { t.lat with
      acc := (List.range 8192).foldl (fun m i => put 0 m i (lane i)) t.lat.acc,
      accBad := (List.range 8192).foldl (fun m i =>
        put false m i (ones (lane i).toNat 32 % 2 != b2n (bit (mark (i / 8)) (i % 8)))) t.lat.accBad,
      tally := (List.range 1024).foldl (fun m g => put {} m g
        { c := BitVec.ofNat 32 (numAt sums (8 * g) 4), pm := BitVec.ofNat 32 (numAt sums (8 * g + 4) 4), a := bits (mark g) 8 12,
          fp := bit (mark g) 22, poison := bit (mark g) 23 }) t.lat.tally } }

/-- A tile, its registers and its cluster's, from the rows of its frame. -/
def loadFrame (s : State) (x : Option Snap) (k : Nat) (l : List Row) : State :=
  let b := tileBase k; let cb := cluBase (tileCluster k)
  let (t, regs) : Tile × List (Nat × Word) := match ownLayout x k l with
    | some x => (look {} x.tiles k, x.csr.filter fun e => decide (b ≤ e.1) && decide (e.1 < b + 0x4000))
    | none => (frameTile l, (frameRegs l).map fun e => (b + e.1 % 0x4000, e.2))
  let s := resetRegs s fun a => decide (b ≤ a) && decide (a < b + 0x4000)
  let s := regs.foldl (fun s e => wr s e.1 e.2.toNat) s
  let gs := frameBytes l 2 2
  let s := (List.range 128).foldl (fun s i => wr s (gAddr k (i / 16) (i % 16)) (numAt gs (8 * i) 8)) s
  let clu := frameBytes l 127 1
  let s := if tileT k == 0 then
      let s := (List.range 16).foldl (fun s i => wr s (cb + 8 * i) (numAt clu (8 * i) 8)) s
      (List.range 4).foldl (fun s i => wr s (cb + 0x800 + 8 * i) (numAt clu (128 + 8 * i) 8)) s
    else s
  setTile s k ((tile s k).restored (t.fromRows l) (field s (tileField k)).pulses)

/-- A frame is marked CALVED. -/
def frameCalved (x : Option Snap) (k : Nat) (row0 : Row) : Bool :=
  match x with
  | some x => if (look [] x.rows k).head? == some row0 then x.calved.contains (tileCluster k) else Config.frameState row0 == Life.calved.code
  | none => Config.frameState row0 == Life.calved.code

/-- The CRC that a frame's row 0 holds. -/
def frameCrcOf (x : Option Snap) (k : Nat) (row0 : Row) : Nat :=
  match x with
  | some x => if (look [] x.rows k).head? == some row0 then look 0 x.crcs k else Config.frameCrc row0
  | none => Config.frameCrc row0

/-- A tile's frame reaches rows 384..511 of its slice; the tile checks its CRC and loads its state from it. A frame whose check
fails, or that is marked CALVED, loads nothing (R221, log entry 60). -/
def restoreTile (s : State) (x : Option Snap) (base k : Nat) : State :=
  if !(backed s (tileCluster k)) then s
  else
    let (s, rows) := framePull s (base + 65536 * k)
    let l := rows.map Prod.fst
    if frameCalved x k (l.headD 0) then s
    else
      let s := (List.range 128).foldl (fun s i =>
        scanWrite s (tileCluster k) (tileT k) (512 * tileT k + 384 + i) (rows.getD i (0, false)).1 (rows.getD i (0, false)).2) s
      if frameCrcOf x k (l.headD 0) == frameSum (l.drop 1) then loadFrame s x k l else s

/-- A field's beats go on with the parity of its tiles. -/
def restoreParity (s : State) (f : Nat) : State :=
  modField s f fun v => { v with par := match (fieldClusters f).find? (backed s) with | some c => parity s (clusterTile c 0) | none => 0 }

def restoreTiles (s : State) (base : Nat) (x : Option Snap) : State :=
  (List.range 168).foldl restoreParity ((List.range frameCount).foldl (fun s k => restoreTile s x base k) s)

/-- Scratch from a cocoon that includes it, row by row; with `keep` the poison bits that it saved, otherwise only what the firn
itself marks (R221, R237). -/
def restoreScratch (s : State) (scr : Nat) (keep : Bool) : State :=
  if scr == 0 then s
  else (List.range frameCount).foldl (fun s k =>
    let c := tileCluster k; let r0 := 512 * tileT k; let a := scr + 262656 * k
    if !(backed s c) then s
    else
      let (s, pv, _) := firnRead s (a + 262144) 0 0
      (List.range 512).foldl (fun s i =>
        let (s, v, p) := firnRead s (a + 512 * i) 0 0
        scanWrite s c (tileT k) (r0 + i) v (p || (keep && bit pv.toNat i))) s) s

/-- The crossbar counts read zero afterwards, and what a rollback discards is gone: records, targeted reads, flags
(Table 08.13, Table 09.3). -/
def restoreClusters (s : State) : State :=
  let s := resetRegs s fun a => a / 0x1000000000 == 3 && decide (0x100 ≤ a % 0x1000) && decide (a % 0x1000 < 0x280)
  mapClusters s fun v => { v with reads := [], targeted := [], merge := none, records := [], scrubWait := [], taint := [], tgtOvf := [] }

/-- A field after a restore is FROZEN with nothing open. -/
def restoreField (s : State) (f : Nat) : State :=
  setLifeField (modField s f fun v => { v with beats := [], seals := v.pulses, nextNo := none, forced := false, timedOut := false, withheld := false,
                                               freezeReq := some s.tc, taintRaised := [], suspectSeen := [], frozenAt := s.tc }) f { st := .frozen }

def cocoonField (s : State) (a off n : Nat) : Nat := firnNum s (a + off) n

/-- The header is one that COCOON_IN takes: right CRC, magic and version, not INCOMPLETE (R221). -/
def cocoonOk (s : State) (a : Nat) : Bool :=
  cocoonField s a 0 2 == 0x434F && cocoonField s a 2 1 == 1 && cocoonField s a 40 4 == crc32c (firnBytes s a 40) &&
    !(bit (cocoonField s a 3 1) 1)

/-- A frame not marked CALVED is for a tile that is now unbacked. -/
def cocoonLost (s : State) (a : Nat) : Bool :=
  (unbackedClusters s).any fun c => (clusterTiles c).any fun k =>
    !(frameCalved (look none s.cocoons a) k (firnRow s (cocoonField s a 24 8 + 65536 * k)))

/-- The cocoon at `a` restored into every tile: the engine is FROZEN, in the bank it was in (R215, R221). -/
def restoreCocoon (s : State) (a : Nat) (keep : Bool) : State :=
  let bank := cocoonField s a 20 4; let scr := cocoonField s a 32 8
  let s := restoreClusters (restoreTiles s (cocoonField s a 24 8) (look none s.cocoons a))
  let s := (List.range 168).foldl (fun s f => putF (restoreField s f) (fieldBase f) F.FLD_CFG_STAT_BANK bank) s
  restoreScratch { s with exch := s.exch.map fun x => { x with done := [], left := backedTiles s } } scr keep

/-- Every backed tile is FROZEN or INSTAR. -/
def cocoonInReady (s : State) : Bool := !(anyLife s .live) && !(anyLife s .dark) && !(anyLife s .selftest)

def cocoonInBody (slot : Nat) (s : State) : State :=
  let a := arg s slot 0
  if calving s then respond s slot 0x29 []
  else if !(cocoonInReady s) || decide (2 ^ 41 ≤ a) || !(cocoonOk s a) || cocoonLost s a then respond s slot 0x3A []
  else respond (restoreCocoon s a true) slot 0 [cocoonBytes (bit (cocoonField s a 3 1) 0)]

def execCocoonIn (slot : Fin 34) (s : State) : Out := mailbox 0x61 slot.val yes [2 ^ 64 - 1] (cocoonInBody slot.val) s

end Sys2Proof.Machine
end

