-- ==== Sys2Proof/Machine/Calve.lean ====
section
/-! DEFINITION. Calving, the moraine log's commands, and eclosion, with which a calving's reload ends (R240 to R249). -/

namespace Sys2Proof.Machine

/-! ### Shift tables (R22 to R25) -/

def colF (f : Fld) (p : Nat) : Fld := f.at (8 * p)
def colBad (s : State) (f p : Nat) : Nat := getF s (fieldBase f) (colF F.FLD_SHIFT_COL_BAD p)
def colHole (s : State) (f p : Nat) : Nat := getF s (fieldBase f) (colF F.FLD_SHIFT_COL_HOLE p)
def rowHole (s : State) (f : Nat) : Nat := getF s (fieldBase f) F.FLD_SHIFT_ROW_HOLE
def inUse (s : State) (f p : Nat) : Bool := isF s (fieldBase f) (colF F.FLD_SHIFT_COL_IN_USE p)

/-- The lowest set bit of a 25-bit mask; 24 where none is set. -/
def lowest (m : Nat) : Nat := ((List.range 25).find? fun i => bit m i).getD 24

/-- What follows from the holes and the bad clusters: UNBACKED, ROW_SPARES, DEGRADED, SPARE_ROW_USED (R23, R24). -/
def tableSums (s : State) (f : Nat) : State :=
  let b := fieldBase f
  let used := (List.range 25).filter fun p => inUse s f p
  let open_ (p : Nat) : Bool := (List.range 25).any fun i => bit (colBad s f p) i && i != colHole s f p
  let s := (List.range 25).foldl (fun s p => putF s b (colF F.FLD_SHIFT_COL_UNBACKED p) (b2n (inUse s f p && open_ p))) s
  let s := putF s b F.FLD_SHIFT_ROW_ROW_SPARES (used.filter fun p => colBad s f p == 0).length
  let s := putF s b F.FLD_SHIFT_ROW_DEGRADED (b2n (used.any open_))
  putF s b F.FLD_SHIFT_ROW_SPARE_ROW_USED (b2n (rowHole s f != 24))

def markBad (s : State) (f x y : Nat) : State :=
  putF s (fieldBase f) (colF F.FLD_SHIFT_COL_BAD y) (colBad s f y ||| 2 ^ x)

/-- The bad clusters of a field with the spares that failed in a calving added. -/
def markSpares (s : State) (r : CalveReq) : State := r.failed.foldl (fun s p => markBad s r.field p.1 p.2) s

/-- The way in which a bad physical cluster is retired: 0 in-row spare, 1 spare row, 2 unbacked (R244). -/
def wayOf (s : State) (r : CalveReq) : Nat :=
  let f := r.field; let y := r.pcy
  let s := markSpares s r
  if colBad s f y == 0 then 0
  else if rowHole s f == 24 && decide (ones (colBad s f 24) 25 ≤ 1) && y != 24 then 1 else 2

/-- The logical cluster that stands on a physical one. -/
def logicalAt (s : State) (f x y : Nat) : Option Nat := (fieldClusters f).find? fun c => physOf s c == (x, y)

/-- The tables after a retirement: one change, the spares that failed in it included, and MAP_SEQ one more (R25). -/
def retire (s : State) (r : CalveReq) (way : Nat) : State :=
  let f := r.field; let x := r.pcx; let y := r.pcy
  let b := fieldBase f
  let s := markBad (markSpares s r) f x y
  let s := match way with
    | 0 => putF s b (colF F.FLD_SHIFT_COL_HOLE y) x
    | 1 =>
      let s := putF (putF s b F.FLD_SHIFT_ROW_HOLE y) b (colF F.FLD_SHIFT_COL_IN_USE y) 0
      putF (setF s b (colF F.FLD_SHIFT_COL_IN_USE 24)) b (colF F.FLD_SHIFT_COL_HOLE 24) (lowest (colBad s f 24))
    | _ => s
  let s := tableSums s f
  putF s b F.FLD_SHIFT_ROW_MAP_SEQ (getF s b F.FLD_SHIFT_ROW_MAP_SEQ + 1)

/-- Logical clusters whose physical position differs between two states' tables. -/
def movedClusters (old new : State) (f : Nat) : List Nat := (fieldClusters f).filter fun c => physOf old c != physOf new c

/-- Scratch stays where it physically is: each physical cluster's rows, under the logical cluster that now stands there; a
spare taken into use comes zeroed from its self-test (R392). -/
def moveScratch (old new : State) (f : Nat) : State :=
  let moved := movedClusters old new f
  let dest (c : Nat) : Option Nat := if moved.contains c then moved.find? fun d => physOf new d == physOf old c else some c
  let rekey {α : Type} [DecidableEq α] (d : α) (w : Nat) (m : List (Nat × α)) : List (Nat × α) :=
    m.foldl (fun r e => match dest (e.1 / w) with | some c => put d r (c * w + e.1 % w) e.2 | none => r) []
  if moved.isEmpty then new
  else { new with scratch := rekey 0 4194304 old.scratch, badPar := rekey false (128 * 8192) old.badPar,
                  poisonRow := rekey false 8192 old.poisonRow }

/-! ### The sequence of a calving (Table 09.6) -/

def calvePhase (s : State) (f : Nat) : Nat := getF s (fieldBase f) F.FLD_CALVE_STAT_PHASE
def setPhase (s : State) (f p : Nat) : State := putF s (fieldBase f) F.FLD_CALVE_STAT_PHASE p

/-- Calving may run: Jitor is up, and the engine is FROZEN by a rollback, at a step's checkpoint, or outside any domain. -/
def calveGate (s : State) : Bool := jitorUp s && !(anyLife s .live) && anyFrozen s && (s.dom.rolled || s.dom.atCkpt || !(joined s))

/-- The log in steward RAM is appended to NVS (R241). -/
def flushLog (s : State) : State := modDep s fun d => { d with nvs := d.log }

/-- A condition that the steward raises behind no source. -/
def stewardCondition (s : State) (code : Nat) : State := putF s 0 F.MBX_MIRROR_LAST_CODE code

/-- What waits in steward RAM goes to NVS, or is held while the NVS clock is gated, with 0x8A the first time (R354). -/
def nvsFlush (s : State) : State :=
  if !(jitorUp s) then s
  else if isF s 0 F.MGT_CLK_EN_NVS then flushLog s
  else if s.dep.log == s.dep.nvs || s.steward.heldRaised then s
  else stewardCondition (modSteward s fun w => { w with heldRaised := true }) 0x8A

/-- CLU.STATUS.SHIFT of clusters. -/
def setShift (s : State) (l : List Nat) (on : Bool) : State := 
  l.foldl (fun s c => scrubMark (modCluster s c fun v => { v with shift := on }) c) s

/-- The calving of a request ends: its SHIFT flags and CALVE_PEND clear, its RETIRE answers. Its records are in NVS, whose gate
they ignore (R354). -/
def calveDone (s : State) (r : CalveReq) (way phase : Nat) : State :=
  let s := setShift (setPhase s r.field phase) ((fieldClusters r.field).filter fun c => (cluster s c).shift) false
  let s := flushLog (modDep s fun d => { d with calves := d.calves.drop 1 })
  match r.slot with
  | some slot => respond s slot 0 [way, r.pcx + 32 * r.pcy]
  | none => s

/-- What every retirement records: FLD.CALVE_STAT and the moraine entry. -/
def calveRecord (s : State) (r : CalveReq) (way code : Nat) : State :=
  let b := fieldBase r.field
  let s := wrapF (incF s b F.FLD_CALVE_STAT_CALVED 1) b F.FLD_CALVE_STAT_SEQ 1
  let s := putF (putF (putF s b F.FLD_CALVE_STAT_PCX r.pcx) b F.FLD_CALVE_STAT_PCY r.pcy) b F.FLD_CALVE_STAT_WAY way
  let hole := if way == 1 then rowHole s r.field else colHole s r.field r.pcy
  let s := hubReport s r.field code (r.pcx + 32 * r.pcy + 1024 * way + 4096 * hole)
  let s := if way == 1 then hubReport s r.field 0x26 (r.pcx + 32 * r.pcy + 1024 * way + 4096 * hole) else s
  morRecord s r.field r.pcx r.pcy code 4 r.source r.beat

/-- No spare is left: the cluster becomes unbacked, with 0x27, and the field is degraded (R24, R244). Steps 5 to 7 of Table 09.6 are
past; the engine stays FROZEN after step 8. -/
def calveUnbacked (s : State) (r : CalveReq) : State :=
  let s := match logicalAt s r.field r.pcx r.pcy with
    | some c => modCluster s c fun v => { v with calvePend := false }
    | none => s
  let s := modDep (retire s r 2) fun d => { d with stuck := true }
  let s := putF s (fieldBase r.field) F.FLD_CALVE_STAT_WAY 2
  setPhase (reassignBuddies (calveRecord s r 2 0x27) r.field) r.field 5

/-- The next calving begins: its self-test, or at once where no spare is left. -/
def calveBegin (s : State) : State :=
  s.dep.calves.foldl (fun s _ =>
    match s.dep.calves with
    | [] => s
    | r :: _ =>
      if calving s || !(calveGate s) || decide (168 ≤ r.field) then s
      else
        let way := wayOf s r
        if way == 2 then calveUnbacked s r
        else
          let b := fieldBase r.field
          let s := putF (putF (putF s b F.FLD_CALVE_STAT_PCX r.pcx) b F.FLD_CALVE_STAT_PCY r.pcy) b F.FLD_CALVE_STAT_WAY way
          let bad := match logicalAt s r.field r.pcx r.pcy with | some c => [c] | none => []
          let l := bad ++ movedClusters s (retire s r way) r.field
          setShift (setPhase s r.field 1) l true) s

/-- A spare's self-test ends (R244, R392). A spare that fails is marked bad and logged P, and the hub moves on to the next
way. -/
def execSpareSelftestDone (f : FieldId) (failed : List PhysId) (s : State) : Out :=
  let f := f.val
  let s := if calving s then s else calveBegin s
  match s.dep.calves with
  | [] => .next s
  | r :: _ =>
    if r.field != f || calvePhase s f != 1 || !(jitorUp s) then .next s
    else
      let way := getF s (fieldBase f) F.FLD_CALVE_STAT_WAY
      let spares := if way == 0 then [(colHole s f r.pcy, r.pcy)] else (List.range 25).map fun x => (x, 24)
      let lost := spares.filter fun p => failed.any (fun q => q.pcx.val == p.1 && q.pcy.val == p.2) &&
        !(bit (colBad s f p.2) p.1) && !(r.failed.contains p)
      if lost.isEmpty then .next (setPhase s f 2)
      else
        -- a spare has opened no beat, so its BEAT is 0
        let s := lost.foldl (fun s p => morRecord s f p.1 p.2 0x22 2 (5 * 16) 0) s
        let r := { r with failed := r.failed ++ lost }
        let s := modDep s fun d => { d with calves := r :: d.calves.drop 1 }
        if way == 1 && ones (colBad (markSpares s r) f 24) 25 ≤ 1 then .next (setPhase s f 2)
        else .next (calveBegin (setShift (setPhase s f 0) ((fieldClusters f).filter fun c => (cluster s c).shift) false))

/-! ### After the reload -/

/-- The checkpoint slot that holds a step. -/
def slotOf (s : State) (step : Nat) : Option Nat := (s.dom.slots.find? fun e => e.2 == step).map Prod.fst
def slotAddr (s : State) (i : Nat) : Nat := s.dom.ckpt + i * cocoonBytes (isF s 0 F.FAB_POLICY_SCRATCH)

/-- The replica that the partner holds is brought into the slot written before last, as the engine's own cocoon of the committed
step: its rows are the partner's, so free values (R239, R295). -/
def pullReplica (s : State) : State :=
  let slot := 1 - s.dom.slot; let a := slotAddr s slot; let scratch := isF s 0 F.FAB_POLICY_SCRATCH
  let step := getF s 0 F.FAB_COMMITTED_ID
  let (s, n) := nextFree s
  let head := cocoonHeader (putF s 0 F.FAB_STEP_ID step) a scratch false
  let s := (List.range (cocoonBytes scratch / 512 - 1)).foldl (fun s i => granuleWrite s (a + 512 + 512 * i) (Config.replicaRow n i) false) s
  let s := putRows s a ((rowsOf 1 head).map fun r => (r, false))
  { s with cocoons := put none s.cocoons a none, dom := { s.dom with slot, slots := (slot, step) :: s.dom.slots.filter fun e => e.1 != slot } }

/-- The last committed checkpoint is restored into every tile, from the engine's own firn or from its partner's replica (R239). -/
def restoreCommitted (s : State) : State :=
  let restore (s : State) : State :=
    match slotOf s (getF s 0 F.FAB_COMMITTED_ID) with
    | some i => restoreCocoon s (slotAddr s i) false
    | none => (List.range 168).foldl restoreField (restoreClusters s)
  if (slotOf s (getF s 0 F.FAB_COMMITTED_ID)).isSome || getF s 0 F.FAB_POLICY_REPLICA == 0xFFFF then restore s
  else restore (pullReplica s)

/-- Only some clusters restored from the commit's cocoon (R246). -/
def restoreSome (s : State) (a : Nat) (cs : List Nat) : State :=
  let r := restoreCocoon s a false
  let ks := cs.flatMap clusterTiles
  let own (c : Nat) : Bool := cs.contains c
  let s := { s with csr := Sparse.drop (fun a => savedReg a && ks.any fun k => decide (tileBase k ≤ a) && decide (a < tileBase k + 0x4000)) s.csr }
  let s := (r.csr.filter fun e => ks.any fun k => decide (tileBase k ≤ e.1) && decide (e.1 < tileBase k + 0x4000)).foldl (fun s e => wr s e.1 e.2.toNat) s
  let s := ks.foldl (fun s k => setTile s k (tile r k)) s
  let pick {α : Type} [DecidableEq α] (d : α) (w : Nat) (m n : List (Nat × α)) : List (Nat × α) :=
    (n.filter fun e => own (e.1 / w)).foldl (fun a e => put d a e.1 e.2) (Sparse.drop (fun k => own (k / w)) m)
  { s with scratch := pick 0 4194304 s.scratch r.scratch, badPar := pick false (128 * 8192) s.badPar r.badPar,
           poisonRow := pick false 8192 s.poisonRow r.poisonRow }

/-- The commit's freeze ends: the engine thaws for the next step, unless it was FROZEN before, an input holds it so, or a calving
left a cluster unbacked (R238, R246, R250). -/
def checkpointEnd (s : State) : State :=
  let held := s.dom.ckptHeld
  let s := { s with dom := { s.dom with atCkpt := false, ckptHeld := false } }
  if held || isF s 0 F.PWR_DIN_FRZ_ACT || s.dep.stuck then s else thawAll s

/-- The reloaded tiles have ecloded: the restore begins (Table 09.6, step 8). -/
def calveReloaded (s : State) (f : Nat) : State :=
  setPhase (modLoad s fun l => if l.calve then { l with running := false, calve := false, standby := true } else l) f 4

/-- Step 8 of Table 09.6: at a commit the reloaded clusters get back the state of the step boundary; by a rollback every tile gets
the checkpoint, once no calving is left (R239, R246). Then the moraine records are durable, the calving is over, and the next
begins. -/
def calveEnd (s : State) : State :=
  match s.dep.calves with
  | [] => s
  | r :: _ =>
    if 168 ≤ r.field || calvePhase s r.field < 4 then s
    else
      let shifted := (fieldClusters r.field).filter fun c => (cluster s c).shift && backed s c
      let s := match (if s.dom.rolled then none else s.dom.voting.bind (slotOf s)) with
        | some i => restoreSome s (slotAddr s i) shifted
        | none => s
      let s := calveBegin (calveDone s r (getF s (fieldBase r.field) F.FLD_CALVE_STAT_WAY) 0)
      if !s.dep.calves.isEmpty then s
      else if s.dom.rolled then restoreCommitted s
      else if s.dom.atCkpt then checkpointEnd s else s

/-- The rows of clusters `l` hold no flit: no router in them, and no link between them (R191). -/
def rowsEmpty (s : State) (f : Nat) (l : List Nat) : Bool :=
  s.tiles.all fun e => tileField e.1 != f || !((l.map lcy).contains (lcy (tileCluster e.1))) ||
    (e.2.inq.all (fun q => q.2.isEmpty) && e.2.link.all (fun q => q.2.isEmpty) && e.2.eject.isNone)

/-- The hub updates the shift tables as one change, rewrites LINK_SEL and places the shifted clusters' tiles in INSTAR with
0x25 (R25, R245); Jitor reloads them. -/
def execShiftTableUpdate (f : FieldId) (s : State) : Out :=
  let f := f.val
  match s.dep.calves with
  | [] => .next s
  | r :: _ =>
    if r.field != f || calvePhase s f != 2 || !(calveGate s) then .next s
    else
      let old := s
      let way := getF s (fieldBase f) F.FLD_CALVE_STAT_WAY
      if !(rowsEmpty s f (movedClusters s (retire s r way) f)) then .next s
      else
      let s := match logicalAt s f r.pcx r.pcy with
        | some c => modCluster s c fun v => { v with calvePend := false }
        | none => s
      let s := moveScratch old (retire s r way) f
      let moved := (movedClusters old s f).filter fun c => backed s c
      let s := calveRecord s r way 0x25
      let tiles := moved.flatMap clusterTiles
      let s := reassignBuddies (tiles.foldl enterInstar s) f
      match s.beats.image with
      | some base =>
        if tiles.isEmpty then .next (calveReloaded (setPhase s f 4) f)
        else .next (setPhase { s with load := some { base, standby := false, slot := 0, calve := true, left := tiles.length } } f 3)
      | none => .next (calveReloaded (setPhase s f 4) f)

/-- Eclosion of a tile (R211). The tiles of a cluster eclode in ascending T, as their CLU records apply (R205). A tile
that a calving reloaded enters FROZEN (Table 09.6). -/
def execEclosion (t : TileId) (s : State) : Out :=
  let k := tileNo t; let c := tileCluster k; let f := tileField k
  if life s k != .instar || !(tile s k).verified || !(released s k) ||
      ((List.range (tileT k)).any fun j => life s (clusterTile c j) == .instar) then .next s
  else
    let b := tileBase k
    let s := resetRegs s fun a => decide (b ≤ a) && decide (a < b + 0x4000) && eclosed (a - b)
    let s := modTile s k fun t => t.cleared s.tc
    let s := if tileT k == 0 then eclodeCluster s c else s
    let s := rampTrigger s k
    let s := takeBank s k 480
    let s := wr s (b + F.TSQ_CFG_BANK.off) (bankTag s k 480 * 2 ^ 32)
    let s := (namedBanks s k).foldl (fun s e => setCfgb s k e.1 e.2 true) s
    let s := modTile s k fun t => { t with seen := (field s f).pulses, tails := (field s f).pulses, overruns := (field s f).pulses,
                                           verified := false, rowsSeen := 0 }
    let st := match s.load with | some l => if l.calve then Life.frozen else .live | none => .live
    let s := noteEclosed (setLife s k { st }) f (bankTag s k 480) st
    .next (noteState s (if st == .frozen && lifeCount s f .instar == 0 then calveReloaded s f else s))

/-! ### CALVE (R248) -/

/-- The target of a CALVE: its field and physical cluster, or the code it is refused with. -/
def calveTarget (s : State) (slot : Nat) : Nat × Nat × Nat ⊕ Nat :=
  let a := arg s slot 0
  let w := bits a 10 1; let fy := bits a 11 3; let fx := bits a 14 4; let x := bits a 18 5; let y := bits a 23 5
  let f := 84 * w + 12 * fy + fx
  if 6 < fy || 11 < fx then .inr 0x01
  else if bit a 9 then (if 24 < x || 24 < y then .inr 0x01 else .inl (f, x, y))
  else if 23 < x || 23 < y then .inr 0x01
  else if !(backed s (fieldCluster f x y)) then .inr 0x03
  else
    let p := physOf s (fieldCluster f x y)
    .inl (f, p.1, p.2)

def calveOp (slot op : Nat) (s : State) : Bool := bits (arg s slot 0) 0 8 == op
/-- The defined bits of CALVE's argument words (Table 09.9). -/
def calveMask : List Nat := [0xF0FFFFFFF, 2 ^ 32 - 1]

/-- A spare that stands parked in a row in use is retired: permanent as any cluster, though no beat is its own. By a rollback the
engine votes the open step failed (R245, R248). -/
def spareRetired (s : State) (f x y : Nat) (now : Bool) : State :=
  let s := morRecord (hubReport s f 0x22 (x + 32 * y)) f x y 0x22 2 (7 * 16) 0
  let s := modDep s fun d => { d with calves := addCalve d.calves { field := f, pcx := x, pcy := y, now, source := 7 * 16 } }
  if now then { s with stepFail := true } else s

/-- RETIRE: at the next commit, or now by a rollback. -/
def retireBody (slot : Nat) (s : State) : State :=
  if calving s then respond s slot 0x29 []
  else match calveTarget s slot with
    | .inr code => respond s slot code []
    | .inl (f, x, y) =>
      let now := bit (arg s slot 0) 8
      if bit (colBad s f y) x || !(inUse s f y) then respond s slot 0x28 []
      else
        let s := match logicalAt s f x y with
          | some c => permanent s c (7 * 16) (if now then some (parity s (clusterTile c 0)) else none)
          | none => spareRetired s f x y now
        if now then
          let s := modDep s fun d => { d with calves := d.calves.map fun r =>
            if r.field == f && r.pcx == x && r.pcy == y then { r with slot := some slot } else r }
          await s slot .retire
        else respond s slot 0 []

def execCalveRetire (slot : Fin 34) (s : State) : Out := mailbox 0x50 slot.val (calveOp slot.val 0) calveMask (retireBody slot.val) s

/-- REINSTATE: a cluster calved in service, after a self-test that passes; effective at the next map build. -/
def reinstateBody (slot : Nat) (ok : Bool) (s : State) : State :=
  if calving s then respond s slot 0x29 []
  else match calveTarget s slot with
    | .inr code => respond s slot code []
    | .inl (f, x, y) =>
      if (morEnt s (morIndex f x y)).state != 2 || s.steward.loaded || !ok then respond s slot 0x28 []
      else
        let (s, n) := nextFree s
        let w := (Config.freeWord n).toNat
        let s := nvsFlush (morRecord s f x y (knownCode (bits w 0 8)) 5 (7 * 16) (bits w 8 16))
        let b := fieldBase f
        respond (putF s b F.FLD_CALVE_STAT_CALVED (getF s b F.FLD_CALVE_STAT_CALVED - 1)) slot 0 []

def execCalveReinstate (slot : Fin 34) (selftestOk : Bool) (s : State) : Out :=
  mailbox 0x50 slot.val (calveOp slot.val 1) calveMask (reinstateBody slot.val selftestOk) s

/-- SET_POLICY (R242). -/
def setPolicyBody (slot : Nat) (s : State) : State :=
  let n := bits (arg s slot 0) 32 4; let w := bits (arg s slot 1) 0 32
  if calving s then respond s slot 0x29 []
  else if n == 0 || decide (8 < n) || decide (w < 60) || decide (2592000 < w) then respond s slot 0x28 []
  else respond (modDep s fun d => { d with policyN := n, policyWin := w }) slot 0 [n, w]

def execCalveSetPolicy (slot : Fin 34) (s : State) : Out := mailbox 0x50 slot.val (calveOp slot.val 2) calveMask (setPolicyBody slot.val) s

/-- GET_POLICY; an OP beyond 3 is no operation of CALVE. -/
def getPolicyBody (slot : Nat) (s : State) : State :=
  if 3 < bits (arg s slot 0) 0 8 then respond s slot 0x82 []
  else if calving s then respond s slot 0x29 []
  else respond s slot 0 [s.dep.policyN, s.dep.policyWin]

def execCalveGetPolicy (slot : Fin 34) (s : State) : Out :=
  mailbox 0x50 slot.val (fun s => decide (3 ≤ bits (arg s slot.val 0) 0 8)) calveMask (getPolicyBody slot.val) s

/-! ### READ_HISTORY (R249) and the flush (R241) -/

def recBytes (r : MorRec) : List Byte :=
  toBytes 4 r.time ++ toBytes 1 r.pcx ++ toBytes 1 r.pcy ++ toBytes 1 r.field ++ toBytes 1 r.code ++ toBytes 1 r.outcome ++
    toBytes 1 r.source ++ toBytes 2 r.beat ++ toBytes 4 r.seq

def entBytes (e : MorEnt) : List Byte :=
  toBytes 1 e.state ++ toBytes 1 e.nrec ++ toBytes 2 e.events ++ toBytes 4 e.calvedAt ++ toBytes 4 e.lastSeq ++ toBytes 20 0 ++
    (List.range 8).flatMap fun i => toBytes 4 (e.times.getD i 0)

def historyBody (slot : Nat) (s : State) : State :=
  let a := arg s slot 0; let dest := arg s slot 1; let max_ := arg s slot 2
  let sel := bits a 0 2; let start := bits a 32 32
  let log := s.dep.log
  let oldest := match log.ring with | r :: _ => r.seq | [] => log.seq
  let size := if sel == 2 then 64 else 16
  if sel == 3 then respond s slot 0x82 []
  else if dest % 64 != 0 || max_ == 0 || decide (65536 < max_) || decide (2 ^ 41 < dest + size * max_) || (sel == 2 && decide (104999 < start)) then
    respond s slot 0x01 []
  else if sel == 2 then
    let l := ((List.range max_).map (start + ·)).filter fun i => decide (i < 105000)
    let s := putFirn s dest (l.flatMap fun i => entBytes (morEnt s i))
    respond s slot 0 [l.length + (start + l.length) % 2 ^ 32 * 2 ^ 32, oldest]
  else
    let l := log.ring.filter fun r => decide (start ≤ r.seq) &&
      (sel == 0 || (r.field == bits a 8 8 && r.pcx == bits a 16 5 && r.pcy == bits a 21 5))
    let out := l.take max_
    let next := if out.length < l.length then (match out.getLast? with | some r => r.seq + 1 | none => start) else log.seq
    let s := putFirn s dest (out.flatMap recBytes)
    respond s slot 0 [out.length + next % 2 ^ 32 * 2 ^ 32, oldest + (oldest - start) % 2 ^ 32 * 2 ^ 32]

def execReadHistory (slot : Fin 34) (s : State) : Out :=
  mailbox 0x51 slot.val yes [0xFFFFFFFF03FFFF03, 2 ^ 64 - 1, 2 ^ 32 - 1] (historyBody slot.val) s

/-- Jitor appends to NVS what waits in steward RAM (R241). A calving whose restore is under way ends with it: the records are
written alongside (Table 09.6, step 8). -/
def moraineFlush (s : State) : State := nvsFlush (calveEnd s)

def execMoraineFlush (s : State) : Out := .next (noteState s (moraineFlush s))

end Sys2Proof.Machine
end

