-- ==== Sys2Proof/Machine/Ports.lean ====
section
/-! DEFINITION. Fabric ports: states, frames received and sent, channels, credits, MACsec counts, heartbeats (R271 to R287). -/

namespace Sys2Proof.Machine

def port (s : State) (p : Nat) : Port := look {} s.ports p
def modPort (s : State) (p : Nat) (f : Port → Port) : State := { s with ports := put {} s.ports p (f (port s p)) }
/-- A word with bit `i` set or cleared. -/
def putBit (v i : Nat) (on : Bool) : Nat := setBits v i 1 (b2n on)

/-- The receive clock of ports 0 to 3 is a source of the reference, active while the port's lanes are aligned; it qualifies anew
each time (Table 13.1, R328). -/
def portClock (s : State) (p : Nat) (up : Bool) : State :=
  if 4 ≤ p then s
  else
    let s := putF s 0 F.CLK_STATUS_ACT (putBit (getF s 0 F.CLK_STATUS_ACT) p up)
    putF s 0 F.CLK_STATUS_QUALIFIED (putBit (getF s 0 F.CLK_STATUS_QUALIFIED) p false)

/-- A port changes its state. -/
def setPort (s : State) (p st : Nat) : State :=
  portClock (modPort (putF s (fab p) F.FAB_STATUS_STATE st) p fun v => { v with since := s.tc }) p (st == 2)

def portCondition (s : State) (p code : Nat) : State := condition s (192 + p) code

/-- Time in ns. -/
def nowNs (s : State) : Nat := s.tc * 1000 / max 1 (freq s)

/-! ### Loss (R274, R286, R297) -/

/-- The commit parent's port, and a frame to it. -/
def parentPort (s : State) : Nat := getF s 0 F.FAB_DOM_CFG_CPORT
def toParent (s : State) (op operand : Nat) : State :=
  let p := parentPort s
  sendFrame s p (toPeer s p (getF s 0 F.FAB_DOM_CFG_CENTRY) (mgmtFrame s op operand))

/-- Every port whose entry 0 names engine `l` has gone LOST: 0x42, a cause to vote every open step failed, and a LOST frame to
the commit parent (Table 11.10). -/
def partnerLost (s : State) (l : Nat) : State :=
  let ps := (List.range 32).filter fun p => peerId s p 0 == l
  if l == 0xFFFF || !(ps.all fun p => portState s p == 3) then s
  else
    let s := condition { s with dom := { s.dom with lost := if s.dom.lost.contains l then s.dom.lost else s.dom.lost ++ [l] } } 321 0x42
    let s := pulse s 321
    if joined s then toParent { s with dom := { s.dom with fail := 0x42 } } 6 (l + 0x42 * 2 ^ 16) else s

/-- A port goes to LOST: its tags are released. -/
def portDown (s : State) (p : Nat) : State :=
  let s := incF s (fab p) F.FAB_DL_CNT_ABANDONED (port s p).inflight.length
  let s := modPort (setPort s p 3) p fun v => { v with inflight := [], hbSent := [], hbSeen := none }
  partnerLost (putF s (fab p) F.FAB_STATUS_HB_LIVE 0) (peerId s p 0)

/-- As `portDown`, with 0x40. -/
def portLost (s : State) (p : Nat) : State := portDown (setF (portCondition s p 0x40) (fab p) F.FAB_ERR_LINK_LOST) p

/-! ### Port states (Table 11.1) -/

/-- Training starts, but during a voltage step (R274). -/
def portTrain (s : State) (p : Nat) : State := if isF s 0 F.PWR_DVFS_BUSY then s else setPort s p 1

/-- A write of FAB.CFG(p). Before the fabric's link-up the port stays dark (Table 11.5). -/
def writeFabCfg (s : State) (p : Nat) (v : Word) : State :=
  let s := plainWrite s (fab p + F.FAB_CFG_EN.off) v
  if isF s (fab p) F.FAB_CFG_EN then
    (if portState s p == 4 then (if 8 < phase s then portTrain s p else setPort s p 0) else s)
  else if portState s p == 4 then s
  else
    let s := putF s (fab p) F.FAB_STATUS_HB_LIVE 0
    let s := incF s (fab p) F.FAB_DL_CNT_ABANDONED (port s p).inflight.length
    setPort (modPort s p fun v => { v with inflight := [], hbSent := [] }) p 4

def execPortEnable (p : Fin 32) (v : Word) (s : State) : Out := .next (writeFabCfg s p.val v)

/-- 200 ms of training end it (Table 11.1). -/
def execPortTrainTimeout (p : Fin 32) (s : State) : Out :=
  if portState s p.val == 1 && decide ((port s p.val).since + usTc s 200000 ≤ s.tc) then .next (portDown s p.val) else .next s

/-- No sooner than 1 ms after the loss, the command says that light is received; a port enabled during a voltage step trains after it. -/
def execPortRetrain (p : Fin 32) (s : State) : Out :=
  let p := p.val
  if portState s p == 3 && decide ((port s p).since + usTc s 1000 ≤ s.tc) then .next (portTrain s p)
  else if portState s p == 4 && isF s (fab p) F.FAB_CFG_EN then .next (portTrain s p)
  else .next s

def execLightLoss (p : Fin 32) (s : State) : Out :=
  let p := p.val
  if portUp s p || portState s p == 1 then
    .next (portLost (putF s (fab p) F.FAB_STATUS_LANES_OK 0) p)
  else .next s

def execLaneAlignmentLoss (p : Fin 32) (lane : Fin 8) (s : State) : Out :=
  let p := p.val
  if portUp s p then
    let l := getF s (fab p) F.FAB_STATUS_LANES_OK
    .next (portLost (putF s (fab p) F.FAB_STATUS_LANES_OK (l - l / 2 ^ lane.val % 2 * 2 ^ lane.val)) p)
  else .next s

/-! ### Packet numbers (R284) -/

/-- The range of the transmit packet number. -/
def pnRange (s : State) (p : Nat) : Nat := if isF s (fab p) F.FAB_MACSEC_XPN then 2 ^ 64 else 2 ^ 32

/-- What the packet number of the frames just sent does: 0x4B once past three quarters of the range; at exhaustion the SA
changes, or the port goes to LOST. -/
def pnCheck (s : State) (p : Nat) : State :=
  let v := port s p; let r := pnRange s p
  if !(isF s (fab p) F.FAB_MACSEC_EN) then s
  else
    let s := if v.pn * 4 > 3 * r && !v.pnHigh then
        setF (portCondition (modPort s p fun v => { v with pnHigh := true }) p 0x4B) (fab p) F.FAB_ERR_PN_HIGH else s
    if v.pn < r then s
    else
      let an := getF s (fab p) F.FAB_MACSEC_TX_AN
      if an != v.an && v.keys.contains an then
        modPort s p fun v => { v with an, pn := 0, pnHigh := false, keys := v.keys.filter fun x => x != an }
      else portDown s p

/-- A write of FAB.KEY(p, a, w): the association has a new key once its last word is written. -/
def writeKey (s : State) (p a w : Nat) (v : Word) : State :=
  let s := wr s (0x800000 + 0x10000 * p + 0x40 + 48 * a + 8 * w) v.toNat
  if w == 5 then modPort s p fun v => { v with keys := a :: v.keys.filter fun x => x != a } else s

/-! ### Receiving (R276, R277, R284) -/

def drop (s : State) (p : Nat) : State := incF s (fab p) F.FAB_DL_CNT_DROP 1

/-- The two comparisons of R277. -/
def destOurs (s : State) (p : Nat) (f : Frame) : Bool := f.dest == macOf s p || f.dest == broadcast
def typeOurs (s : State) (p : Nat) (f : Frame) : Bool :=
  f.etype.toNat == getF s 0 F.FAB_DOM_CFG_ETYPE && f.sec == isF s (fab p) F.FAB_MACSEC_EN

/-- The MACsec check: the association is valid, and the ICV too. -/
def icvGood (s : State) (p : Nat) (f : Frame) : Bool := f.icvOk && bit (getF s (fab p) F.FAB_MACSEC_RX_AN) f.an.toNat

/-- An operation, or a kind of ORDER, that Table 11.4 does not define. -/
def opReserved (f : Frame) : Bool := decide (8 ≤ f.op.toNat) || (f.op == 5 && decide (5 < bits f.operand.toNat 0 4))

/-- A frame that R276 discards. -/
def frameBad (s : State) (f : Frame) : Bool :=
  !f.crcOk || f.ver != 1 || opReserved f || !f.zerosOk || (f.op == 0 && f.operand != 0) ||
    !(f.dstId.toNat == getF s 0 F.FAB_DOM_ID && f.dstId != 0xFFFF || (f.op == 2 && f.dstId == 0xFFFF)) ||
    (f.dest == broadcast && !(f.op == 2 && f.dstId == 0xFFFF))

/-- A frame comes to an UP port: foreign ones, failed ICVs and bad ones are discarded and counted; the others are accepted. -/
def receive (s : State) (p : Nat) (f : Frame) (body : State → State) : State :=
  let b := fab p
  if !(portUp s p) then s
  else if !(destOurs s p f) then incF s b F.FAB_FOREIGN_OTHER_DEST 1
  else if !(typeOurs s p f) then incF s b F.FAB_FOREIGN_OTHER_TYPE 1
  else if isF s b F.FAB_MACSEC_EN && !(icvGood s p f) then
    let first := getF s b F.FAB_MACSEC_ICV_FAIL == 0
    let s := incF (drop s p) b F.FAB_MACSEC_ICV_FAIL 1
    if first then setF (portCondition s p 0x44) b F.FAB_ERR_ICV else s
  else if frameBad s f then drop s p
  else body (incF s b F.FAB_CNT_RX 1)

/-- The frame is one that another command receives: addressed to the port, of the protocol, of a defined operation. -/
def frameElse (s : State) (p : Nat) (f : Frame) : Bool := destOurs s p f && typeOurs s p f && !(opReserved f)

/-- The shape of a command that receives a Driftline frame with operation `op`; a reserved one is discarded by any of them. -/
def frameIn (op : Nat) (p : Fin 32) (f : Frame) (body : State → State) (s : State) : Out :=
  if f.op.toNat != op && frameElse s p.val f then .next s else .next (receive s p.val f body)

/-- A frame for another address or protocol (R277), or of a reserved operation (R276). -/
def execForeignFrame (p : Fin 32) (fr : Frame) (s : State) : Out :=
  if frameElse s p.val fr then .next s else .next (receive s p.val fr id)

/-! ### Heartbeats (R285, R287) -/

/-- STATE of a heartbeat (Table 11.4). -/
def hbState (s : State) : Nat :=
  match mirrorState s with
  | 1 | 2 => 1
  | 3 => 2
  | 4 => 3
  | 5 => 4
  | _ => 0

/-- A heartbeat leaves, 100 ns after the last one. It echoes nothing, with no hold, before one has come. -/
def execHeartbeatSend (p : Fin 32) (s : State) : Out :=
  let p := p.val; let v := port s p
  if !(portUp s p || portState s p == 3) then .next s
  else
    let s := waitTc s v.hbDue
    let now := nowNs s
    let hold := if v.hbSeen.isSome then now - v.hbAt else 0
    let operand := v.hbSeq % 65536 + (v.hbSeen.getD 0) % 65536 * 2 ^ 16 + hold % 65536 * 2 ^ 32 + hbState s * 2 ^ 48
    let fr := toPeer s p 0 (mgmtFrame s 2 operand)
    let fr := if joined s then fr else { fr with dstId := 0xFFFF }
    let s := modPort s p fun v => { v with hbSeq := (v.hbSeq + 1) % 65536, hbDue := s.tc + nsTc s 100, hbSent := v.hbSent ++ [(v.hbSeq % 65536, now)] }
    .next (pnCheck (sendFrame s p fr) p)

/-- The smallest round trip of the last ms (R288). -/
def rttMin (s : State) (p : Nat) : Option Nat :=
  (((port s p).rtts.filter fun x => decide (s.tc ≤ x.1 + usTc s 1000)).map Prod.snd).head?

/-- The round trip of an echoed heartbeat; over ECHO_LIM it raises 0x41, a notice. -/
def echo (s : State) (p now seq hold : Nat) : State :=
  let b := fab p
  match (port s p).hbSent.find? fun e => e.1 == seq with
  | none => s
  | some e =>
    let rtt := now - e.2 - hold
    let s := maxF (putF s b F.FAB_HB_RTT (min 0xFFFF rtt)) b F.FAB_HB_RTT_MAX rtt
    let s := modPort s p fun v => { v with hbSent := (v.hbSent.dropWhile fun x => x.1 != seq).drop 1
                                           rtts := (v.rtts.filter fun x => decide (x.2 < rtt)) ++ [(s.tc, rtt)] }
    let lim := getF s b F.FAB_CFG_ECHO_LIM
    if lim != 0 && decide (1000 * lim < rtt) then
      setF (portCondition (incF s b F.FAB_HB_LATE 1) p 0x41) b F.FAB_ERR_ECHO_LATE
    else s

def execHeartbeat (p : Fin 32) (fr : Frame) (now : Nat) (s : State) : Out :=
  frameIn 2 p fr (fun s =>
    let p := p.val; let o := fr.operand.toNat
    let s := if peerId s p 0 == 0xFFFF then
        wr s (fab p + F.FAB_PEER_ID.off) (fr.srcId.toNat * 2 ^ 48 + fr.mac.toNat) else s
    let s := incF s (fab p) F.FAB_HB_MISSED ((s.tc - (port s p).hbTc - 1) / max 1 (nsTc s 100))
    let s := setF (modPort s p fun v => { v with hbSeen := some (bits o 0 16), hbAt := now, hbTc := s.tc }) (fab p) F.FAB_STATUS_HB_LIVE
    echo s p now (bits o 16 16) (bits o 32 16)) s

/-- Eight empty slots of 100 ns (R286). -/
def execHeartbeatTimeout (p : Fin 32) (s : State) : Out :=
  let p := p.val
  if portUp s p && decide ((port s p).hbTc + nsTc s 800 ≤ s.tc) then .next (portLost (incF s (fab p) F.FAB_HB_MISSED 8) p) else .next s

/-! ### Channels (R278 to R283) -/

def chanF (f : Fld) (c : Nat) : Fld := f.at (8 * c)
def chanGet (s : State) (p c : Nat) (f : Fld) : Nat := getF s (fab p) (chanF f c)
def chanOn (s : State) (p c : Nat) : Bool := chanGet s p c F.FAB_CHAN_EN == 1

/-- The enabled channels of a port. -/
def chansOn (s : State) (p : Nat) : List Nat := (List.range 1024).filter fun c => chanOn s p c

/-- A frame of a channel to its peer. -/
def chanFrame (s : State) (p c op operand : Nat) : Frame :=
  toPeer s p (chanGet s p c F.FAB_CHAN_PEER) { mgmtFrame s op operand with chan := Fin.ofNat 1024 (chanGet s p c F.FAB_CHAN_RCHAN) }

/-- Rows of a stream's two banks that hold nothing, counting rows on their way in. -/
def freeRows (s : State) (n : Nat) : Nat :=
  let v := strm s n
  2 * strF s n F.STR_CFG_BANKROWS - (ceilDiv v.prod.length 16 + ceilDiv v.cons.length 16 + v.rows.length)

/-- An ACK of a receiving channel: the tag last accepted, the cumulative SEQ, and the credits that became free (R279). A port that
sends none now grants nothing (R283). -/
def sendAck (s : State) (p c : Nat) : State :=
  if !(portUp s p) || loadHolds s then s
  else
  let v := port s p
  let n := chanGet s p c F.FAB_CHAN_STREAM; let had := look 0 v.granted c
  let more := freeRows s n - had
  let fr : Frame := { chanFrame s p c 1 (more % 2 ^ 14) with tag := Fin.ofNat 8192 (look 0 v.lastTag c), seq := BitVec.ofNat 32 (look 0 v.rxSeq c) - 1 }
  let s := modPort s p fun v => { v with granted := put 0 v.granted c (had + more) }
  sendFrame (putF s (fab p) (chanF F.FAB_CHAN_CREDITS c) (had + more)) p fr

/-- The receiving channel of a stream returns credits as rows leave its banks. -/
def returnCredits (s : State) (n : Nat) : State :=
  if strKind s n != 4 && strKind s n != 6 then s
  else
    (List.range 16).foldl (fun s i =>
      let p := 16 * strWing n + i
      match (bif portUp s p then chansOn s p else []).find? fun c => chanGet s p c F.FAB_CHAN_DIR == 1 && chanGet s p c F.FAB_CHAN_STREAM == n with
      | some c => if decide (look 0 (port s p).granted c < freeRows s n) then sendAck s p c else s
      | none => s) s

/-- A port comes UP; its receiving channels grant the free rows of their banks (R279). -/
def execPortTrainDone (p : Fin 32) (s : State) : Out :=
  let p := p.val
  if portState s p != 1 then .next s
  else
    let s := putF (incF (setPort s p 2) (fab p) F.FAB_STATUS_LINKUPS 1) (fab p) F.FAB_STATUS_LANES_OK 0xFF
    let s := modPort s p fun v => { v with hbTc := s.tc }
    .next ((chansOn s p).foldl (fun s c => if chanGet s p c F.FAB_CHAN_DIR == 1 then sendAck s p c else s) s)

/-- One side of a stream moves one flit (R261). -/
def execStreamFlitMove (n : Fin 65536) (producer : Bool) (ptrBad : Bool) (s : State) : Out :=
  if !producer && !ptrBad && !(strm s n.val).out.isEmpty && !(streamsHeld s) then .next (outMove s n.val)
  else if !(strRuns s n.val) then .next s
  else if ptrBad then .next (returnCredits (pointerReset s n.val) n.val)
  else if producer then .next (returnCredits (producerMove s n.val) n.val)
  else .next (returnCredits (consumerMove s n.val) n.val)

/-- A write of EN to 1 that R278 refuses. -/
def chanRefused (s : State) (p c v : Nat) : Bool :=
  let n := bits v 30 16; let dir := bits v 62 1; let k := strKind s n; let peer := bits v 56 6
  strWing n != p / 16 || (if dir == 0 then k != 3 && k != 5 else k != 4 && k != 6) || peerId s p peer == 0xFFFF ||
    ((List.range 32).any fun q => (chansOn s q).any fun d => (q != p || d != c) && chanGet s q d F.FAB_CHAN_STREAM == n) ||
    ((c == 1023 || n % 32768 == 32767) && getF s 0 F.FAB_POLICY_REPLICA != 0xFFFF)

/-- A write of FAB.CHAN(p, c). Every write of EN to 1 is checked; a receiving channel that it enables grants its credits. -/
def writeChan (s : State) (p c : Nat) (v : Word) : State :=
  let a := fab p + F.FAB_CHAN_EN.off + 8 * c
  if bit v.toNat 63 then
    if chanRefused s p c v.toNat then
      setF (portCondition (plainWrite s a (v &&& ~~~(BitVec.ofNat 64 (2 ^ 63)))) p 0x4A) (fab p) F.FAB_ERR_CHAN_REF
    else
      let s := plainWrite s a v
      if bit v.toNat 62 then sendAck s p c else s
  else plainWrite s a v

def execChannelEnable (p : Fin 32) (c : Fin 1024) (v : Word) (s : State) : Out := .next (writeChan s p.val c.val v)

/-- The lowest tag of a port that no frame in flight holds. -/
def freeTag (s : State) (p : Nat) : Option Nat :=
  let used := (port s p).inflight.map InFlight.tag
  if 8192 ≤ used.length then none else (List.range (used.length + 1)).find? fun t => !(used.contains t)

/-- Flits that a stream has for the fabric: those of a row begun in another bank, then the bank handed over. -/
def fabricFlits (v : Strm) : List SFlit := v.held ++ v.cons

/-- The first `n` rows of them, with their marks, and whether the last ends a transfer. -/
def bankRows (v : Strm) (n : Nat) : List (Row × Bool) × Bool :=
  let fs := (fabricFlits v).take (16 * n)
  ((List.range n).map fun i =>
      let r := (fs.drop (16 * i)).take 16
      (rowOfFlits (r.map SFlit.data), r.any SFlit.poison),
   fs.getLast?.any SFlit.fin)

/-- A DATA frame goes out and stays in flight until it is acknowledged. -/
def sendData (s : State) (p c tag : Nat) (rows : List (Row × Bool)) (fin : Bool) : State :=
  let v := port s p; let seq := look 0 v.txSeq c
  let marks := ((List.range rows.length).map fun i => b2n ((rows.getD i (0, false)).2) * 2 ^ i).sum
  let fr : Frame := { chanFrame s p c 0 0 with isEnd := fin, tag := Fin.ofNat 8192 tag, seq := BitVec.ofNat 32 seq,
                                               rows := rows.map Prod.fst, poison := BitVec.ofNat 16 marks }
  let s := modPort s p fun v => { v with txSeq := put 0 v.txSeq c ((seq + 1) % 2 ^ 32), pn := v.pn + 1,
                                         inflight := v.inflight ++ [{ tag, chan := c, fr, at_ := s.tc }] }
  let s := putF s (fab p) (chanF F.FAB_CHAN_CREDITS c) (chanGet s p c F.FAB_CHAN_CREDITS - rows.length)
  pnCheck (incF s (fab p) F.FAB_CNT_TX 1) p

/-- A channel has a frame to send: it is enabled, its stream moves and holds rows, and it holds credits (R278, R279). -/
def chanReady (s : State) (p c : Nat) : Bool :=
  let n := chanGet s p c F.FAB_CHAN_STREAM; let k := strKind s n
  chanOn s p c && chanGet s p c F.FAB_CHAN_DIR == 0 && (k == 3 || k == 5) && strRuns s n &&
    chanGet s p c F.FAB_CHAN_CREDITS != 0 && ((strm s n).owed || !(strm s n).cons.isEmpty)

/-- The port is the channel's: no stream of another channel that is ready comes first (R266). -/
def portGranted (s : State) (p c : Nat) : Bool :=
  (chansOn s p).all fun d => d == c || !(chanReady s p d) ||
    !(dueBefore s (32 + p) (chanGet s p d F.FAB_CHAN_STREAM) (chanGet s p c F.FAB_CHAN_STREAM))

/-- A sending channel sends 1 to 16 rows of its stream's bank, as far as its credits and tags go (R279). Flits of a row that goes on
in the other bank leave the bank and wait. -/
def execDataFrameSend (p : Fin 32) (c : Fin 1024) (s : State) : Out :=
  let p := p.val; let c := c.val
  let n := chanGet s p c F.FAB_CHAN_STREAM
  if !(portUp s p) || isF s 0 F.CLK_STATUS_SAFE || !(chanReady s p c) || !(portGranted s p c) then .next s
  else match freeTag s p with
    | none => .next s
    | some tag =>
      let s := served s (32 + p) n
      if (strm s n).owed then
        let (s, i) := nextFree (modStrm s n fun v => { v with owed := false })
        .next (sendData s p c tag [(Config.freeRow i, true)] false)
      else
        let s := waitTc s (strm s n).outTc
        let v := strm s n; let old := strLevel v
        let r := min 16 (min ((fabricFlits v).length / 16) (chanGet s p c F.FAB_CHAN_CREDITS))
        let rest := (fabricFlits v).drop (16 * r)
        let left := if rest.length < 16 then [] else rest
        let s := modStrm s n fun v =>
          { v with held := if rest.length < 16 then rest else [], cons := left, empty := if left.isEmpty then s.tc else v.empty
                   outTc := s.tc + (v.cons.length - left.length) }
        let s := strCross s n old
        if r == 0 then .next s
        else
          let (rows, fin) := bankRows v r
          .next (sendData (strEnergy s n (r * energyOut (strKind s n))) p c tag rows fin)

/-- A frame not acknowledged within RTO is sent again with every later frame of its channel; after four retransmissions the
port gives up with 0x43 (R279). -/
def execRetransmitTimeout (p : Fin 32) (tag : Fin 8192) (s : State) : Out :=
  let p := p.val; let b := fab p
  match (port s p).inflight.find? fun e => e.tag == tag.val with
  | none => .next s
  | some e =>
    if !(portUp s p) || isF s 0 F.CLK_STATUS_SAFE || loadHolds s || decide (s.tc < e.at_ + usTc s (max 1 (getF s b F.FAB_CFG_RTO))) then .next s
    else if 4 ≤ e.retx then .next (portDown (setF (portCondition s p 0x43) b F.FAB_ERR_RETX_EXH) p)
    else
      let later := fun (x : InFlight) => x.chan == e.chan && decide ((x.fr.seq - e.fr.seq).toNat < 2 ^ 31)
      let k := ((port s p).inflight.filter later).length
      let again := fun (x : InFlight) =>
        if later x then { x with retx := x.retx + 1, at_ := s.tc, fr := { x.fr with retx := true } } else x
      let s := modPort s p fun v => { v with pn := v.pn + k, inflight := v.inflight.map again }
      .next (pnCheck (incF (incF s b F.FAB_DL_CNT_RETX k) b F.FAB_CNT_TX k) p)

/-- DATA and ACK of another epoch are discarded, with 0x45 once per epoch (R282); and all of them during a full load (R283). -/
def current (s : State) (p : Nat) (f : Frame) (body : State → State) : State :=
  let e := getF s 0 F.FAB_DOM_EPOCH
  if loadHolds s then drop s p
  else if f.epoch.toNat == e then body s
  else
    let s := incF s (fab p) F.FAB_DL_CNT_STALE 1
    if s.dom.stale == some e then s
    else setF (portCondition { s with dom := { s.dom with stale := some e } } p 0x45) (fab p) F.FAB_ERR_STALE

/-- A DATA frame: the next of its channel in sequence enters the stream, and is acknowledged. -/
def execData (p : Fin 32) (fr : Frame) (s : State) : Out :=
  frameIn 0 p fr (fun s => current s p.val fr fun s =>
    let p := p.val; let c := fr.chan.val
    let n := chanGet s p c F.FAB_CHAN_STREAM
    if !(chanOn s p c) || chanGet s p c F.FAB_CHAN_DIR != 1 || (strKind s n != 4 && strKind s n != 6) || fr.seq.toNat != look 0 (port s p).rxSeq c ||
        decide (look 0 (port s p).granted c < fr.rows.length) then drop s p
    else
      let k := (strm s n).key; let l := fr.rows.length
      let rows : List InRow := (List.range l).map fun i =>
        { key := k + i, addr := 0, data := some (fr.rows.getD i 0, bit fr.poison.toNat i), fin := fr.isEnd && i + 1 == l }
      let s := modStrm s n fun v => { v with key := k + l, rows := v.rows ++ rows }
      let s := modPort s p fun v => { v with rxSeq := put 0 v.rxSeq c ((fr.seq.toNat + 1) % 2 ^ 32), lastTag := put 0 v.lastTag c fr.tag.val
                                             granted := put 0 v.granted c (look 0 v.granted c - l) }
      pnCheck (sendAck s p c) p) s

/-- An ACK: the frames of the channel up to its SEQ, the tag's among them, are released, and its credits held. -/
def execAck (p : Fin 32) (fr : Frame) (s : State) : Out :=
  frameIn 1 p fr (fun s => current s p.val fr fun s =>
    let p := p.val; let c := fr.chan.val
    let gone (x : InFlight) : Bool := x.chan == c && decide ((fr.seq - x.fr.seq).toNat < 2 ^ 31)
    let s := modPort s p fun v => { v with inflight := v.inflight.filter fun x => !(gone x) }
    putF s (fab p) (chanF F.FAB_CHAN_CREDITS c) (satAdd 16383 (chanGet s p c F.FAB_CHAN_CREDITS) (bits fr.operand.toNat 0 14))) s

/-- A MGMT frame goes to Jitor, which alone defines it (Table 11.4). -/
def execMgmt (p : Fin 32) (fr : Frame) (s : State) : Out := frameIn 7 p fr id s

end Sys2Proof.Machine
end

