-- ==== Sys2Proof/Machine/Domain.lean ====
section
/-! DEFINITION. The tick domain: joining, formation, ticks, steps, checkpoints, votes and orders (R237 to R239, R287 to R297). -/

namespace Sys2Proof.Machine

def modDom (s : State) (f : Dom → Dom) : State := { s with dom := f s.dom }

/-- A condition of the domain. -/
def domCondition (s : State) (code : Nat) : State := condition s 322 code

/-- FAB.DOM.PHASE changes, which pulses source 322 (Table 15.1). -/
def putPhase (s : State) (v : Nat) : State :=
  if getF s 0 F.FAB_DOM_PHASE == v then s else pulse (putF s 0 F.FAB_DOM_PHASE v) 322

/-! ### Joining (R291) -/

/-- An identifier lies inside the sizes of the domain. -/
def idInside (id nsect nrow nslot : Nat) : Bool :=
  decide (bits id 10 6 ≤ nsect) && decide (bits id 5 5 ≤ nrow) && decide (bits id 0 5 ≤ nslot)

/-- A live engine with this identifier stands at the other end of a port (R287). -/
def seesLive (s : State) (id : Nat) : Bool := (List.range 32).any fun p => portUp s p && peerId s p 0 == id

/-- FABRIC_JOIN is refused with 0x49: the cases of R291, and sizes that no domain has (R16, Table 11.6), for which the spec gives
no code (DESIGN CHOICE, log entry 141). -/
def joinRefused (s : State) (a : Nat) : Bool :=
  let id := bits a 0 16; let tp := bits a 16 3
  decide (47 < bits a 20 6) || !(idInside id (bits a 20 6) (bits a 26 5) (bits a 31 5)) || decide (4 < tp) || (tp == 4) != (id == 0) || joined s ||
    (bit a 19 && seesLive s id)

/-- The join takes effect: identifier, sizes, commit parent, TICK_OUT, the preferred reference (R334); a train of the engine's
own stops (R396). -/
def joinApply (s : State) (a b c : Nat) : State :=
  let s := putF (putF s 0 F.FAB_DOM_ID (bits a 0 16)) 0 F.FAB_DOM_TICKPORT (bits a 16 3)
  let s := putF (putF (putF s 0 F.FAB_DOM_NSECTM1 (bits a 20 6)) 0 F.FAB_DOM_NROWM1 (bits a 26 5)) 0 F.FAB_DOM_NSLOTM1 (bits a 31 5)
  let s := putF (putF s 0 F.FAB_DOM_CFG_CPORT (bits b 0 5)) 0 F.FAB_DOM_CFG_CENTRY (bits b 5 6)
  let s := (List.range 32).foldl (fun s p => if bit c p then setF s (fab p) F.FAB_CFG_TICK_OUT else s) s
  let s := putF s 0 F.CLK_REF_CFG_PREF (bits a 16 3)
  modDom { s with beats := { s.beats with running := false, ticked := false } } fun d => { d with asked := none }

/-- The engine reports ready: a join that waited takes effect, and the 60 s of R291 begin. -/
def joinReady (s : State) : State :=
  let s := modDom s fun d => { d with readyTc := s.tc }
  match s.dom.asked with
  | some (a, b, c) => joinApply s a b c
  | none => s

def joinBody (slot : Nat) (s : State) : State :=
  let a := arg s slot 0; let b := arg s slot 1; let c := arg s slot 2
  if joinRefused s a then respond s slot 0x49 []
  else
    let s := await (setF s 0 F.FAB_DOM_JOINED) slot .join
    if engineReady s then joinApply s a b c else modDom s fun d => { d with asked := some (a, b, c) }

def execFabricJoin (slot : Fin 34) (s : State) : Out :=
  mailbox 0x70 slot.val yes [2 ^ 36 - 1, 2 ^ 11 - 1, 2 ^ 32 - 1] (joinBody slot.val) s

/-- No ORDER FORMED 60 s after ready. -/
def execJoinTimeout (s : State) : Out :=
  if joined s && engineReady s && decide (getF s 0 F.FAB_DOM_PHASE < 4) && decide (s.dom.readyTc + usTc s 60000000 ≤ s.tc) &&
      !(waiters s (· == .join)).isEmpty then
    .next (respondAll (putF (domCondition s 0x47) 0 F.FAB_DOM_JOINED 0) (· == .join) 0x47 [])
  else .next s

/-! ### Ticks (R288, R289) -/

/-- The domain beat number whose low 32 bits a TICK frame gives, nearest to the engine's. -/
def wideBeat (no n : Nat) : Nat :=
  let x := no / 2 ^ 32 * 2 ^ 32 + n
  if x + 2 ^ 31 ≤ no then x + 2 ^ 32 else x

/-- A TICK frame on the tick port: the tick came DELAY and 200 ns earlier. A tick that the engine's own count has still to
make falls then. Before alignment no tick falls at the engine: its first is the one after the frame's (R176, R292). -/
def tickFrame (s : State) (o : Nat) : State :=
  let n := wideBeat s.beats.no (bits o 0 32); let per := bits o 32 24
  let t := s.tc - nsTc s (getF s 0 F.FAB_TICK_DELAY + 200)
  let s := modDom s fun d => { d with period := per, tickFor := some n }
  let s := { s with clocks := { s.clocks with realigned := s.clocks.realigned || getF s 0 F.CLK_STATUS_CUR_SRC == getF s 0 F.FAB_DOM_TICKPORT } }
  let b := { s.beats with period := per }
  if !b.running then putF { s with beats := { b with ticked := false, no := n + 1, due := t + nsTc s per } } 0 F.FAB_TICK_BEAT n
  else if b.ticked && b.no == n then putF { s with beats := { b with at_ := t, due := t + nsTc s per } } 0 F.FAB_TICK_BEAT n
  else if b.ticked && n != 0 then { s with beats := { b with no := n - 1, due := t } }
  else { s with beats := { b with ticked := false, no := n, due := t } }

def execTick (p : Fin 32) (fr : Frame) (s : State) : Out :=
  frameIn 3 p fr (fun s => if joined s && getF s 0 F.FAB_DOM_TICKPORT == p.val then tickFrame s fr.operand.toNat else s) s

/-- The TICK frame of the present tick has not come in time: the tick stands as the engine counted it; 0x48 for the first in
each second. -/
def execTickMissing (s : State) : Out :=
  let b := s.beats
  if joined s && !(isRoot s) && b.running && b.ticked && s.dom.tickFor != some b.no &&
      decide (b.at_ + nsTc s (getF s 0 F.FAB_TICK_DELAY + 200) < s.tc) then
    let s := modDom (incF s 0 F.FAB_TICK_MISSED 1) fun d => { d with tickFor := some b.no }
    let raise := match s.dom.tickLost with | some t => decide (t + usTc s 1000000 ≤ s.tc) | none => true
    .next (if raise then modDom (domCondition s 0x48) fun d => { d with tickLost := some s.tc } else s)
  else .next s

/-! ### Commit and rollback (R238, R239, R294) -/

/-- COMMIT of a step. -/
def commitStep (s : State) (step : Nat) : State :=
  let s := putF s 0 F.FAB_COMMITTED_ID step
  let s := if getF s 0 F.FAB_STEP_ID == step then putStep s step 2 else s
  let s := modDom s fun d => { d with slots := d.slots.filter fun e => decide (step ≤ e.2), voting := if d.voting == some step then none else d.voting,
                                      votes := d.votes.filter fun v => decide (step < v.step), own := d.own.filter fun e => decide (step < e.1),
                                      sent := d.sent.filter fun e => decide (step < e.1), firstVote := none }
  mapClusters s fun c => if c.lastTainted == some step then { c with lastTainted := none } else c

/-- What an attempt that is rolled back leaves on record of a cluster: work tainted in two successive attempts at one step is
permanent (R237). The spec gives no SOURCE for that record. -/
def attemptEnds (s : State) : State :=
  (s.clusters.filter fun e => decide (e.1 < 96768)).foldl (fun s e =>
    let c := e.1; let v := cluster s c
    let s := modCluster s c fun v => { v with tainted := none, lastTainted := if s.dom.running.isSome then v.tainted else v.lastTainted }
    if v.tainted.isSome && v.tainted == v.lastTainted && !v.calvePend then
      let (s, i) := nextFree s
      permanent s c (bits (Config.freeWord i).toNat 0 7) none
    else s) s

/-- The fabric's part of a rollback: the abandoned rows leave, and channels begin anew (R282). -/
def portsRestart (s : State) : State :=
  (List.range 32).foldl (fun s p =>
    let s := (chansOn s p).foldl (fun s c => putF s (fab p) (chanF F.FAB_CHAN_CREDITS c) 0) s
    modPort s p fun v => { v with inflight := [], txSeq := [], rxSeq := [], granted := [] }) s

/-- A receiving channel grants its credits once more. -/
def regrant (s : State) : State :=
  (List.range 32).foldl (fun s p =>
    (bif portUp s p then chansOn s p else []).foldl (fun s c =>
      if chanGet s p c F.FAB_CHAN_DIR == 1 then sendAck s p c else s) s) s

/-- ROLLBACK to a step, with the epoch that it carries: the engine freezes with the limit taken as 0, performs the pending
calvings, and restores the checkpoint once none is left. It raises no condition: Table 00.8 lists 0x32, step rollback, and no rule
says who raises it or when (DESIGN CHOICE, log entry 143). -/
def rollback (s : State) (step epoch : Nat) : State :=
  let s := putF (putF s 0 F.FAB_DOM_EPOCH epoch) 0 F.FAB_COMMITTED_ID step
  let s := if decide (step < getF s 0 F.FAB_STEP_ID) then putStep s (getF s 0 F.FAB_STEP_ID) 3 else s
  let s := freezeZero (attemptEnds s)
  let s := modDom s fun d => { d with slots := d.slots.filter fun e => e.2 == step, voting := none, running := none, first := none,
                                      opens := some (step + 1), votes := [], own := [], sent := [], firstVote := none, fail := 0,
                                      atCkpt := false, ckptFreeze := false, rolled := true, restart := none, thawWait := false }
  let s := { s with stepFail := false, exch := s.exch.map fun x => { x with left := backedTiles s } }
  let s := calveBegin (regrant (portsRestart (streamsRestart s)))
  if s.dep.calves.isEmpty then restoreCommitted s else s

/-! ### Votes (R293) -/

/-- The root orders, and acts as it orders. -/
def rootCommit (s : State) (step : Nat) : State := commitStep (orderDown s 0 step (getF s 0 F.FAB_DOM_EPOCH)) step
def rootRollback (s : State) : State :=
  let step := getF s 0 F.FAB_COMMITTED_ID; let e := (getF s 0 F.FAB_DOM_EPOCH + 1) % 65536
  rollback (orderDown s 1 step e) step e

/-- Every commit child has voted OK for a step. -/
def childrenOk (s : State) (step : Nat) : Bool :=
  (children s).all fun id => s.dom.votes.any fun v => v.from_ == id && v.step == step && v.result == 0

/-- The first FAIL known for a step. -/
def failOf (s : State) (step : Nat) : Option Nat :=
  match s.dom.own.find? fun e => e.1 == step && e.2 != 0 with
  | some e => some e.2
  | none => (s.dom.votes.find? fun v => v.step == step && v.result != 0).map VoteRec.result

def sendVote (s : State) (step result : Nat) : State :=
  toParent (modDom s fun d => { d with sent := (step, result) :: d.sent }) 4 (step + result * 2 ^ 48)

/-- What the votes held for a step lead to: a FAIL or an OK upward, or the root's order. -/
def settle (s : State) (step : Nat) : State :=
  let out := s.dom.sent.filter fun e => e.1 == step
  match failOf s step with
  | some r =>
    if isRoot s then rootRollback s
    else if out.any fun e => e.2 != 0 then s else sendVote s step r
  | none =>
    if !(out.isEmpty) || !(s.dom.own.any fun e => e.1 == step && e.2 == 0) || !(childrenOk s step) then s
    else if isRoot s then rootCommit (modDom s fun d => { d with sent := (step, 0) :: d.sent }) step
    else sendVote s step 0

/-- The engine's own vote. -/
def ownVote (s : State) (step result : Nat) : State :=
  if s.dom.own.any fun e => e.1 == step then s
  else
    let s := modDom s fun d => { d with own := (step, result) :: d.own, firstVote := match d.firstVote with | some t => some t | none => some s.tc }
    let s := if getF s 0 F.FAB_STEP_ID == step && getF s 0 F.FAB_STEP_STATE == 0 then putStep s step 1 else s
    settle s step

/-- The steps open for a vote: the one that awaits its vote and the one that runs. -/
def openSteps (s : State) : List Nat := s.dom.voting.toList ++ s.dom.running.toList

/-- A cause to vote FAIL reaches every open step that the engine has not voted. -/
def voteFail (s : State) (code : Nat) : State := (openSteps s).foldl (fun s st => if s.dom.rolled then s else ownVote s st code) s

/-- A tainted beat: the running step fails (R227). Outside a domain nothing votes. -/
def taintVote (s : State) : State :=
  if !s.stepFail then s
  else
    let code := if s.dom.fail == 0 then 0x24 else s.dom.fail
    match if joined s then s.dom.running else none with
    | some st => ownVote { s with stepFail := false } st code
    | none => { s with stepFail := false }

def execTaintVote (s : State) : Out := .next (noteState s (taintVote s))

/-- The replica partner, if the policy names one, has acknowledged the whole replica: Jitor's own MGMT frames carry that, so a
free value tells it. -/
def replicated (s : State) : State × Bool :=
  if getF s 0 F.FAB_POLICY_REPLICA == 0xFFFF then (s, true)
  else
    let (s, i) := nextFree s
    (s, Config.freeBit i)

def voteSend (s : State) : State :=
  if !(joined s) then s
  else if s.dom.fail != 0 then voteFail (modDom s fun d => { d with fail := 0 }) s.dom.fail
  else match s.dom.voting with
    | none => s
    | some st =>
      if (slotOf s st).isNone then s
      else
        let (s, ok) := replicated s
        if ok then ownVote s st 0 else s

def execVoteSend (s : State) : Out := .next (noteState s (voteSend s))

/-- A VOTE: ignored unless its EPOCH is current; before formation it is one for step 0. At the root a vote for a step not
opened is a FAIL. -/
def voteIn (s : State) (f : Frame) : State :=
  let o := f.operand.toNat; let step := bits o 0 48; let r := knownCode (bits o 48 8)
  if f.epoch.toNat != getF s 0 F.FAB_DOM_EPOCH then s
  else
    let r := if isRoot s && r == 0 && decide (getF s 0 F.FAB_STEP_ID < step) then 0x46 else r
    let v : VoteRec := { from_ := f.srcId.toNat, step, result := r }
    let s := modDom s fun d => { d with votes := v :: d.votes.filter fun x => x.from_ != v.from_ || x.step != v.step }
    if getF s 0 F.FAB_DOM_PHASE < 4 || (decide (step ≤ getF s 0 F.FAB_COMMITTED_ID)) then s
    else settle (modDom s fun d => { d with firstVote := match d.firstVote with | some t => some t | none => some s.tc }) step

def execVote (p : Fin 32) (fr : Frame) (s : State) : Out :=
  match frameIn 4 p fr (fun s => if joined s then voteIn s fr else s) s with
  | .next s' => .next (noteState s s')
  | o => o

/-- VOTE_TO ms after the first vote for a step without a full set: 0x46, and ROLLBACK. -/
def execVoteTimeout (s : State) : Out :=
  match s.dom.firstVote with
  | some t =>
    if isRoot s && decide (t + usTc s (1000 * getF s 0 F.FAB_POLICY_VOTE_TO) ≤ s.tc) then
      .next (noteState s (rootRollback (domCondition s 0x46)))
    else .next s
  | none => .next s

/-! ### Formation (R290, R292) -/

/-- A source of the reference is qualified (R325). -/
def srcQualified (s : State) (i : Nat) : Bool := bit (getF s 0 F.CLK_STATUS_QUALIFIED) i

/-- The domain is formed: step 1 opens at the next barrier, and FABRIC_JOIN answers. -/
def formed (s : State) (epoch : Nat) : State :=
  let s := putF (putPhase s 4) 0 F.FAB_DOM_EPOCH epoch
  let s := modDom s fun d => { d with opens := some (getF s 0 F.FAB_COMMITTED_ID + 1), votes := [], own := [], sent := [], firstVote := none }
  respondAll s (· == .join) 0 []

/-- The root's train, once an image gives its period; else START begins it (R396). -/
def rootTrain (s : State) : State :=
  match s.beats.image with
  | some base =>
    let (p, w, x, sk, fm) := beatParams s base
    if paramsOk p w x sk fm then { s with beats := { s.beats with running := true, period := p, due := s.tc + waferTc 2 } } else s
  | none => s

/-- The root, holding every vote for step 0: FORMED, or 0x47 where a replica is named twice, which no frame tells it. -/
def rootForms (s : State) : State :=
  let (s, i) := nextFree s
  if !(children s).isEmpty && Config.freeBit i then respondAll (domCondition s 0x47) (· == .join) 0x47 []
  else formed (orderDown s 5 0 1) 1

/-- A step of formation (Table 11.7). DELAY is half the smallest round trip of the last ms, or `delay` where none was measured. -/
def formationPhase (s : State) (delay depth : Nat) : State :=
  if !(joined s) || s.dom.asked.isSome || !(engineReady s) then s
  else match getF s 0 F.FAB_DOM_PHASE with
    | 0 => if isRoot s || portUp s (getF s 0 F.FAB_DOM_TICKPORT) then putPhase s 1 else s
    | 1 =>
      if isRoot s then rootTrain (putPhase s 2)
      else if decide (32 < depth) then domCondition s 0x47
      else if s.dom.period == 0 || !(srcQualified s (getF s 0 F.FAB_DOM_TICKPORT)) then s
      else
        let delay := match rttMin s (getF s 0 F.FAB_DOM_TICKPORT) with | some r => r / 2 | none => delay
        let s := putPhase (putF (putF s 0 F.FAB_TICK_DELAY delay) 0 F.FAB_TICK_DEPTH depth) 2
        { s with beats := { s.beats with running := true, period := s.dom.period } }
    | 2 =>
      if !(childrenOk s 0) then s
      else
        let s := putPhase s 3
        if isRoot s then rootForms s else sendVote s 0 0
    | _ => s

def execFormationPhase (delayNs : BitVec 16) (depth : BitVec 8) (s : State) : Out :=
  .next (formationPhase s delayNs.toNat depth.toNat)

/-! ### Orders received (R294) -/

/-- An ORDER of a kind: it goes on down the commit tree, and the engine acts on it. -/
def orderIn (kind : Nat) (p : Fin 32) (fr : Frame) (body : State → Nat → State) (s : State) : Out :=
  let o := fr.operand.toNat
  if (fr.op.toNat != 5 || bits o 0 4 != kind) && frameElse s p.val fr then .next s
  else
    .next (noteState s (receive s p.val fr fun s =>
      if !(joined s) then s
      else body (orderDown s kind (bits o 4 48) fr.epoch.toNat) (bits o 4 48)))

def execOrderCommit (p : Fin 32) (fr : Frame) (s : State) : Out := orderIn 0 p fr commitStep s

def execOrderRollback (p : Fin 32) (fr : Frame) (s : State) : Out :=
  orderIn 1 p fr (fun s step => rollback s step fr.epoch.toNat) s

def execOrderRestart (p : Fin 32) (fr : Frame) (s : State) : Out :=
  orderIn 2 p fr (fun s n => if s.dom.rolled then modDom s fun d => { d with restart := some n, lost := [] } else s) s

def execOrderFreeze (p : Fin 32) (fr : Frame) (s : State) : Out :=
  orderIn 3 p fr (fun s _ => if s.dom.rolled then s else freezeAll s) s

/-- THAW ordered: as THAW, but that nothing is answered. A rollback waits for its RESTART. -/
def orderThaw (s : State) : State :=
  if s.dom.rolled || isF s 0 F.PWR_DIN_FRZ_ACT || !s.clocks.realigned || isF s 0 F.CLK_STATUS_SAFE || mustStay s then s
  else if freezing s then modDom s fun d => { d with thawWait := true }
  else if anyFrozen s then thawAll s else s

def execOrderThaw (p : Fin 32) (fr : Frame) (s : State) : Out := orderIn 4 p fr (fun s _ => orderThaw s) s

def execOrderFormed (p : Fin 32) (fr : Frame) (s : State) : Out :=
  orderIn 5 p fr (fun s _ => if getF s 0 F.FAB_DOM_PHASE == 4 then s else formed s fr.epoch.toNat) s

/-- LOST is noted, and goes on up the commit tree (R297). -/
def lostIn (s : State) (o : Nat) : State :=
  let l := bits o 0 16
  let s := modDom s fun d => { d with lost := if d.lost.contains l then d.lost else d.lost ++ [l] }
  if joined s && !(isRoot s) then toParent s 6 (l + knownCode (bits o 16 8) * 2 ^ 16) else s

def execLost (p : Fin 32) (fr : Frame) (s : State) : Out := frameIn 6 p fr (fun s => lostIn s fr.operand.toNat) s

/-! ### The step's checkpoint (R238, R246) -/

/-- The running step's last beat is SEALED engine-wide. -/
def stepSealed (s : State) : Bool :=
  match s.dom.first with
  | some a => isF s 0 F.FAB_POLICY_STEP_BEATS && (List.range 168).all fun f => (field s f).beats.isEmpty &&
      (match (field s f).lastSealed with | some n => decide (a + getF s 0 F.FAB_POLICY_STEP_BEATS ≤ n + 1) | none => false)
  | none => false

/-- The checkpoint of the running step is taken, once the step before has committed: the engine freezes for it and, once the mesh
is empty or 100 us have passed, writes the cocoon (R219, R238). -/
def stepCheckpoint (s : State) : State :=
  match s.dom.running with
  | none => s
  | some st =>
    if !(joined s) || !(stepSealed s) || s.dom.voting.isSome || s.dom.rolled || !(jitorUp s) then s
    else
      let held := (anyFrozen s || freezing s) && !s.dom.ckptFreeze
      let s := freezeAll (taintVote s)
      if s.dom.rolled then s
      else if !(allFrozen s) || (meshBusy s && !(meshWaitOver s 0)) then modDom s fun d => { d with ckptFreeze := !held }
      else
        let slot := 1 - s.dom.slot
        let s := modDom s fun d => { d with slot, slots := (slot, st) :: d.slots.filter fun e => e.1 != slot }
        let s := writeCocoon s (slotAddr s slot) (isF s 0 F.FAB_POLICY_SCRATCH) (meshBusy s || anyForced s)
        let s := modDom s fun d => { d with voting := some st, running := none, first := none, opens := some (st + 1), atCkpt := true, ckptHeld := held }
        let s := calveBegin s
        if !s.dep.calves.isEmpty then s
        else checkpointEnd s

def execStepCheckpoint (s : State) : Out := .next (noteState s (stepCheckpoint s))

/-! ### COMMIT_POLICY (R295) -/

/-- COMMIT_POLICY is refused with 0x49. -/
def policyRefused (s : State) (a ck ho : Nat) : Bool :=
  let own := 2 * cocoonBytes (bit a 0); let rep := bits a 32 16
  let id := getF s 0 F.FAB_DOM_ID
  (!(allFrozen s) && !(beating s).isEmpty) || bits a 8 24 == 0 || ck % 512 != 0 || ho % 512 != 0 ||
    decide (2 ^ 41 < ck + own) || decide (2 ^ 41 < ho + own) || overlaps ck own ho own ||
    (rep != 0xFFFF && (rep == id || !(joined s) ||
      !(idInside rep (getF s 0 F.FAB_DOM_NSECTM1) (getF s 0 F.FAB_DOM_NROWM1) (getF s 0 F.FAB_DOM_NSLOTM1))))

def policyBody (slot : Nat) (s : State) : State :=
  let a := arg s slot 0; let ck := arg s slot 1; let ho := arg s slot 2
  if policyRefused s a ck ho then respond s slot 0x49 []
  else
    let vt := bits a 48 16
    let s := putF (putF s 0 F.FAB_POLICY_SCRATCH (bits a 0 1)) 0 F.FAB_POLICY_STEP_BEATS (bits a 8 24)
    let s := putF (putF s 0 F.FAB_POLICY_REPLICA (bits a 32 16)) 0 F.FAB_POLICY_VOTE_TO (if vt == 0 then 5000 else vt)
    respond (modDom s fun d => { d with ckpt := ck, hold := ho }) slot 0 []

def execCommitPolicy (slot : Fin 34) (s : State) : Out :=
  mailbox 0x71 slot.val yes [2 ^ 64 - 255, 2 ^ 41 - 1, 2 ^ 41 - 1] (policyBody slot.val) s

end Sys2Proof.Machine
end

