-- ==== Sys2Proof/Machine/Power.lean ====
section
/-! DEFINITION. Power: the control loop, droop and di/dt, the discrete inputs, parking, the hold-up store and the stop
(R299 to R317, R321). -/

namespace Sys2Proof.Machine

def modPower (s : State) (f : Power → Power) : State := { s with power := f s.power }
def powerState (s : State) : Nat := getF s 0 F.PWR_STATUS_STATE
def putPowerState (s : State) (v : Nat) : State := putF s 0 F.PWR_STATUS_STATE v

/-- A condition of the power controller, with its bit of PWR.ERR. -/
def powerCondition (s : State) (src code : Nat) (f : Fld) : State := setF (condition s src code) 0 f

/-! ### The control loop (R304 to R306, R309, R310) -/

/-- Classes in the order of PWR.CAP.PRIO, first throttled first: 0 compute, 1 memory, 2 links (Table 12.5). -/
def classOrder (prio : Nat) : List Nat :=
  match prio with
  | 0 => [0, 1, 2]
  | 1 => [0, 2, 1]
  | 2 => [1, 0, 2]
  | 3 => [1, 2, 0]
  | 4 => [2, 0, 1]
  | _ => [2, 1, 0]

/-- A class's largest fraction, in 64ths. -/
def classTop (k : Nat) : Nat := if k == 0 then 63 else if k == 1 then 60 else 48

/-- The fraction, in 64ths, that sheds `need` W of an estimated draw of `est` W, up to a limit. -/
def fraction (top need est : Nat) : Nat := if est == 0 then 0 else min top (ceilDiv (64 * need) est)

/-- The fractions of the classes in order, each giving up at most its limit before the next. -/
def fractions (est : Nat → Nat) : List Nat → Nat → List (Nat × Nat)
  | [], _ => []
  | k :: r, need => (k, fraction (classTop k) need (est k)) :: fractions est r (need - est k * classTop k / 64)

/-- The ramp ceiling, W: the lowest draw of the preceding 1 ms plus UP; UP 0 sets none. -/
def rampCeiling (s : State) : Option Nat :=
  let up := getF s 0 F.PWR_RAMP_UP
  match s.power.hist with
  | [] => none
  | h :: r => if up == 0 then none else some (r.foldl min h + 1000 * up)

/-- The caps other than the ramp's, W. -/
def fixedCap (s : State) : Nat :=
  let c := min (1000 * getF s 0 F.PWR_CAP_CAP) s.thermal.cap
  let c := if isF s 0 F.PWR_DIN_CUR_ACT then min c (1000 * getF s 0 F.PWR_CAP_CURTAIL_CAP) else c
  if s.power.ride.isSome then min c 30000 else c

/-- The effective cap C, W. -/
def effectiveCap (s : State) : Nat :=
  match rampCeiling s with
  | some r => min (fixedCap s) r
  | none => fixedCap s

/-- The floor, W: KW, or with TRACK the highest draw of the preceding 1 ms less DOWN if that is larger; never above C, and
only while the engine is LIVE. -/
def floorNow (s : State) (c : Nat) : Nat :=
  let kw := getF s 0 F.PWR_FLOOR_KW; let down := getF s 0 F.PWR_RAMP_DOWN
  if kw == 0 || mirrorState s != 3 then 0
  else
    let top := s.power.hist.foldl max 0
    min c (if isF s 0 F.PWR_FLOOR_TRACK && down != 0 then max (1000 * kw) (top - 1000 * down) else 1000 * kw)

/-- What a class sheds at its present fraction. -/
def sheds (s : State) (r : PowerSample) : Nat :=
  (getF s 0 F.PWR_ACT_F_COMP * r.compW + getF s 0 F.PWR_ACT_F_MEM * r.memW + getF s 0 F.PWR_ACT_F_LINK * r.linkW) / 64

/-- Every class stands at its largest fraction. -/
def allTop (s : State) : Bool :=
  getF s 0 F.PWR_ACT_F_COMP == 63 && getF s 0 F.PWR_ACT_F_MEM == 60 && getF s 0 F.PWR_ACT_F_LINK == 48

/-- The energies of an interval are integrated (R313). -/
def addEnergy (s : State) (r : PowerSample) : State :=
  let add (s : State) (k uj : Nat) : State := wrapF s 0 (F.PWR_ENERGY_UJ.at (8 * k)) uj
  add (add (add (add (add (add s 0 r.ujInput) 1 r.ujComp) 2 r.ujMem) 3 r.ujLink) 4 r.ujFloor) 5 r.ujHold

/-- The wing core cap of 40 kW, on the wing's compute actuator alone. -/
def wingFraction (s : State) (w draw est : Nat) : State :=
  let shed := look 0 s.power.wing w * est / 64
  modPower s fun p => { p with wing := put 0 p.wing w (fraction 63 (draw + shed - 40000) est) }

/-- 0x61 when throttling begins, at most once per second. -/
def throttleNote (s : State) (was : Bool) : State :=
  let due := match s.power.lastThrottle with | some t => decide (t + usTc s 1000000 ≤ s.tc) | none => true
  if !was && isF s 0 F.PWR_STATUS_THROTTLING && due then
    modPower (powerCondition s 288 0x61 F.PWR_ERR_THROTTLE) fun p => { p with lastThrottle := some s.tc }
  else s

def controlInterval (s : State) (r : PowerSample) : State :=
  let c := effectiveCap s
  let limit := if isF s 0 F.PWR_HOLD_CHARGING then min 92000 (c + 4000) else c
  let was := isF s 0 F.PWR_STATUS_THROTTLING
  let est (k : Nat) : Nat := if k == 0 then r.compW else if k == 1 then r.memW else r.linkW
  let isOver := allTop s && decide (limit < r.drawW)
  let fs := fractions est (classOrder (getF s 0 F.PWR_CAP_PRIO)) (sheds s r + r.drawW - limit)
  let floor := floorNow s c
  let s := putF (putF s 0 F.PWR_ACT_CEIL (c / 1000)) 0 F.PWR_STATUS_RAMP_LIMITED (b2n (decide (c < fixedCap s)))
  let s := putF (putF (putF s 0 F.PWR_ACT_F_COMP (look 0 fs 0)) 0 F.PWR_ACT_F_MEM (look 0 fs 1)) 0 F.PWR_ACT_F_LINK (look 0 fs 2)
  let s := wingFraction (wingFraction s 0 r.wingAW r.compAW) 1 r.wingBW r.compBW
  let s := putF s 0 F.PWR_STATUS_THROTTLING (b2n (fs.any fun e => e.2 != 0))
  let s := putF (putF s 0 F.PWR_STATUS_DRAW (min 65535 (r.drawW / 10))) 0 F.PWR_STATUS_VIN (min 255 (r.vinMv / 4000))
  let s := putF (putF s 0 F.PWR_FLOOR_NOW (floor / 1000)) 0 F.PWR_STATUS_FLOOR_ON (b2n (decide (r.drawW < floor)))
  let s := if r.drawW ≤ limit then putF s 0 F.PWR_STATUS_CAP_UNMET 0 else s
  let s := modPower s fun p => { p with hist := (r.drawW :: p.hist).take 100, overFor := if isOver then p.overFor + 1 else 0 }
  throttleNote (addEnergy s r) was

/-- A control interval of 10 us, while the rails are up. -/
def execPowerControlInterval (r : PowerSample) (s : State) : Out :=
  if 900000 < r.vinMv then .fault .beyondRatings
  else if powerState s == 0 then .next s else .next (noteState s (controlInterval s r))

/-- 1 ms over C with every class at its largest fraction: one operating point down, not below F_MIN; or 0x68. -/
def capStep (s : State) : State :=
  if s.power.overFor < 100 || s.power.freqGoal.isSome then s
  else
    let lower := ((railTop.filter fun x => decide (x < freq s)).getLast?).getD (freq s)
    let goal := max lower (getF s 0 F.PWR_DVFS_F_MIN)
    let s := modPower s fun p => { p with overFor := 0 }
    if goal < freq s then askFreq s goal
    else if isF s 0 F.PWR_STATUS_CAP_UNMET then s
    else powerCondition (setF s 0 F.PWR_STATUS_CAP_UNMET) 288 0x68 F.PWR_ERR_CAP_UNMET

def execCapFrequencyStep (s : State) : Out := .next (capStep s)

/-! ### Droop and di/dt (R307, R308) -/

/-- A droop event: the hub withholds vectors, counts it, and raises 0x60 at most once per beat. -/
def droop (s : State) (f : Nat) : State :=
  let s := incF (modField s f fun v => { v with droopAt := some s.tc }) (fieldBase f) F.FLD_PWR_STAT_DROOP_CNT 1
  if look false s.power.droopRaised f then s
  else setF (hubReport (modPower s fun p => { p with droopRaised := put false p.droopRaised f true }) f 0x60 0) 0 F.PWR_ERR_DROOP

/-- A droop sensor reads `mv` below the set point. -/
def execDroopDetect (f : FieldId) (mv : Nat) (s : State) : Out :=
  if getF s (fieldBase f.val) F.FLD_PWR_CFG_DROOP_MV < mv then .next (droop s f.val) else .next s

/-- A window of 64 tc ends whose core current would average `amps`: the limiter withholds what goes beyond the allowed rise. -/
def didtWindow (s : State) (f amps : Nat) : State :=
  let v := field s f; let top := v.amps + getF s (fieldBase f) F.FLD_PWR_CFG_DIDT * 64 / max 1 (freq s)
  if amps ≤ top then modField s f fun v => { v with amps }
  else
    let us := s.tc / max 1 (freq s)
    let s := if v.didtUs == some us then s else incF s (fieldBase f) F.FLD_PWR_STAT_DIDT_CNT 1
    modField s f fun v => { v with amps := top, didtUntil := s.tc + 64, didtUs := some us }

def execDidtWindow (f : FieldId) (amps : Nat) (s : State) : Out := .next (didtWindow s f.val amps)

/-! ### CURTAIL and FREEZE_N (R311, R312) -/

/-- The filtered CURTAIL changes. -/
def curtail (s : State) (on : Bool) : State :=
  let s := putF (putF s 0 F.PWR_DIN_CUR_RAW (b2n on)) 0 F.PWR_DIN_CUR_ACT (b2n on)
  modPower (putF s 0 F.PWR_STATUS_CURTAILED (b2n on)) fun p =>
    { p with curAt := if on then (match p.curAt with | some t => some t | none => some s.tc) else none }

def execCurtailInput (active : Bool) (s : State) : Out := .next (curtail s active)

/-- The filtered FREEZE_N changes; active, it acts as FREEZE. -/
def freezeN (s : State) (on : Bool) : State :=
  let s := putF (putF s 0 F.PWR_DIN_FRZ_RAW (b2n on)) 0 F.PWR_DIN_FRZ_ACT (b2n on)
  let s := modPower s fun p => { p with frzAt := if on then (match p.frzAt with | some t => some t | none => some s.tc) else none }
  if on then freezeAll s else s

def execFreezeNInput (active : Bool) (s : State) : Out := .next (noteState s (freezeN s active))

/-- An input has been active for another 10 s. -/
def heldFor (s : State) (t : Option Nat) : Bool := match t with | some a => decide (a + usTc s 10000000 ≤ s.tc) | none => false

def inputHeld (s : State) : State :=
  let s := if heldFor s s.power.curAt then
      modPower (powerCondition s 290 0x63 F.PWR_ERR_HELD) fun p => { p with curAt := some s.tc } else s
  if heldFor s s.power.frzAt then modPower (powerCondition s 291 0x63 F.PWR_ERR_HELD) fun p => { p with frzAt := some s.tc } else s

def execInputHeldReport (s : State) : Out := .next (inputHeld s)

/-- An edge that reverts within 1 us. -/
def execDiscreteInputChatter (freezeN : Bool) (s : State) : Out :=
  .next (incF s 0 (if freezeN then F.PWR_DIN_FRZ_CHATTER else F.PWR_DIN_CUR_CHATTER) 1)

/-! ### The stop on hold-up power (R316, Table 12.6) -/

/-- Registers that a stop leaves: the blocks on the steward die, but for clocks, rails and actuators that follow the wings. -/
def stewardReg (a : Nat) : Bool :=
  decide (a < 0x60000) && !([0x20000, 0x20010, 0x20018, 0x30020, 0x30028].contains a) || (decide (0x70000 ≤ a) && decide (a < 0x80000))

/-- Wings, firn, optics and fabric lose power: what they held is lost. -/
def wingsOff (s : State) : State :=
  let s := resetRegs s fun a => !(stewardReg a)
  let s := putF (putF (putF (putPowerState s 0) 0 F.PWR_STATUS_THROTTLING 0) 0 F.PWR_STATUS_FLOOR_ON 0) 0 F.PWR_FLOOR_NOW 0
  { s with tiles := [], clusters := [], fields := [], lifeT := [], lifeF := [], scratch := [], badPar := [], poisonRow := [],
           firn := [], firnPoison := [], firnQ := [], streams := [], edge := {}, ports := [], hinge := {}, load := none, exch := none,
           stepFail := false, beats := {}, dom := { out := s.dom.out }, cocoons := [], clocks := {},
           power := { curAt := s.power.curAt, frzAt := s.power.frzAt, scrubFrom := s.tc }, dep := { s.dep with calves := [] } }

/-- Commands that wait for something in the wings end; the spec gives no code for that. -/
def endWaits (s : State) : State :=
  (waiters s fun _ => true).foldl (fun s slot =>
    let (s, i) := nextFree s
    respond s slot (knownCode (bits (Config.freeWord i).toNat 0 8)) []) s

/-- The stop: 0x65 is recorded, the log appended unless the stop is the minimal one, the rails go off; Jitor writes the stop
record. Hardware sets the NVS clock enable first (R354). -/
def holdupStop (s : State) (full : Bool) : State :=
  let s := putF (putF s 0 F.MGT_CLK_EN_NVS 1) 0 ⟨F.MGT_CLK_ON_ON.off, 0, 1⟩ 1
  let s := if full && jitorUp s then flushLog s else s
  let s := setF s 0 F.PWR_ERR_STOPPED
  let record := jitorUp s
  let s := endWaits (wingsOff s)
  modSteward s fun w => { w with stopped := true, loaded := false, owner := none, starting := false, stopCode := 0x65, stopRecord := record,
                                 on := w.aux }

/-! ### The main input and the hold-up store (R315, R316) -/

/-- Ride-through is enabled, and nothing disables it (R315). -/
def rideOn (s : State) : Bool :=
  isF s 0 F.PWR_HOLD_RIDE_EN && !(isF s 0 F.PWR_HOLD_GAUGE_FAULT) &&
    decide (getF s 0 F.PWR_HOLD_RESERVE ≤ getF s 0 F.PWR_HOLD_E_GOV)

/-- The engine may ride through a loss: not while parked (Table 12.7). -/
def mayRide (s : State) : Bool := rideOn s && powerState s != 4

/-- The main input has stayed below 680 V for 2 us. -/
def inputLoss (s : State) : State :=
  let s := modSteward s fun w => { w with mainOk := false }
  if powerState s == 0 || s.power.ride.isSome then s
  else
    let s := powerCondition s 289 0x64 F.PWR_ERR_INPUT_LOST
    if mayRide s then modPower (putPowerState s 2) fun p => { p with ride := some s.tc }
    else holdupStop s (rideOn s)

def execMainInputLoss (mv : Nat) (s : State) : Out :=
  if 680000 ≤ mv then .next s else .next (noteState s (inputLoss s))

/-- The main input has stayed at or above 720 V for 1 ms. -/
def inputReturn (s : State) : State :=
  let s := modSteward s fun w => { w with mainOk := true }
  if s.power.ride.isSome then setF (modPower (putPowerState s (if s.power.parking || s.power.resuming then 5 else 1)) fun p => { p with ride := none }) 0 F.PWR_HOLD_CHARGING else s

def execMainInputReturn (mv : Nat) (s : State) : Out :=
  if 900000 < mv then .fault .beyondRatings
  else if mv < 720000 then .next s else .next (noteState s (inputReturn s))

/-- The ride time ends, or the governing estimate, `joules`, reaches the reserve: the stop. -/
def rideTimeout (s : State) (joules : Nat) : State :=
  match s.power.ride with
  | none => s
  | some t =>
    let s := putF s 0 F.PWR_HOLD_E_GOV (min 4095 joules)
    if decide (t + usTc s (1000 * getF s 0 F.PWR_HOLD_RIDE_MS) ≤ s.tc) || decide (joules ≤ getF s 0 F.PWR_HOLD_RESERVE) then holdupStop s true
    else s

def execRideTimeout (joules : Nat) (s : State) : Out := .next (noteState s (rideTimeout s joules))

/-- The gauges have read `coul` and `volt` joules for 1 s: more than 240 J apart they are at fault. -/
def gauges (s : State) (coul volt : Nat) : State :=
  let s := putF (putF (putF s 0 F.PWR_HOLD_E_COUL coul) 0 F.PWR_HOLD_E_VOLT volt) 0 F.PWR_HOLD_E_GOV (min coul volt)
  if max coul volt - min coul volt ≤ 240 then s
  else
    let s := setF (setF (powerCondition s 288 0x62 F.PWR_ERR_GAUGE) 0 F.PWR_HOLD_GAUGE_FAULT) 0 F.PWR_HOLD_RECAL_PEND
    if s.power.ride.isSome then holdupStop s false else s

def execGaugeFault (coul volt : BitVec 12) (s : State) : Out := .next (noteState s (gauges s coul.toNat volt.toNat))

/-- The store is full, at 2,400 J; a recalibration that was due is made, and ends a gauge fault if it succeeds. -/
def fullCharge (s : State) (ok : Bool) : State :=
  let s := putF s 0 F.PWR_HOLD_CHARGING 0
  if isF s 0 F.PWR_HOLD_RECAL_PEND && !ok then s
  else
    let s := putF (putF (putF s 0 F.PWR_HOLD_E_COUL 2400) 0 F.PWR_HOLD_E_VOLT 2400) 0 F.PWR_HOLD_E_GOV 2400
    putF (putF s 0 F.PWR_HOLD_RECAL_PEND 0) 0 F.PWR_HOLD_GAUGE_FAULT 0

def execHoldupFullCharge (calOk : Bool) (s : State) : Out := .next (if powerState s == 0 then s else fullCharge s calOk)

/-! ### Power commands (R321) -/

/-- A power command is refused with 0x69. -/
def refusePower (s : State) (slot : Nat) : State := respond (setF s 0 F.PWR_ERR_REFUSED) slot 0x69 []

/-- Response word 0: the register as now in force (Table 14.4). -/
def answerReg (s : State) (slot a : Nat) : State := respond s slot 0 [rd s a]

def capOp (slot : Nat) (l : List Nat) (s : State) : Bool := l.contains (bits (arg s slot 0) 0 2)
/-- Bits of SET_POWER_CAP's word 0. -/
def capMask : Nat := 0x7FFFFFF7FF03

def inRange (lo v hi : Nat) : Bool := decide (lo ≤ v) && decide (v ≤ hi)

/-- A value of SET_POWER_CAP lies outside its range, FLOOR exceeds CAP, or FREQ lies below F_MIN. -/
def capRefused (s : State) (a : Nat) : Bool :=
  let cap := bits a 8 8; let fr := bits a 20 12
  bits a 0 2 == 3 || !(inRange 30 cap 88) || decide (5 < bits a 16 3) || !(inRange 600 fr 1400) || !(inRange 30 (bits a 32 8) 88) ||
    decide (60 < bits a 41 6) || decide (cap < getF s 0 F.PWR_FLOOR_KW) || decide (fr < getF s 0 F.PWR_DVFS_F_MIN)

def setCapBody (slot : Nat) (s : State) : State :=
  let a := arg s slot 0
  let cap := bits a 8 8; let prio := bits a 16 3; let fr := bits a 20 12; let cur := bits a 32 8; let ms := bits a 41 6
  if capRefused s a then refusePower s slot
  else
    let s := putF (putF (putF (putF s 0 F.PWR_CAP_CAP cap) 0 F.PWR_CAP_PRIO prio) 0 F.PWR_CAP_FREQ fr) 0 F.PWR_CAP_CURTAIL_CAP cur
    let s := putF (putF s 0 F.PWR_HOLD_RIDE_EN (bits a 40 1)) 0 F.PWR_HOLD_RIDE_MS ms
    answerReg (askFreq s fr) slot F.PWR_CAP_CAP.off

def execSetPowerCap (slot : Fin 34) (s : State) : Out := mailbox 0x30 slot.val (capOp slot.val [0, 3]) [capMask] (setCapBody slot.val) s

def setRampBody (slot : Nat) (s : State) : State :=
  let a := arg s slot 0
  if 1000 < bits a 0 16 || 1000 < bits a 16 16 then refusePower s slot
  else answerReg (putF (putF s 0 F.PWR_RAMP_UP (bits a 0 16)) 0 F.PWR_RAMP_DOWN (bits a 16 16)) slot F.PWR_RAMP_UP.off

def execSetRamp (slot : Fin 34) (s : State) : Out := mailbox 0x31 slot.val yes [2 ^ 32 - 1] (setRampBody slot.val) s

def setFloorBody (slot : Nat) (s : State) : State :=
  let a := arg s slot 0
  if 88 < bits a 0 8 || getF s 0 F.PWR_CAP_CAP < bits a 0 8 then refusePower s slot
  else answerReg (putF (putF s 0 F.PWR_FLOOR_KW (bits a 0 8)) 0 F.PWR_FLOOR_TRACK (bits a 8 1)) slot F.PWR_FLOOR_KW.off

def execSetFloor (slot : Fin 34) (s : State) : Out := mailbox 0x32 slot.val yes [0x1FF] (setFloorBody slot.val) s

/-! ### Parking (R314) -/

/-- Nothing that a tile's units have accepted is still to be done, and its router holds no flit (R67, R88, R142, R191). -/
def Tile.idle (t : Tile) : Bool :=
  t.vq.isEmpty && t.vrun.isNone && t.vres.isEmpty && t.sendq.isEmpty && t.acc.isEmpty && t.reqs.all (fun e => e.2.isEmpty) &&
    t.fills.isEmpty && t.fillLeft == 0 && t.ctx.all (fun e => e.2.muls.isEmpty) &&
    t.lat.queue.isEmpty && t.lat.loader.isNone && t.lat.liss.isEmpty && t.lat.drain.isNone && t.lat.inArray.isEmpty &&
    t.lat.failed.isEmpty && t.spu.queue.isEmpty && t.spu.cur.isNone &&
    t.inq.all (fun e => e.2.isEmpty) && t.link.all (fun e => e.2.isEmpty) && t.eject.isNone

/-- A field may park: its tiles are idle, and every access its crossbars have granted is complete (R165, R191). -/
def fieldIdle (s : State) (f : Nat) : Bool :=
  (s.tiles.all fun e => tileField e.1 != f || e.2.idle) && s.clusters.all fun e => clusterField e.1 != f || e.2.reads.isEmpty

/-- The parked flag of a field's tiles. -/
def flagParked (s : State) (f : Nat) (on : Bool) : State :=
  { s with lifeF := put {} s.lifeF f { look {} s.lifeF f with parked := on },
           lifeT := s.lifeT.map fun e => if tileField e.1 == f then (e.1, e.2.map fun l => { l with parked := on }) else e }

/-- A hub stops its field's tile clocks once the field is idle. -/
def parkField (s : State) (f : Nat) : State :=
  if (look {} s.lifeF f).parked || !(fieldIdle s f) then s else modField (flagParked s f true) f fun v => { v with parkedAt := s.tc }

/-- A hub restarts its field's tile clocks: the end of parking, a ramp trigger (R86). -/
def unparkField (s : State) (f : Nat) : State :=
  if (look {} s.lifeF f).parked then
    modField (flagParked s f false) f fun v => { v with parkedFor := v.parkedFor + (s.tc - v.parkedAt), rampAt := some s.tc }
  else s

def allParked (s : State) : Bool := (List.range 168).all fun f => (look {} s.lifeF f).parked

def parkBody (slot : Nat) (s : State) : State :=
  if capRefused s (arg s slot 0) || anyLife s .instar then refusePower s slot
  else if powerState s == 4 then answerReg s slot F.PWR_CAP_CAP.off
  else freezeAll (modPower (putPowerState (await s slot .park) 5) fun p => { p with parking := true })

def execPark (slot : Fin 34) (s : State) : Out := mailbox 0x30 slot.val (capOp slot.val [1]) [capMask] (parkBody slot.val) s

/-- Once every field is FROZEN: tile clocks stop field by field, each once it is idle; when all have, the rails fall to 0.55 V,
the firn enters self-refresh once its controllers hold nothing, and the command answers (R191, R269, R314). -/
def parkComplete (s : State) : State :=
  if !s.power.parking || anyLife s .live then s
  else
    let s := (List.range 168).foldl parkField s
    if !(allParked s) || s.firnQ.any (fun e => !e.2.isEmpty) then s else
    let s := modPower (putPowerState s 4) fun p =>
      { p with parking := false, freqPend := none, freqGoal := none, freqAsked := (match p.freqAsked with | some f => some f | none => p.freqGoal) }
    let s := putF (putF s 0 F.PWR_DVFS_VCODE 0) 0 F.PWR_DVFS_BUSY 0
    respondAll s (· == .park) 0 [rd s F.PWR_CAP_CAP.off]

def execParkComplete (s : State) : Out := .next (noteState s (parkComplete s))

def resumeBody (slot : Nat) (s : State) : State :=
  if capRefused s (arg s slot 0) then refusePower s slot
  else if powerState s != 4 then answerReg s slot F.PWR_CAP_CAP.off
  else modPower (putPowerState (await s slot .resume) 5) fun p => { p with resuming := true }

def execResume (slot : Fin 34) (s : State) : Out := mailbox 0x30 slot.val (capOp slot.val [2]) [capMask] (resumeBody slot.val) s

/-- Rails up, clocks running: the engine goes on at a barrier, unless FREEZE_N, a rollback or the safe state holds it. -/
def resumeComplete (s : State) : State :=
  if !s.power.resuming then s
  else
    let s := modPower (putPowerState ((List.range 168).foldl unparkField s) 1) fun p => { p with resuming := false }
    let s := freqNext (putF s 0 F.PWR_DVFS_VCODE (railFor (freq s)))
    let s := if isF s 0 F.PWR_DIN_FRZ_ACT || s.dom.rolled || isF s 0 F.CLK_STATUS_SAFE || !s.clocks.realigned || mustStay s then s else thawAll s
    respondAll s (· == .resume) 0 [rd s F.PWR_CAP_CAP.off]

def execResumeComplete (s : State) : Out := .next (noteState s (resumeComplete s))

end Sys2Proof.Machine
end

