-- ==== Sys2Proof/Machine/Thermal.lean ====
section
/-! DEFINITION. Cooling (R318 to R320). -/

namespace Sys2Proof.Machine

def modThermal (s : State) (f : Thermal → Thermal) : State := { s with thermal := f s.thermal }

/-- The reading last taken of a field, in hundredths of a degree. -/
def fieldTemp (s : State) (f : Nat) : Nat := getF s 0 (F.THM_FIELD_NOW.at (8 * f))

/-- The field of a list with the highest reading, the first of equals. -/
def hottest (s : State) (l : List Nat) : Nat :=
  l.foldl (fun m f => if fieldTemp s m < fieldTemp s f then f else m) (l.headD 0)

/-- The thermal cap, W: 2 kW per degree of inlet above 40, and of the hottest field above THROTTLE. -/
def thermalCap (s : State) (inlet hot : Nat) : Nat :=
  88000 - 20 * (inlet - 4000) - 20 * (hot - 100 * getF s 0 F.THM_LIMITS_THROTTLE)

/-- A reading of a field. -/
def noteTemp (s : State) (f t : Nat) : State :=
  maxF (putF s 0 (F.THM_FIELD_NOW.at (8 * f)) (min 65535 t)) 0 (F.THM_FIELD_MAX.at (8 * f)) t

/-- What a sample leads to: the thermal cap, 0x66 and 0x6A as their states begin, and the count of R319 towards a trip. -/
def thermalSample (s : State) (r : ThermalReading) : State :=
  let s := r.fields.foldl (fun s e => noteTemp s e.1.val e.2) s
  let s := putF (putF (putF s 0 F.THM_COOL_FLOW (min 65535 r.flow)) 0 F.THM_COOL_OUTLET (min 65535 r.outlet)) 0 F.THM_COOL_INLET (min 65535 r.inlet)
  let a := hottest s (List.range 84); let b := hottest s ((List.range 84).map (84 + ·))
  let h := if fieldTemp s a < fieldTemp s b then b else a
  let hot := fieldTemp s h
  let s := putF (putF (putF s 0 F.THM_WAFER_A_MAX (fieldTemp s a)) 0 F.THM_WAFER_B_MAX (fieldTemp s b)) 0 F.THM_WAFER_HOT_FIELD h
  let coolant := decide (6000 < r.outlet) || decide (r.flow < 10 * getF s 0 F.THM_LIMITS_FLOW_MIN) || decide (r.inlet < 3000) || decide (4500 < r.inlet)
  let alert := coolant || decide (100 * getF s 0 F.THM_LIMITS_ALERT ≤ hot)
  let trip := decide (10500 ≤ hot) || decide (7000 ≤ r.outlet)
  let old := s.thermal
  let s := modThermal s fun t => { t with cap := thermalCap s r.inlet hot, alert, coolant, tripFor := if trip then t.tripFor + 1 else 0 }
  let s := if alert && !old.alert then setF (condition s 292 0x66) 0 F.THM_ERR_ALERT else s
  if coolant && !old.coolant then setF (condition s 292 0x6A) 0 F.THM_ERR_COOLANT else s

def execThermalSample (r : ThermalReading) (s : State) : Out := .next (if s.steward.on then thermalSample s r else s)

/-- 10 ms at a trip level: 0x67 and the minimal safe stop; only a reset starts the engine again. -/
def thermalTrip (s : State) : State :=
  if s.thermal.tripFor < 10 || powerState s == 0 then s
  else
    let s := holdupStop (setF (condition s 292 0x67) 0 F.THM_ERR_TRIP) false
    modSteward s fun w => { w with tripped := true }

def execThermalTrip (s : State) : Out := .next (noteState s (thermalTrip s))

/-- The outputs stand at their reset values: the engine is not ready, or a full load has tiles in INSTAR (Table 16.5, R210). -/
def outputsHeld (s : State) : Bool :=
  !(engineReady s) || ((match s.load with | some l => !l.standby && !l.calve | none => false) && anyLife s .instar)

/-- COOL_DEMAND every 100 ms from the draw over the last 100 ms; a clock loss or a steward reset holds it. -/
def coolDemand (s : State) (drawW : Nat) : State :=
  if outputsHeld s then putF s 0 F.THM_DEMAND_DUTY 100
  else if isF s 0 F.CLK_STATUS_SAFE || s.thermal.heldAt.isSome then s
  else
    let out := getF s 0 F.THM_COOL_OUTLET - 100 * getF s 0 F.THM_LIMITS_OUT_TARGET
    let duty := if isF s 0 F.THM_DEMAND_FORCE then getF s 0 F.THM_DEMAND_FORCE_DUTY else max 20 (min 100 (100 * drawW / 88000 + 5 * out / 100))
    putF s 0 F.THM_DEMAND_DUTY duty

def execCoolDemandUpdate (drawW : Nat) (s : State) : Out := .next (if s.steward.on then coolDemand s drawW else s)

/-- 2 s into a steward reset the duty goes to 100 %. -/
def execCoolDemandHoldExpiry (s : State) : Out :=
  match s.thermal.heldAt with
  | some t => if t + usTc s 2000000 ≤ s.tc then .next (putF s 0 F.THM_DEMAND_DUTY 100) else .next s
  | none => .next s

end Sys2Proof.Machine
end

