-- ==== Sys2Proof/Machine/Clocks.lean ====
section
/-! DEFINITION. Clocks: sources, switches, the safe state, calibration of the forwarded clock, gating (R323 to R336). -/

namespace Sys2Proof.Machine

def modClocks (s : State) (f : Clocks → Clocks) : State := { s with clocks := f s.clocks }
def curSrc (s : State) : Nat := getF s 0 F.CLK_STATUS_CUR_SRC
def muxState (s : State) : Nat := getF s 0 F.CLK_STATUS_MUX
def srcActive (s : State) (i : Nat) : Bool := bit (getF s 0 F.CLK_STATUS_ACT) i
def prefSrc (s : State) : Nat := getF s 0 F.CLK_REF_CFG_PREF

/-- A source becomes active and qualified, or is lost. -/
def putSrc (s : State) (i : Nat) (on : Bool) : State :=
  let s := putF s 0 F.CLK_STATUS_ACT (putBit (getF s 0 F.CLK_STATUS_ACT) i on)
  let s := putF s 0 F.CLK_STATUS_QUALIFIED (putBit (getF s 0 F.CLK_STATUS_QUALIFIED) i on)
  if i == 4 then modClocks s fun c => { c with localAt := s.tc } else s

/-- A clock condition, with its bit of CLK.ERR; 0x50 to 0x56. -/
def clockCondition (s : State) (code : Nat) : State := putF (condition s 294 code) 0 F.CLK_ERR_CODE (putBit (getF s 0 F.CLK_ERR_CODE) (code - 0x50) true)

/-- The wing PLLs enter or leave holdover. -/
def holdover (s : State) (w : Nat) (on : Bool) : State :=
  let s := putF (putF s (wingBase w) F.WNG_PLL_HOLD (b2n on)) (wingBase w) F.WNG_PLL_LOCK (b2n !on)
  putF (putF s 0 (if w == 0 then F.CLK_STATUS_HOLD_A else F.CLK_STATUS_HOLD_B) (b2n on)) 0
    (if w == 0 then F.CLK_STATUS_LOCK_A else F.CLK_STATUS_LOCK_B) (b2n !on)

/-- A switch to a source begins (R329). -/
def startSwitch (s : State) (i : Nat) : State :=
  let s := putF (putF s 0 F.CLK_STATUS_MUX 1) 0 F.CLK_STATUS_PEND_SRC i
  modClocks (putF (holdover (holdover s 0 true) 1 true) 0 F.CLK_MUX_WAIT_NS 0) fun c => { c with switchAt := s.tc }

/-! ### Losses and the safe state (R330, R333) -/

/-- The safe state: holdover, a freeze, DATA and TICK withheld, COOL_DEMAND held, frequency changes deferred, a switch to
FALLBACK. A joined engine votes FAIL for every open step. -/
def enterSafe (s : State) (code : Nat) : State :=
  let s := setF (clockCondition s code) 0 F.CLK_STATUS_SAFE
  let s := startSwitch (freezeAll s) (getF s 0 F.CLK_REF_CFG_FALLBACK)
  let s := modClocks s fun c => { c with relock := false, realigned := c.realigned && !(joined s), want := none }
  if joined s then voteFail s 0x50 else s

/-- Ten reference periods without an edge of the selected source. A port that has gone down took its clock with it. -/
def referenceLoss (s : State) : State :=
  if !(srcActive s (curSrc s)) && (decide (4 ≤ curSrc s) || isF s 0 F.CLK_STATUS_SAFE) then s
  else enterSafe (incF (putSrc s (curSrc s) false) 0 F.CLK_EVT_LOSSES 1) 0x50

def execReferenceLoss (s : State) : Out := .next (noteState s (referenceLoss s))

/-- A wing PLL loses lock while its reference is present. -/
def pllLockLoss (s : State) (w : Nat) : State :=
  if !(isF s (wingBase w) F.WNG_PLL_LOCK) || !(srcActive s (curSrc s)) || isF s 0 F.CLK_STATUS_SAFE then s else enterSafe s 0x54

def execPllLockLoss (w : Fin 2) (s : State) : Out := .next (noteState s (pllLockLoss s w.val))

/-! ### Qualification and switches (R328, R329, R331, R332) -/

/-- The automatic return to PREF. -/
def autoReturn (s : State) : State :=
  if isF s 0 F.CLK_REF_CFG_AUTO_RETURN && muxState s == 0 && !s.clocks.relock && curSrc s != prefSrc s && srcQualified s (prefSrc s) then
    startSwitch s (prefSrc s)
  else s

/-- The first qualified source in the order PREF, FALLBACK, LOCAL. -/
def firstSource (s : State) (p : Nat → Bool) : Option Nat := [prefSrc s, getF s 0 F.CLK_REF_CFG_FALLBACK, 4].find? p

/-- The tc from which a port's 100 ms count: since its lanes are aligned, but for a source that returned while a switch hung,
since that switch (Table 13.2). -/
def qualFrom (s : State) (i : Nat) : Nat :=
  let t := (port s i).since
  if t < s.clocks.switchAt then t else max t s.clocks.doneAt

/-- A source has been active and within 50 ppm for 100 ms; a tick-port clock only while its port's lanes are aligned, and none that
came back during a switch that hangs or is forced, until that is done. -/
def sourceQualified (s : State) (i : Nat) : State :=
  if decide (i < 4) && (!(portUp s i) || (decide (2 ≤ muxState s) && decide (s.clocks.switchAt ≤ (port s i).since))) then s
  else
    let s := if i < 4 then waitTc s (qualFrom s i + usTc s 100000) else s
    let s := putSrc s i true
    if isF s 0 F.CLK_STATUS_NOREF then
      match firstSource s (srcQualified s) with
      | some j => startSwitch (putF s 0 F.CLK_STATUS_NOREF 0) j
      | none => s
    else if s.clocks.want == some i && muxState s == 0 && !s.clocks.relock then
      startSwitch (modClocks s fun c => { c with want := none }) i
    else autoReturn s

def execSourceQualified (src : Fin 5) (s : State) : Out := .next (sourceQualified s src.val)

/-- The multiplexer changes over: a switch in progress or forced, to a source that is active. -/
def switchDone (s : State) : State :=
  let i := getF s 0 F.CLK_STATUS_PEND_SRC
  if (muxState s != 1 && muxState s != 3) || !(srcActive s i) then s
  else
    let ns := (s.tc - s.clocks.switchAt) * 1000 / max 1 (freq s)
    let s := putF (putF (putF s 0 F.CLK_STATUS_CUR_SRC i) 0 F.CLK_STATUS_MUX 0) 0 F.CLK_STATUS_PEND_SRC 0
    modClocks (putF s 0 F.CLK_MUX_WAIT_NS (min (2 ^ 32 - 1) ns)) fun c => { c with relock := true, doneAt := s.tc }

def execReferenceSwitchDone (s : State) : Out := .next (switchDone s)

/-- Both PLLs are locked to the selected reference: a switch completes with 0x52, and the safe state ends. -/
def pllRelock (s : State) : State :=
  if (isF s (wingBase 0) F.WNG_PLL_LOCK && isF s (wingBase 1) F.WNG_PLL_LOCK) || muxState s != 0 || !(srcActive s (curSrc s)) || powerState s == 0 then s
  else
    let s := holdover (holdover s 0 false) 1 false
    let s := incF (incF s (wingBase 0) F.WNG_PLL_RELOCKS 1) (wingBase 1) F.WNG_PLL_RELOCKS 1
    let s := if s.clocks.relock then clockCondition (incF s 0 F.CLK_EVT_SWITCHES 1) 0x52 else s
    let s := modClocks s fun c => { c with relock := false, realigned := c.realigned || !(joined s) || (isRoot s && curSrc s == 4) }
    let s := freqNext (settleFreq (putF s 0 F.CLK_STATUS_SAFE 0))
    autoReturn (respondAll s (· == .clock) 0 [])

def execPllRelock (s : State) : Out := .next (noteState s (pllRelock s))

/-- The time since the switch began has reached `us` microseconds. -/
def switchLasts (s : State) (us : Nat) : Bool := decide (s.clocks.switchAt + usTc s us ≤ s.tc)

/-- A switch incomplete after 1 us hangs. -/
def execMuxHang (s : State) : Out :=
  if muxState s == 1 && switchLasts s 1 then
    .next (clockCondition (incF (putF s 0 F.CLK_STATUS_MUX 2) 0 F.CLK_EVT_HANGS 1) 0x51)
  else .next s

/-- The hardware timeout, 1 ms after the switch began: it forces to a source that is active; with none, 0x53. -/
def muxTimeout (s : State) : State :=
  if muxState s == 0 || muxState s == 3 || !(switchLasts s 1000) then s
  else
    let i := getF s 0 F.CLK_STATUS_PEND_SRC
    match if srcActive s i then some i else firstSource s (srcActive s) with
    | some j =>
      let s := putF (putF s 0 F.CLK_STATUS_MUX 3) 0 F.CLK_STATUS_PEND_SRC j
      incF (putF s 0 F.CLK_MUX_LAST_FORCE 2) 0 F.CLK_EVT_TIMEOUTS 1
    | none => if isF s 0 F.CLK_STATUS_NOREF then s else setF (clockCondition s 0x53) 0 F.CLK_STATUS_NOREF

def execMuxTimeout (s : State) : Out := .next (muxTimeout s)

/-- A pending switch is forced by a command; without one, nothing. -/
def forceSwitch (s : State) : State :=
  if muxState s == 1 || muxState s == 2 then putF (putF s 0 F.CLK_STATUS_MUX 3) 0 F.CLK_MUX_LAST_FORCE 1 else s

/-- A write of CLK.MUX. -/
def writeMux (s : State) (v : Nat) : State := if bit v 63 then forceSwitch s else s

def execMuxForce (v : Word) (s : State) : Out := .next (writeMux s v.toNat)

/-! ### CLOCK_SELECT (R334) -/

def clockSelectBody (slot : Nat) (s : State) : State :=
  let a := arg s slot 0; let src := bits a 0 3
  if decide (4 < src) || (joined s && src != getF s 0 F.FAB_DOM_TICKPORT) || (bit a 3 && !(srcActive s src)) then respond s slot 0x55 []
  else
    let s := putF (putF s 0 F.CLK_REF_CFG_PREF src) 0 F.CLK_REF_CFG_AUTO_RETURN (bits a 4 1)
    let s := if bit a 3 then forceSwitch s else s
    if curSrc s == src && muxState s == 0 then respond s slot 0 []
    else if muxState s != 0 then (if getF s 0 F.CLK_STATUS_PEND_SRC == src then await s slot .clock else
      respond (modClocks s fun c => { c with want := some src }) slot 0 [])
    else if srcQualified s src then await (startSwitch s src) slot .clock
    else respond (modClocks s fun c => { c with want := some src }) slot 0 []

def execClockSelect (slot : Fin 34) (s : State) : Out := mailbox 0x80 slot.val yes [0x1F] (clockSelectBody slot.val) s

/-! ### The forwarded clock (R327) -/

/-- A calibration pass of a field: its largest phase difference, and the trims that reached their limit. Live calibration
moves the live trims. -/
def fwdCal (s : State) (f atLimit skew : Nat) : State :=
  let w := f / 84
  if !(isF s (wingBase w) F.WNG_FWD_EN) || powerState s == 0 then s
  else
    let s := waitTc s (field s f).fwdAt
    let s := modField s f fun v => { v with fwdAt := s.tc + usTc s (1000 * max 1 (getF s (wingBase w) F.WNG_FWD_INTERVAL)) }
    let s := putF (incF s (wingBase w) F.WNG_FWD_AT_LIMIT atLimit) (wingBase w) F.WNG_FWD_MAX_SKEW_PS skew
    let (s, i) := nextFree s
    let s := modSteward s fun x => { x with calLive := .open_ (i + 1) }
    if atLimit == 0 then s else clockCondition s 0x56

def execFwdCalPass (f : FieldId) (atLimit : Nat) (skewPs : BitVec 16) (s : State) : Out := .next (fwdCal s f.val atLimit skewPs.toNat)

/-! ### Clock enables (R336, R354) -/

/-- A write of MGT.CLK_EN. With the NVS enable set again, what was held may be written once more. -/
def writeGate (s : State) (v : Nat) : State :=
  let s := putF (wr s F.MGT_CLK_EN_NVS.off (v % 128)) 0 F.MGT_CLK_ON_ON (v % 128)
  if bit v 0 then modSteward s fun w => { w with heldRaised := false } else s

def execClockGateWrite (v : Word) (s : State) : Out := .next (writeGate s v.toNat)

end Sys2Proof.Machine
end

