-- ==== Sys2Proof/Machine/Evc.lean ====
section
/-! DEFINITION. The event concentrator (R367 to R378). -/

namespace Sys2Proof.Machine

def modEvc (s : State) (f : Evc → Evc) : State := { s with evc := f s.evc }
def srcCfg (s : State) (n : Nat) (f : Fld) : Nat := getF s 0 (f.at (8 * n))
def srcStat (s : State) (n : Nat) (f : Fld) : Nat := getF s 0 (f.at (8 * n))
def putStat (s : State) (n : Nat) (f : Fld) (v : Nat) : State := putF s 0 (f.at (8 * n)) v
def isEdge (s : State) (n : Nat) : Bool := srcCfg s n F.EVC_SRC_MODE == 1
def isPend (s : State) (n : Nat) : Bool := srcStat s n F.EVC_SRC_STAT_PEND == 1
def inService (s : State) (n : Nat) : Bool := srcStat s n F.EVC_SRC_STAT_INSVC == 1

/-! ### Inputs (Table 15.1) -/

/-- Sources whose input is a pulse. -/
def isPulsed (n : Nat) : Bool := (decide (320 ≤ n) && decide (n ≤ 322)) || (decide (352 ≤ n) && decide (n ≤ 388)) ||
  (decide (416 ≤ n) && decide (n ≤ 431)) || decide (512 ≤ n)

/-- A stream has a notice or error bit set (R264). -/
def strPend (s : State) (n : Nat) : Bool :=
  [F.STR_WMARK_HI_SEEN, F.STR_WMARK_LO_SEEN, F.STR_STAT_DL_MISS, F.STR_STAT_FLUSHED, F.STR_STAT_PTR, F.STR_STAT_POISON].any fun f =>
    strF s n f == 1

/-- The registers of a list of addresses that are written hold one for which `p` says yes. -/
def anyReg (s : State) (p : Nat → Nat → Bool) : Bool := s.csr.any fun e => p e.1 e.2.toNat

/-- Some stream of a wing has a notice or error bit set. -/
def anyStr (s : State) (w : Nat) : Bool :=
  s.csr.any fun e => decide (0x1000000 + 0x200000 * w ≤ e.1) && decide (e.1 < 0x1200000 + 0x200000 * w) && strPend s ((e.1 - 0x1000000) / 64)

/-- Some scrubber of a wing has a log entry. -/
def anyScrub (s : State) (w : Nat) : Bool :=
  anyReg s fun a v => a / 0x800000000 == 6 + w && a / 0x1000000000 == 3 && a % 0x1000 == F.CLU_SCRUB_LOG_VALID.off && bit v 63

/-- The level of a source's input. -/
def inputLevel (s : State) (n : Nat) : Bool :=
  if n < 168 then (List.range 4).any fun i => rd s (fieldBase n + F.RIM_SUMMARY_SEEN.off + 8 * i) != 0
  else if decide (192 ≤ n) && decide (n < 224) then rd s (fab (n - 192) + F.FAB_ERR_LINK_LOST.off) != 0
  else if decide (224 ≤ n) && decide (n < 256) then
    isF s (0x10000 * (n - 224)) F.FRN_ECC_LOG_VALID || getF s (0x10000 * (n - 224)) F.FRN_STATUS_STATE == 3
  else match n with
    | 256 => rd s (wingBase 0 + F.HNG_ERR_CRC.off) != 0
    | 257 => rd s (wingBase 1 + F.HNG_ERR_CRC.off) != 0
    | 258 => anyStr s 0
    | 259 => anyStr s 1
    | 260 => anyScrub s 0
    | 261 => anyScrub s 1
    | 288 => rd s F.PWR_ERR_DROOP.off != 0
    | 289 => powerState s == 2 || powerState s == 3
    | 290 => isF s 0 F.PWR_DIN_CUR_ACT
    | 291 => isF s 0 F.PWR_DIN_FRZ_ACT
    | 292 => rd s F.THM_ERR_ALERT.off != 0
    | 293 => s.thermal.alert
    | 294 => rd s F.CLK_ERR_CODE.off != 0
    | 295 => isF s 0 F.CLK_STATUS_SAFE
    | _ => false

/-! ### Pending bits and host messages (R368, R373 to R375) -/

def group (n : Nat) : Nat := n / 32
def isHeld (s : State) (g : Nat) : Bool := (look none s.evc.hold g).isSome

/-- A group's hold-off starts anew. -/
def startHold (s : State) (g : Nat) : State :=
  let us := getF s 0 (F.EVC_HOLD_HOLD_US.at (8 * g))
  modEvc s fun e => { e with hold := put none e.hold g (if us == 0 then none else some (s.tc + usTc s us)) }

/-- The source sends its message to the host. -/
def hostSend (s : State) (n : Nat) : State :=
  let vec := srcCfg s n F.EVC_SRC_VEC
  if srcCfg s n F.EVC_SRC_HOST != 1 || decide (vec < 34) || srcCfg s n F.EVC_SRC_EN != 1 then s
  else startHold (msix (modEvc s fun e => { e with owed := e.owed.filter fun x => x != n }) (srcCfg s n F.EVC_SRC_FUNC) vec) (group n)

/-- A pending bit has changed from 0 to 1, or EN was set on it. A message held off is owed by a level source. -/
def becamePending (s : State) (n : Nat) : State :=
  if !(isHeld s (group n)) then hostSend s n
  else if isEdge s n || s.evc.owed.contains n then s
  else modEvc s fun e => { e with owed := e.owed ++ [n] }

def setPend (s : State) (n : Nat) : State := if isPend s n then s else becamePending (putStat s n F.EVC_SRC_STAT_PEND 1) n
def clearPend (s : State) (n : Nat) : State :=
  modEvc (putStat s n F.EVC_SRC_STAT_PEND 0) fun e => { e with owed := e.owed.filter fun x => x != n }

def absorbed (s : State) : State := incF s 0 F.EVC_STAT_ABSORBED 1
def arrived (s : State) (n : Nat) : State := incF s 0 (F.EVC_SRC_STAT_ARR.at (8 * n)) 1

/-- An arrival at an edge source. -/
def srcEdge (s : State) (n : Nat) : State :=
  if inService s n then arrived s n else if isPend s n then absorbed s else setPend s n

/-- The input of a source that has a level is sampled. -/
def sampleLevel (s : State) (n : Nat) : State :=
  let was := srcStat s n F.EVC_SRC_STAT_INPUT == 1; let now := inputLevel s n
  let s := putStat s n F.EVC_SRC_STAT_INPUT (b2n now)
  if isEdge s n then (if now && !was then srcEdge s n else s)
  else if inService s n then (if now && !was then arrived s n else s)
  else if now then setPend s n else clearPend s n

/-- A pulse at a source. One in MODE 0 is pending for its pulse and no longer, which may send its message; one in service counts it. -/
def srcPulse (s : State) (n : Nat) : State :=
  if isEdge s n then srcEdge s n else if inService s n then arrived s n else clearPend (setPend s n) n

/-- The pulses that have come at a source. -/
def samplePulses (s : State) (n : Nat) : State :=
  let k := look 0 s.evc.pulses n
  (List.range k).foldl (fun s _ => srcPulse s n) (modEvc s fun e => { e with pulses := put 0 e.pulses n 0 })

def execEvcSourceInput (n : Fin 1023) (s : State) : Out :=
  .next (if isPulsed n.val then samplePulses s n.val else sampleLevel s n.val)

/-! ### Eligibility and claims (R369 to R372) -/

def svcOf (s : State) (c : Nat) : List Nat := look [] s.evc.insvc c
def groupPrio (s : State) (n : Nat) : Nat := srcCfg s n F.EVC_SRC_PRIO / 2 ^ getF s 0 F.EVC_CFG_SPLIT
def subPrio (s : State) (n : Nat) : Nat := srcCfg s n F.EVC_SRC_PRIO % 2 ^ getF s 0 F.EVC_CFG_SPLIT
def runGroup (s : State) (c : Nat) : Nat := (svcOf s c).foldl (fun m n => max m (groupPrio s n)) 0
def coreF (f : Fld) (c : Nat) : Fld := f.at (0x40 * c)

/-- Sources with a pending bit set, in rising order. -/
def pendings (s : State) : List Nat :=
  (s.csr.filter fun e => decide (0x14000 ≤ e.1) && decide (e.1 < 0x14000 + 8 * 1023) && bit e.2.toNat 1).map fun e => (e.1 - 0x14000) / 8

/-- The source is enabled, not held off, and names the core. -/
def offered (s : State) (c n : Nat) : Bool :=
  srcCfg s n F.EVC_SRC_EN == 1 && isPend s n && bit (srcCfg s n F.EVC_SRC_TGT) c && !(isHeld s (group n))

def eligible (s : State) (c n : Nat) : Bool :=
  offered s c n && !(inService s n) && srcCfg s n F.EVC_SRC_PRIO != 0 && decide ((svcOf s c).length < 16) &&
    decide (max (getF s 0 (coreF F.EVC_CORE_CTL_THRESH c)) (runGroup s c) < groupPrio s n)

/-- Source `m` goes before source `n`: the higher group, then the higher sub-priority, then the lower number. -/
def goesBefore (s : State) (m n : Nat) : Bool :=
  decide (groupPrio s n < groupPrio s m) || (groupPrio s n == groupPrio s m &&
    (decide (subPrio s n < subPrio s m) || (subPrio s n == subPrio s m && decide (m < n))))

/-- The first of the eligible sources. -/
def firstOf (s : State) : List Nat → Option Nat
  | [] => none
  | n :: r =>
    match firstOf s r with
    | none => some n
    | some m => if goesBefore s m n then some m else some n

/-- A read of EVC.CLAIM(c): the source placed in service, or 0x3FF. -/
def claim (s : State) (c : Nat) : State × Nat :=
  match firstOf s ((pendings s).filter (eligible s c)) with
  | none => (incF s 0 F.EVC_STAT_SPURIOUS 1, 0x3FF)
  | some n =>
    let s := putStat (putStat (putStat (clearPend s n) n F.EVC_SRC_STAT_INSVC 1) n F.EVC_SRC_STAT_CORE c) n F.EVC_SRC_STAT_ARR 0
    (startHold (modEvc s fun e => { e with insvc := put [] e.insvc c (n :: svcOf s c) }) (group n), n)

def execEvcClaim (c : Fin 4) (s : State) : Out :=
  let (s, n) := claim s c.val
  .next { s with rdata := BitVec.ofNat 64 n }

/-- A source leaves service; it is pending again if edges arrived meanwhile, or its level is still active. -/
def svcEnd (s : State) (c n : Nat) : State :=
  if !((svcOf s c).contains n) then incF s 0 F.EVC_STAT_BAD_COMPLETE 1
  else
    let s := modEvc s fun e => { e with insvc := put [] e.insvc c ((svcOf s c).filter fun x => x != n) }
    let s := putStat s n F.EVC_SRC_STAT_INSVC 0
    let again := if isEdge s n then srcStat s n F.EVC_SRC_STAT_ARR != 0 else srcStat s n F.EVC_SRC_STAT_INPUT == 1
    if again then setPend s n else s

def execEvcComplete (c : Fin 4) (v : Word) (s : State) : Out := .next (svcEnd s c.val (v.toNat % 1024))

/-- A write of EVC.PEND(i): edge sources' bits clear. -/
def writePend (s : State) (i v : Nat) : State :=
  (List.range 64).foldl (fun s b =>
    let n := 64 * i + b
    if bit v b && decide (n < 1023) && isEdge s n then clearPend s n else s) s

def execEvcPendWrite (i : Fin 16) (v : Word) (s : State) : Out := .next (writePend s i.val v.toNat)

/-- A write of EVC.SWSET. -/
def swset (s : State) (v : Nat) : State :=
  let n := v % 1024
  if decide (512 ≤ n) && n != 1023 then srcPulse s n else s

def execEvcSwset (v : Word) (s : State) : Out := .next (swset s v.toNat)

/-- A write of CORE_CTL(c).FLUSH: every source in service on the core is completed. -/
def flush (s : State) (c : Nat) : State := (svcOf s c).foldl (fun s n => svcEnd s c n) s

def execEvcFlush (c : Fin 4) (s : State) : Out := .next (flush s c.val)

/-- A write of EVC.SRC(n). EN set on a pending source counts as its becoming pending. -/
def writeSrc (s : State) (n : Nat) (v : Word) : State :=
  let was := srcCfg s n F.EVC_SRC_EN == 1
  let s := plainWrite s (F.EVC_SRC_EN.off + 8 * n) v
  if !was && srcCfg s n F.EVC_SRC_EN == 1 && isPend s n then becamePending s n else s

/-- A hold-off timer expires (R374). A level source that owes the host a message sends it. -/
def holdExpiry (s : State) (g : Nat) : State :=
  match look none s.evc.hold g with
  | none => s
  | some t =>
    if s.tc < t then s
    else
      let s := modEvc s fun e => { e with hold := put none e.hold g none }
      ((pendings s).filter fun n => group n == g && s.evc.owed.contains n).foldl (fun s n => if isHeld s g then s else hostSend s n) s

def execHoldOffExpiry (g : Fin 32) (s : State) : Out := .next (holdExpiry s g.val)

/-- A general timer expires; gated, the timers stand still (R336). -/
def execGeneralTimerExpiry (k : Fin 16) (s : State) : Out :=
  .next (if isF s 0 F.MGT_CLK_EN_TIMER then pulse s (416 + k.val) else s)

/-! ### Sleep and wake (R376, R377) -/

def asleep (s : State) (c : Nat) : Bool := isF s 0 (coreF F.EVC_CORE_STAT_SLEEP c)
def anyEligible (s : State) (c : Nat) : Bool := (pendings s).any (eligible s c)

def execCoreSleep (c : Fin 4) (s : State) : Out :=
  let c := c.val
  if asleep s c || anyEligible s c then .next s else .next (setF s 0 (coreF F.EVC_CORE_STAT_SLEEP c))

def coreWake (s : State) (c : Nat) : State :=
  if !(asleep s c) then s
  else
    let up := putF s 0 (coreF F.EVC_CORE_STAT_SLEEP c) 0
    if anyEligible s c && !(isF s 0 (coreF F.EVC_CORE_CTL_MASK c)) then putF up 0 (coreF F.EVC_CORE_STAT_WAKE_FB c) 0
    else if (pendings s).any (offered s c) then incF (setF up 0 (coreF F.EVC_CORE_STAT_WAKE_FB c)) 0 F.EVC_STAT_FALLBACK_WAKES 1
    else s

def execCoreWake (c : Fin 4) (s : State) : Out := .next (coreWake s c.val)

/-! ### Registers that are seen live -/

/-- EVC.PEND(i) or EVC.INSVC(i), from bit `b` of the sources' EVC.SRC_STAT. -/
def statBits (s : State) (i b : Nat) : Nat :=
  ((s.csr.filter fun e => decide (0x14000 + 512 * i ≤ e.1) && decide (e.1 < 0x14000 + 512 * i + 512) && bit e.2.toNat b).map
    fun e => 2 ^ ((e.1 - 0x14000) / 8 % 64)).sum

/-- EVC.CORE_STAT(c). -/
def coreStat (s : State) (c : Nat) : Nat :=
  let w := rd s (F.EVC_CORE_STAT_TOP.off + 0x40 * c)
  patch (patch (patch w F.EVC_CORE_STAT_RUN_GROUP (runGroup s c)) F.EVC_CORE_STAT_DEPTH (svcOf s c).length) F.EVC_CORE_STAT_TOP ((svcOf s c).headD 0x3FF)

/-- EVC.HOLD(g), with the whole microseconds left. -/
def holdView (s : State) (g : Nat) : Nat :=
  let left := match look none s.evc.hold g with | some t => ceilDiv (t - s.tc) (max 1 (freq s)) | none => 0
  patch (rd s (F.EVC_HOLD_HOLD_US.off + 8 * g)) F.EVC_HOLD_REMAIN (min 65535 left)

end Sys2Proof.Machine
end

