-- ==== Sys2Proof/Machine/Reports.lean ====
section
/-! DEFINITION. Reports on their way up the rime network (R188 to R190). -/

namespace Sys2Proof.Machine

/-- The token of a code that a tile holds reaches the hub, with its count (R189). -/
def execTokenArrival (t : TileId) (code : Fin 256) (s : State) : Out :=
  let k := tileNo t
  let n := look 0 (tile s k).tokens code.val
  if n == 0 then .next s
  else .next (hubCount (modTile s k fun x => { x with tokens := put 0 x.tokens code.val 0 }) (tileField k) code.val n)

/-- A tile's oldest record reaches its cluster node, which holds 4, or the node's oldest reaches the hub (R190). -/
def execDetailRecordForward (t : TileId) (node : Bool) (s : State) : Out :=
  let k := tileNo t; let c := tileCluster k; let f := tileField k
  if node then
    match (cluster s c).details with
    | [] => .next s
    | r :: l => .next (hubRecord (modCluster s c fun v => { v with details := l }) f r)
  else
    match (tile s k).details with
    | [] => .next s
    | r :: l =>
      let s := modTile s k fun v => { v with details := l }
      if (cluster s c).details.length < 4 then .next (modCluster s c fun v => { v with details := v.details ++ [r] })
      else .next (dropRecord s f r.code)

/-- A downward command is not acknowledged within 2 us: it is repeated up to three times, 2 us apart, then the hub polls its nodes
and reports 0xE5 with the clusters that did not acknowledge (R188). The spec gives no layout of that detail: a free value. A repeat
that comes later than 2 us after the last is the first of another command, that one having been acknowledged (log entry 138). -/
def execRimeCommandRetry (f : FieldId) (s : State) : Out :=
  let f := f.val; let v := field s f
  let next := v.repeatAt + waferTc 2
  let same := decide (v.repeats != 0 && s.tc ≤ next)
  let s := if same then waitTc s next else s
  if !same || v.repeats < 3 then .next (modField s f fun v => { v with repeats := if same then v.repeats + 1 else 1, repeatAt := s.tc })
  else
    let (s, n) := nextFree (modField s f fun v => { v with repeats := 0 })
    .next (setF (hubReport s f 0xE5 (Config.freeWord n).toNat) (fieldBase f) F.RIM_ERR_NOACK)

/-- A record as the two words of Table 07.9. -/
def recLo (r : Rec) : Nat := r.code % 256 + r.unit % 256 * 2 ^ 8 + r.source % 2 ^ 22 * 2 ^ 16 + r.beat % 65536 * 2 ^ 48

/-- A read of RIM.REP_LO: the oldest record's low half; the read removes the record and latches its high half; zero when
none is held (R14), which leaves the latched half as it is (DESIGN CHOICE, log entry 144). -/
def readReport (s : State) (f : Nat) : State × Word :=
  match (field s f).details with
  | [] => (s, 0)
  | r :: l =>
    (wr (modField s f fun v => { v with details := l }) (fieldBase f + F.RIM_REP_HI_REC_HI.off) (r.detail % 2 ^ 64), BitVec.ofNat 64 (recLo r))

def execReportRecordRead (f : FieldId) (s : State) : Out :=
  let (s, v) := readReport s f.val
  .next { s with rdata := v }

end Sys2Proof.Machine
end

