-- ==== Sys2Proof/Machine/Regs.lean ====
section
/-! DEFINITION. Reads and writes of any CSR address (R9 to R14, R28 to R31): access codes, live fields, and the registers
whose read or write does something. -/

namespace Sys2Proof.Machine

/-! ### Addresses (Table 01.5) -/

def addrSpace (a : Nat) : Nat := a / 0x1000000000
def addrW (a : Nat) : Nat := bits a 35 1
def addrTile (a : Nat) : Nat := (addrW a * 672 + bits a 25 10) * 1152 + bits a 14 11
def addrCluster (a : Nat) : Nat := (addrW a * 168 + bits a 27 8) * 288 + bits a 18 9
def addrField (a : Nat) : Nat := addrW a * 84 + 12 * bits a 32 3 + bits a 28 4

/-- Condition 0x01: no such address. -/
def noAddress (a : Nat) : Bool :=
  match addrSpace a with
  | 0 => decide (0x2000000 ≤ a)
  | 1 => bits a 24 11 != 0 || a % 8 != 0
  | 2 => decide (6 < bits a 32 3) || decide (11 < bits a 28 4) || bits a 16 12 != 0 || a % 8 != 0
  | 3 => decide (167 < bits a 27 8) || decide (287 < bits a 18 9) || bits a 12 6 != 0 || a % 8 != 0
  | 4 => decide (671 < bits a 25 10) || decide (1151 < bits a 14 11) || a % 8 != 0
  | _ => true

/-- The cluster that a tile or cluster address belongs to. -/
def targetCluster (a : Nat) : Option Nat :=
  match addrSpace a with
  | 3 => some (addrCluster a)
  | 4 => some (tileCluster (addrTile a))
  | _ => none

/-- The logical cluster row is inside a calving sequence. -/
def rowShifting (s : State) (c : Nat) : Bool :=
  (List.range 24).any fun x => (cluster s (fieldCluster (clusterField c) x (lcy c))).shift

/-- The condition that an access to an address returns (R31); 0 where it is made. Where a row in a shift is also unbacked, 0x02 comes
first (DESIGN CHOICE, log entry 145). -/
def addrCode (s : State) (a : Nat) : Nat :=
  if noAddress a then 1
  else match targetCluster a with
    | some c => if rowShifting s c then 2 else if !(backed s c) then 3 else 0
    | none => 0

/-! ### Live values -/

/-- HNG.STATUS of a wing, once its start-up training has ended. -/
def hngStatus (s : State) (w : Nat) : Nat :=
  let v := rd s (wingBase w + F.HNG_STATUS_TRAINED.off)
  if v % 2 == 0 then v
  else
    let rx (l : Nat) : Nat := getF s (wingBase w) (laneF F.HNG_LANE_RX_STATE l)
    let rows := List.range 672
    let v := patch v F.HNG_STATUS_ROWS_DETOUR (rows.filter fun y => rowDetoured s w y).length
    let v := patch v F.HNG_STATUS_ROWS_HALF (rows.filter fun y => laneLost s w (2 * y) != laneLost s w (2 * y + 1)).length
    let v := patch v F.HNG_STATUS_SPARES_USED ((List.range 42).filter fun g =>
      laneState s w (1344 + g) == 5 && laneState s w (lanePartner s w (1344 + g)) == 6).length
    let v := patch v F.HNG_STATUS_RX_ACTIVE ((List.range 1386).filter fun l => rx l == 2).length
    patch v F.HNG_STATUS_TX_ACTIVE ((List.range 1386).filter fun l => laneState s w l == 2).length

/-- Group spares of a direction that are idle or carry a lane in calibration. -/
def sparesFree (s : State) (w : Nat) : Nat :=
  ((List.range 42).filter fun g => laneState s w (1344 + g) == 4 ||
    (laneState s w (1344 + g) == 5 && laneState s w (lanePartner s w (1344 + g)) == 3)).length

/-- HNG.SUMMARY. -/
def hngSummary (s : State) : Nat :=
  let t (w : Nat) : Nat := rd s (wingBase w + F.HNG_STATUS_TRAINED.off) % 2
  if t 0 + t 1 == 0 then 0
  else
    let a := hngStatus s 0; let b := hngStatus s 1
    let v := patch (patch 0 F.HNG_SUMMARY_A_TRAINED (t 0)) F.HNG_SUMMARY_B_TRAINED (t 1)
    let v := patch v F.HNG_SUMMARY_SPARES_FREE (min (sparesFree s 0) (sparesFree s 1))
    let v := patch v F.HNG_SUMMARY_FAILED ((List.range 1386).map fun l => b2n (laneState s 0 l == 6) + b2n (laneState s 1 l == 6)).sum
    let sum (f : Fld) : Nat := bits a f.lo f.w + bits b f.lo f.w
    patch (patch v F.HNG_SUMMARY_DETOUR (sum F.HNG_STATUS_ROWS_DETOUR)) F.HNG_SUMMARY_HALF (sum F.HNG_STATUS_ROWS_HALF)

/-- The tick port is UP and its reference qualified (FAB.STATUS.TICK_LOCK). -/
def tickLock (s : State) (p : Nat) : Bool := joined s && getF s 0 F.FAB_DOM_TICKPORT == p && !(isRoot s) && portUp s p && srcQualified s p

/-- A word of the status mirror (R346). -/
def mirrorWord (s : State) (i : Nat) : Nat :=
  let w := rd s (F.MBX_MIRROR_STATE.off + 8 * i)
  match i with
  | 0 =>
    let w := patch (patch w F.MBX_MIRROR_STATE (mirrorState s)) F.MBX_MIRROR_OPSEC (opsec s)
    let w := patch w F.MBX_MIRROR_CAL_USER (b2n (s.steward.nvs.user && phase s != 0))
    patch w F.MBX_MIRROR_DEGRADED (b2n ((List.range 168).any fun f => isF s (fieldBase f) F.FLD_SHIFT_ROW_DEGRADED))
  | 1 => patch (patch w F.MBX_MIRROR_STEP_ID (getF s 0 F.FAB_STEP_ID)) F.MBX_MIRROR_STEP_STATE (getF s 0 F.FAB_STEP_STATE)
  | _ =>
    let h := hngSummary s
    let w := patch (patch w F.MBX_MIRROR_DRAW (getF s 0 F.PWR_STATUS_DRAW)) F.MBX_MIRROR_OUTLET (getF s 0 F.THM_COOL_OUTLET)
    let w := patch w F.MBX_MIRROR_HOT (max (getF s 0 F.THM_WAFER_A_MAX) (getF s 0 F.THM_WAFER_B_MAX))
    let w := patch (patch w F.MBX_MIRROR_GAUGE_FAULT (getF s 0 F.PWR_HOLD_GAUGE_FAULT)) F.MBX_MIRROR_CURTAILED (getF s 0 F.PWR_DIN_CUR_ACT)
    let w := patch (patch w F.MBX_MIRROR_FRZ_PIN (getF s 0 F.PWR_DIN_FRZ_ACT)) F.MBX_MIRROR_THROTTLING (getF s 0 F.PWR_STATUS_THROTTLING)
    let w := patch (patch w F.MBX_MIRROR_ALERT (b2n s.thermal.alert)) F.MBX_MIRROR_JOINED (b2n (joined s))
    let w := patch w F.MBX_MIRROR_TICK_LOCK (b2n ((List.range 4).any (tickLock s)))
    patch w F.MBX_MIRROR_HINGE (b2n (decide (0 < bits h 20 36)))

/-- The settings copy in force: the valid one with the higher SEQ; true B (R352). -/
def inForce (n : Nvs) : Option (Copy × Bool) :=
  match n.a, n.b with
  | some a, some b => if a.seq < b.seq then some (b, true) else some (a, false)
  | some a, none => some (a, false)
  | none, some b => some (b, true)
  | none, none => none

/-- The bytes of a calibration body. -/
def CalSet.body : CalSet → List Byte
  | .open_ n => Config.calBody n
  | .bytes l => l

/-- The NVS registers; zero while the controller is gated, and until phase 1 of a start has loaded them (R11, R354, R365). -/
def nvsView (s : State) (i : Nat) : Nat :=
  let n := s.steward.nvs
  if !(isF s 0 F.MGT_CLK_ON_ON && isF s 0 F.MGT_CLK_EN_NVS) || !(jitorUp s) || decide (phase s < 2) then 0
  else match i with
    | 0 =>
      let v := patch (patch 0 F.NVS_STATUS_A_VALID (b2n n.a.isSome)) F.NVS_STATUS_B_VALID (b2n n.b.isSome)
      (match inForce n with
        | some (c, b) => patch (patch v F.NVS_STATUS_SEQ c.seq) F.NVS_STATUS_CUR (b2n b)
        | none => v)
    | 1 => n.stores % 2 ^ 32 * 2 ^ 32 + n.calWrites % 2 ^ 16 * 2 ^ 16 + n.fwWrites % 2 ^ 16
    | _ => crc32c n.cal.body % 2 ^ 32 * 2 ^ 32 + n.calSeq % 2 ^ 16 * 2 ^ 16 + 2 * b2n n.exported + b2n n.user

/-- The division in force at CLKMON (R335): the smallest that keeps to 200 MHz, and no smaller than DIV. -/
def monDiv (s : State) : Nat :=
  let mhz := match getF s 0 F.CLK_MON_SEL with
    | 1 | 2 => 157
    | 3 | 4 => freq s
    | 5 => Config.stewardMhz
    | _ => 0
  max (getF s 0 F.CLK_MON_DIV) (((List.range 16).find? fun n => decide (mhz ≤ 200 * 2 ^ n)).getD 15)

/-- Nanoseconds since the present switch of the reference began (CLK.MUX.WAIT_NS). -/
def muxWait (s : State) : Nat := min (2 ^ 32 - 1) ((s.tc - s.clocks.switchAt) * 1000 / max 1 (freq s))

/-- CLK.QUAL: ms for which each source has qualified; one that is not yet qualified has not reached 100 (R328). -/
def qualView (s : State) : Nat :=
  ((List.range 5).map fun i =>
    let from_ := if i == 4 then max s.clocks.localAt s.power.scrubFrom else qualFrom s i
    let ms := min 4095 ((s.tc - from_) / max 1 (usTc s 1000))
    (if !(srcActive s i) then 0 else if srcQualified s i then ms else min 99 ms) * 2 ^ (12 * i)).sum

/-- The PEND bits of FRN.STR_PEND(i). -/
def strPendWord (s : State) (i : Nat) : Nat := ((List.range 64).map fun b => b2n (strPend s (64 * i + b)) * 2 ^ b).sum

/-- An engine-global register as it stands; `link` is the function whose MSI-X table is seen. -/
def globalView (s : State) (link a : Nat) : Nat :=
  let w := rd s a
  if a % 8 != 0 then 0
  else if a < 0x800 then reqWord s (a / 64) (a % 64 / 8)
  else if a < 0x1000 then respWord s (a / 64 - 32) (a % 64 / 8)
  else if a == 0x1008 then ((List.range 32).map fun i => b2n (slotBusy s i) * 2 ^ i).sum
  else if 0x4000 ≤ a && a < 0x4018 then mirrorWord s ((a - 0x4000) / 8)
  else if 0x8000 ≤ a && a < 0x10000 then (look 0 s.steward.msixTab (4096 * link + (a - 0x8000) / 8)).toNat
  else if 0x10100 ≤ a && a < 0x10180 then statBits s ((a - 0x10100) / 8) 1
  else if 0x10180 ≤ a && a < 0x10200 then statBits s ((a - 0x10180) / 8) 3
  else if 0x10200 ≤ a && a < 0x10300 then holdView s ((a - 0x10200) / 8)
  else if 0x10400 ≤ a && a < 0x10500 && a % 64 == 0x18 then coreStat s ((a - 0x10400) / 64)
  else if a == 0x20010 then qualView s
  else if a == 0x20018 then (if muxState s == 0 then w else patch w F.CLK_MUX_WAIT_NS (muxWait s))
  else if a == 0x20030 then patch w F.CLK_MON_N_EFF (monDiv s)
  else if 0x50000 ≤ a && a < 0x50018 then nvsView s ((a - 0x50000) / 8)
  else if a == 0x60000 then hngSummary s
  else if 0x108100 ≤ a && a < 0x10A100 then strPendWord s ((a - 0x108100) / 8)
  else if 0x800000 ≤ a && a < 0xA00000 && a % 0x10000 == 0 then
    let p := (a - 0x800000) / 0x10000
    patch (patch w F.FAB_STATUS_MACSEC_ON (getF s (fab p) F.FAB_MACSEC_EN)) F.FAB_STATUS_TICK_LOCK (b2n (tickLock s p))
  else if 0x800000 ≤ a && a < 0xA00000 && a % 0x10000 == 0x30 then
    let p := (a - 0x800000) / 0x10000
    patch w F.FAB_MACSEC_PN_TOP (if isF s (fab p) F.FAB_MACSEC_XPN then (port s p).pn / 2 ^ 32 else (port s p).pn)
  else if 0x800000 ≤ a && a < 0xA00000 && a % 0x10000 == 0x38 then
    (macOf s ((a - 0x800000) / 0x10000)).toNat
  else if 0x1000000 ≤ a && a < 0x1400000 then strView s ((a - 0x1000000) / 64) (a % 64)
  else w

/-- A field register as it stands. -/
def fieldView (s : State) (f off : Nat) : Nat :=
  let w := rd s (fieldBase f + off)
  if off == 0x8000 then
    let un := ((fieldClusters f).filter fun c => !(backed s c)).length
    patch (patch (patch (patch w F.RIM_STATE_CNT_CALVED (16 * un)) F.RIM_STATE_CNT_FROZEN (lifeCount s f .frozen))
      F.RIM_STATE_CNT_LIVE (lifeCount s f .live)) F.RIM_STATE_CNT_INSTAR (lifeCount s f .instar)
  else if off == 0x8008 then patch w F.RIM_AGE_CFG_CLOCK (ageNow s f)
  else if off == 0x8028 then patch w F.RIM_REP_STAT_LEVEL (field s f).details.length
  else w

/-- A wing register as it stands. In phase 6 every lane not yet trained is in TRAIN (R185). -/
def wingView (s : State) (w off : Nat) : Nat :=
  let v := rd s (wingBase w + off)
  if off == 0x800000 then hngStatus s w
  else if 0x801000 ≤ off && off < 0x801000 + 8 * 1386 then
    let l := (off - 0x801000) / 8
    let v := patch v (laneF F.HNG_LANE_CAL_AGE l) (calAge s w l)
    if phase s == 6 then
      let v := if bits v 0 3 == 0 then v + 1 else v
      if bits v 4 3 == 0 then v + 16 else v
    else v
  else v

/-! ### Reads (R9, R14) -/

/-- Words that no register map gives but that a block shows: the records and the MSI-X table (Table 14.2). -/
def isRecord (a : Nat) : Bool := decide (a < 0x1000) || (decide (0x8000 ≤ a) && decide (a < 0x10000))

/-- The bits of a field register that a measurement fills, or the rime records asked for again, of which no command tells
(R188, R313): POWER, ENERGY and CRC_RETRY. -/
def fieldTimed (off : Nat) : Nat :=
  if off == 0x608 then 2 ^ 16 - 1 else if off == 0x610 then 2 ^ 64 - 1 else if off == 0x8030 then 2 ^ 64 - 2 ^ 32 else 0

/-- A read of an address that R31 does not refuse: the value, and what the read does. -/
def regRead (s : State) (link a : Nat) : State × Word :=
  match addrSpace a with
  | 4 => localRead s (addrTile a) (a % 0x4000)
  | 3 => localRead s (clusterTile (addrCluster a) 0) (0x4000 + a % 0x1000)
  | 2 =>
    if a % 0x10000 == 0x8018 then readReport s (addrField a)
    else
      readTimed (clearRc s a) ((look {} s.lifeF (addrField a)).st != .dark) (fieldTimed (a % 0x10000))
        (BitVec.ofNat 64 (fieldView s (addrField a) (a % 0x10000) &&& readMask a))
  | 1 =>
    readTimed (clearRc s a) (a % 0x1000000 == 0x100 && isF s (wingBase (addrW a)) F.WNG_PLL_LOCK) (0xFFFF * 2 ^ 32)
      (BitVec.ofNat 64 (wingView s (addrW a) (a % 0x1000000) &&& readMask a))
  | _ =>
    if isRecord a then (s, BitVec.ofNat 64 (globalView s link a))
    else if 0x10400 ≤ a && a < 0x10500 && a % 64 == 8 then
      let (s, n) := claim s ((a - 0x10400) / 64)
      (s, BitVec.ofNat 64 n)
    else
      let s := if 0x100000 ≤ a && a < 0x300000 && a % 0x10000 == 0 then fullSettle s ((a - 0x100000) / 0x10000) else s
      (clearRc s a, BitVec.ofNat 64 (globalView s link a &&& readMask a))

/-! ### Writes -/

/-- A value clamped into a range. -/
def clampTo (lo hi v : Nat) : Nat := max lo (min hi v)

/-- A write of PWR.CAP, PWR.RAMP, PWR.FLOOR or PWR.HOLD: each field is clamped into its range; a new FREQ is asked for. -/
def writePwr (s : State) (a v : Nat) : State :=
  let g (f : Fld) : Nat := bits v f.lo f.w
  if a == 0x30008 then
    let q := clampTo (max 600 (getF s 0 F.PWR_DVFS_F_MIN)) 1400 (g F.PWR_CAP_FREQ)
    let s := putF (putF s 0 F.PWR_CAP_CAP (clampTo 30 88 (g F.PWR_CAP_CAP))) 0 F.PWR_CAP_CURTAIL_CAP (clampTo 30 88 (g F.PWR_CAP_CURTAIL_CAP))
    let s := putF (putF s 0 F.PWR_CAP_PRIO (min 5 (g F.PWR_CAP_PRIO))) 0 F.PWR_CAP_FREQ q
    askFreq s q
  else if a == 0x30010 then
    putF (putF s 0 F.PWR_RAMP_UP (min 1000 (g F.PWR_RAMP_UP))) 0 F.PWR_RAMP_DOWN (min 1000 (g F.PWR_RAMP_DOWN))
  else if a == 0x30018 then
    putF (putF s 0 F.PWR_FLOOR_KW (min 88 (g F.PWR_FLOOR_KW))) 0 F.PWR_FLOOR_TRACK (g F.PWR_FLOOR_TRACK)
  else putF (putF s 0 F.PWR_HOLD_RIDE_MS (min 60 (g F.PWR_HOLD_RIDE_MS))) 0 F.PWR_HOLD_RIDE_EN (g F.PWR_HOLD_RIDE_EN)

/-- A write of a fabric register at an offset of port `p`'s 64 KiB. Entry 0 of FAB.PEER is learnt, not written. -/
def fabWrite (s : State) (p off : Nat) (v : Word) : State :=
  let a := 0x800000 + 0x10000 * p + off
  if off == 8 then writeFabCfg s p v
  else if 0x40 ≤ off && off < 0x100 then writeKey s p ((off - 0x40) / 48) ((off - 0x40) / 8 % 6) v
  else if off == 0x100 then s
  else if 0x1000 ≤ off && off < 0x3000 then writeChan s p ((off - 0x1000) / 8) v
  else plainWrite s a v

/-- A write of an EVC register. -/
def evcWrite (s : State) (a : Nat) (v : Word) : State :=
  let n := v.toNat
  if a == 0x10010 then swset s n
  else if 0x10100 ≤ a && a < 0x10180 then writePend s ((a - 0x10100) / 8) n
  else if 0x10400 ≤ a && a < 0x10500 then
    let c := (a - 0x10400) / 64
    if a % 64 == 0 then (let s := plainWrite s a v; if bit n 16 then flush s c else s)
    else if a % 64 == 0x10 then svcEnd s c (n % 1024)
    else s
  else if 0x12000 ≤ a && a < 0x12000 + 8 * 1023 then writeSrc s ((a - 0x12000) / 8) v
  else plainWrite s a v

/-- The steward's cores and Jitor are reset; every engine register stays (R364, R365). Before Jitor is up there is nothing to
reset. `cause` is seen when the steward leaves reset. -/
def stewardReset (s : State) (cause : Nat) : State :=
  if !(jitorUp s) && !s.steward.romOnly then s
  else
    let old := s
    let s := modSteward s fun w => { w with abandoned := w.queue, waits := [], cause }
    let s := modDep s fun d => { d with calves := d.calves.map fun r => { r with slot := none } }
    let s := setF (putF s 0 F.MBX_MIRROR_JITOR_UP 0) 0 F.MBX_MIRROR_STEWARD_RESET
    let s := setF (incF s 0 F.MGT_RESET_COUNT 1) 0 F.THM_DEMAND_HELD
    noteState old { s with thermal := { s.thermal with heldAt := some s.tc } }

/-- A write of an engine-global register by a link. -/
def globalWrite (s : State) (link a : Nat) (v : Word) : State :=
  let n := v.toNat
  if a % 8 != 0 then s
  else if a < 0x800 then writeRequest s (a / 64) (a % 64 / 8) n
  else if a < 0x1000 then s
  else if a == 0x1000 then doorbell s link n
  else if 0x8000 ≤ a && a < 0x10000 then
    modSteward s fun w => { w with msixTab := put 0 w.msixTab (4096 * link + (a - 0x8000) / 8) v }
  else if 0x10000 ≤ a && a < 0x20000 then evcWrite s a v
  else if a == 0x20018 then writeMux s n
  else if a == 0x20008 then autoReturn (plainWrite s a v)
  else if a == 0x30008 || a == 0x30010 || a == 0x30018 || a == 0x30038 then writePwr s a n
  else if a == 0x70000 then (if bit n 63 then stewardReset s 3 else s)
  else if a == 0x70100 then writeGate s n
  else if 0x800000 ≤ a && a < 0xA00000 then fabWrite s ((a - 0x800000) / 0x10000) (a % 0x10000) v
  else if 0x1000000 ≤ a && a < 0x1400000 then strWrite s ((a - 0x1000000) / 64) (a % 64) v
  else plainWrite s a v

/-- A write of an address that R31 does not refuse, in its turn with the tiles' own (R32). -/
def regWrite (s : State) (link a : Nat) (v : Word) : State :=
  match addrSpace a with
  | 4 => tileWrite (rimeTurn s [addrTile a] (a % 0x4000)) (addrTile a) (a % 0x4000) v
  | 3 => cluWrite (rimeTurn s (clusterTiles (addrCluster a)) (0x4000 + a % 0x1000)) (addrCluster a) (clusterTile (addrCluster a) 0) (a % 0x1000) v
  | 0 => globalWrite s link a v
  | _ => plainWrite s a v

/-! ### Commands -/

/-- A read from outside: zero where there is no register, and nothing at all while the steward is held in reset. -/
def outsideRead (s : State) (a : Nat) : State :=
  if !s.steward.on || addrCode s a != 0 then { s with rdata := 0 }
  else
    let (s, v) := regRead s 0 a
    { s with rdata := v }

def execRcRegisterRead (a : BitVec 40) (s : State) : Out := .next (outsideRead s a.toNat)
def execSplitValueRead (a : BitVec 40) (s : State) : Out := .next (outsideRead s a.toNat)

/-- A write by a link. Any 40-bit address is taken, also beyond the 32 MiB that BAR2 reaches (DESIGN CHOICE, log entry 147). -/
def execRegisterWrite (link : Fin 2) (a : BitVec 40) (v : Word) (s : State) : Out :=
  if !s.steward.on || addrCode s a.toNat != 0 then .next s else .next (regWrite s link.val a.toNat v)

/-- Registers `i, i + 1, …` of a CSR_READ: the first condition that refuses one, and the words; words from a refused one on
are zero. -/
def readSome (s : State) (link a : Nat) : Nat → State × Nat × List Nat
  | 0 => (s, 0, [])
  | n + 1 =>
    if addrCode s a != 0 then (s, addrCode s a, [])
    else
      let (s, v) := regRead s link a
      let (s, c, l) := readSome s link (a + 8) n
      (s, c, v.toNat :: l)

/-- The link of a mailbox slot. -/
def slotLink (slot : Nat) : Nat := if 16 ≤ slot && slot < 32 then 1 else 0

/-- CSR_READ. The codes of R31 are reported in its response, and nowhere else (DEDUCED, log entry 146). -/
def csrReadBody (slot : Nat) (s : State) : State :=
  let a := arg s slot 0
  if bits a 40 3 == 7 then respond s slot 0x82 []
  else
    let (s, c, l) := readSome s (slotLink slot) (bits a 0 40) (bits a 40 3 + 1)
    respond s slot c l

def execCsrRead (slot : Fin 34) (s : State) : Out := mailbox 0x10 slot.val yes [2 ^ 43 - 1] (csrReadBody slot.val) s

/-- A write under a mask is a read and a write by Jitor (R342). One that resets the steward is itself abandoned. -/
def csrWriteBody (slot : Nat) (s : State) : State :=
  let a := arg s slot 0; let v := arg s slot 1; let m := arg s slot 2; let link := slotLink slot
  if addrCode s a != 0 then respond s slot (addrCode s a) []
  else
    let (s, v) :=
      if m == 0 then (s, BitVec.ofNat 64 v)
      else
        let (s, old) := regRead s link a
        (s, (old &&& ~~~(BitVec.ofNat 64 m)) ||| (BitVec.ofNat 64 v &&& BitVec.ofNat 64 m))
    let s' := regWrite s link a v
    if jitorUp s && !(jitorUp s') then s'
    else
      let (s, back) := regRead s' link a
      respond s slot 0 [back.toNat]

def execCsrWrite (slot : Fin 34) (s : State) : Out :=
  mailbox 0x11 slot.val yes [2 ^ 40 - 1, 2 ^ 64 - 1, 2 ^ 64 - 1] (csrWriteBody slot.val) s

end Sys2Proof.Machine
end

