-- ==== Sys2Proof/Machine/Nvs.lean ====
section
/-! DEFINITION. NVS: settings, calibration, firmware, and the commands about them and about the module (R344, R349 to R360). -/

namespace Sys2Proof.Machine

/-! ### Settings (R350) -/

/-- A setting: its register, the RW fields marked NVS, and their factory values. -/
structure Setting where
  addr : Nat
  mask : Nat
  factory : Nat

def settings : List Setting :=
  [⟨0x30008, 0xFF1CFFF0000000 + 0xFF, 30 * 2 ^ 48 + 1250 * 2 ^ 28 + 88⟩, ⟨0x30010, 0xFFFFFFFF, 20 * 2 ^ 16 + 20⟩, ⟨0x30018, 0x1FF, 0⟩,
    ⟨0x30038, 0xFE00000, 40 * 2 ^ 22 + 2 ^ 21⟩, ⟨0x40008, 0xFFFFFF00FF0000, 50 * 2 ^ 48 + 90 * 2 ^ 40 + 95 * 2 ^ 32 + 120 * 2 ^ 16⟩,
    ⟨0x20008, 0xF0, 0xC0⟩, ⟨0x808008, 0xFFFF000000000000, 0x88B5 * 2 ^ 48⟩] ++
  ((List.range 2).map fun w => ⟨wingBase w + 0x800008, 0x1FFFFFFFF, 2 ^ 32 + 16 * 2 ^ 16 + 10⟩) ++
  ((List.range 2).map fun w => ⟨wingBase w + 0x108, 0x1FFFF, 2 ^ 16 + 100⟩) ++
  ((List.range 32).map fun i => ⟨0x100018 + 0x10000 * i, 0xFFFFFFFF00FF, 1000 * 2 ^ 16 + 24⟩) ++
  ((List.range 32).map fun p => ⟨0x800008 + 0x10000 * p, 0x80000000FFFFFF00, 2 ^ 63 + 50 * 2 ^ 16 + 10 * 2 ^ 8⟩) ++
  (List.range 168).map fun f => ⟨fieldBase f + 0x600, 0xFFFF00FF00FF, 2400 * 2 ^ 32 + 40 * 2 ^ 16 + 32⟩

/-- What a setting's fields hold now. -/
def settingNow (s : State) (t : Setting) : Nat := rd s t.addr &&& t.mask

/-- The settings as a copy holds them. -/
def snapshot (s : State) (seq : Nat) : Copy :=
  { seq, vals := (settings.filter fun t => settingNow s t != t.factory).map fun t => (t.addr, settingNow s t),
    policyN := s.dep.policyN, policyWin := s.dep.policyWin, ethPort := s.steward.ethPort, ethFull := s.steward.ethFull }

/-- A copy's value of a setting. -/
def Copy.val (c : Copy) (t : Setting) : Nat := ((c.vals.find? fun e => e.1 == t.addr).map Prod.snd).getD t.factory

/-- Loads a copy into the live registers: a cold start does so (R350, R352). -/
def loadCopy (s : State) (c : Copy) : State :=
  let s := settings.foldl (fun s t => wr s t.addr ((rd s t.addr - settingNow s t) ||| (c.val t &&& t.mask))) s
  let s := modDep s fun d => { d with policyN := c.policyN, policyWin := c.policyWin }
  modSteward s fun w => { w with ethPort := c.ethPort, ethFull := c.ethFull }

/-- A settings copy as NVS holds it: its header with the CRC-32C, and one entry for every setting (R351). Jitor's own settings are in
it too; the spec gives them no addresses (log entry 142). -/
def Copy.bytes (c : Copy) : List Byte :=
  let own := (List.range 4).map fun i => ((Config.ownSetting i).toNat, [c.policyN, c.policyWin, c.ethPort, c.ethFull].getD i 0)
  let entries := (settings.map fun t => (t.addr, c.val t)) ++ own
  let h := toBytes 2 0x5345 ++ toBytes 2 1 ++ toBytes 4 c.seq ++ toBytes 2 entries.length ++ toBytes 50 0
  let e := entries.flatMap fun e => toBytes 8 e.1 ++ toBytes 8 e.2
  h ++ toBytes 4 (crc32c (h ++ e)) ++ e

/-- The NVS controller has its clock. -/
def nvsOn (s : State) : Bool := isF s 0 F.MGT_CLK_EN_NVS

/-- STORE_SETTINGS (R351, R353). A copy that fails its read-back stays invalid. -/
def storeBody (slot : Nat) (ok : Bool) (s : State) : State :=
  if !(nvsOn s) then respond s slot 0x8A []
  else
    let n := s.steward.nvs
    let seq := (match inForce n with | some (c, _) => c.seq | none => 0) + 1
    let toB := match inForce n with | some (_, b) => !b | none => false
    let c := if bit (arg s slot 0) 0 then { seq } else snapshot s seq
    let v := if ok then some c else none
    let n := { n with stores := n.stores + 1, unfinished := !ok }
    let s := modSteward s fun w => { w with nvs := if toB then { n with b := v } else { n with a := v } }
    let s := if 100000 < n.stores then stewardCondition s 0x86 else s
    if ok then respond s slot 0 [seq, b2n toB, n.stores] else respond s slot 0x80 []

def execStoreSettings (slot : Fin 34) (readBackOk : Bool) (s : State) : Out :=
  mailbox 0x40 slot.val yes [1] (storeBody slot.val readBackOk) s

/-! ### Calibration (R355 to R357) -/

/-- A set as exported: its 64-byte header, with the CRC of the body, and its body. -/
def calFile (seq : Nat) (user : Bool) (body : List Byte) : List Byte :=
  toBytes 2 0x4341 ++ toBytes 2 seq ++ toBytes 1 (b2n user) ++ toBytes 3 0 ++ toBytes 8 Config.serial.toNat ++
    toBytes 4 (crc32c body) ++ toBytes 44 0 ++ body

/-- The body in its full length. -/
def CalSet.padded (c : CalSet) : List Byte := (List.range Config.calLen).map fun i => c.body.getD i 0

/-- The firn, or before it is available the recovery buffer (R360). -/
def shelfBytes (s : State) (a n : Nat) : List Byte :=
  if firnAvailable s then firnBytes s a n else Mem.bytes s.steward.recovery a n
def shelfSize (s : State) : Nat := if firnAvailable s then 2 ^ 41 else 2 ^ 24
def putShelf (s : State) (a : Nat) (bs : List Byte) : State :=
  if firnAvailable s then putFirn s a bs else modSteward s fun w => { w with recovery := Mem.write w.recovery a bs }

def calExportBody (slot : Nat) (s : State) : State :=
  let dest := arg s slot 0; let live := bit (arg s slot 1) 0; let n := s.steward.nvs
  let body := (if live then s.steward.calLive else n.cal).padded
  if !live && !(nvsOn s) then respond s slot 0x8A []
  else if dest % 512 != 0 || decide (shelfSize s < dest + 64 + body.length) then respond s slot 0x01 []
  else
    let s := putShelf s dest (calFile n.calSeq n.user body)
    let s := if live then s else modSteward s fun w => { w with nvs := { w.nvs with exported := true } }
    respond s slot 0 [64 + body.length, crc32c body]

def execCalExport (slot : Fin 34) (s : State) : Out := mailbox 0x42 slot.val yes [2 ^ 64 - 1, 1] (calExportBody slot.val) s

/-- The set found at an address is a whole export. -/
def calValid (s : State) (a : Nat) : Bool :=
  decide (a + 64 + Config.calLen ≤ 2 ^ 41) && firnNum s a 2 == 0x4341 &&
    firnNum s (a + 16) 4 == crc32c (firnBytes s (a + 64) Config.calLen)

/-- CAL_IMPORT (R357). A write that fails its read-back keeps the old set. -/
def calImportBody (slot : Nat) (ok : Bool) (s : State) : State :=
  let src := arg s slot 0; let o := arg s slot 1; let n := s.steward.nvs; let live := bit o 0
  if !(nvsOn s) then respond s slot 0x8A []
  else if bits o 48 16 != 0xCA1B || !ok ||
      (!live && (!(calValid s src) || (firnNum s (src + 8) 8 != Config.serial.toNat && !(bit o 1)))) then respond s slot 0x85 []
  else
    let own := !live && firnNum s (src + 8) 8 == Config.serial.toNat && firnNum s (src + 2) 2 == n.calSeq % 2 ^ 16 &&
      firnNum s (src + 4) 1 == b2n n.user
    let cal := if live then s.steward.calLive else .bytes (firnBytes s (src + 64) Config.calLen)
    let s := modSteward s fun w => { w with nvs := { n with cal, user := true, calSeq := n.calSeq + 1, calWrites := n.calWrites + 1,
                                                            exported := n.exported && own } }
    respond s slot 0 [nvsView s 2]

def execCalImport (slot : Fin 34) (readBackOk : Bool) (s : State) : Out :=
  mailbox 0x43 slot.val yes [2 ^ 64 - 1, 0xFFFF000000000003] (calImportBody slot.val readBackOk) s

/-! ### Firmware (R358, R359) -/

def JitorImg.version : JitorImg → Nat
  | .factory => Config.factoryVersion
  | .bytes l => Config.fwVersion l
def JitorImg.signed : JitorImg → Bool
  | .factory => true
  | .bytes l => Config.signatureOk l
def JitorImg.raises : JitorImg → Bool
  | .factory => Config.factoryRaises
  | .bytes l => Config.fwRaises l

/-- A slot's image verifies. -/
def Nvs.runs (n : Nvs) (i : Option JitorImg) : Bool :=
  match i with
  | some i => i.signed && decide (n.minVersion ≤ i.version)
  | none => false

def imgVersion (i : Option JitorImg) : Nat := match i with | some i => i.version | none => 0

/-- The slot that the boot ROM runs: the valid image with the higher version; true B. -/
def Nvs.pick (n : Nvs) : Option Bool :=
  match n.runs n.jitorA, n.runs n.jitorB with
  | true, true => some (decide (imgVersion n.jitorA < imgVersion n.jitorB))
  | true, false => some false
  | false, true => some true
  | false, false => none

/-- The image that runs raises the OTP minimum to its own version where its header asks for it, at most 64 times. -/
def Nvs.ran (n : Nvs) (i : Option JitorImg) : Nvs :=
  match i with
  | some i => if i.raises && decide (n.minVersion < i.version) && decide (n.raised < 64) then
      { n with minVersion := i.version, raised := n.raised + 1 } else n
  | none => n

/-- The image of the slot that runs. -/
def runningImg (s : State) : Option JitorImg := if s.steward.jitorSlot then s.steward.nvs.jitorB else s.steward.nvs.jitorA

/-- FW_UPDATE writes the slot that is not running (R359). -/
def fwUpdateBody (slot : Nat) (s : State) : State :=
  let a := arg s slot 0; let len := arg s slot 1; let n := s.steward.nvs
  if !(nvsOn s) then respond s slot 0x8A []
  else if decide (2 ^ 23 < len) || decide (shelfSize s < a + len) then respond s slot 0x84 []
  else
    let img := JitorImg.bytes (shelfBytes s a len)
    if !(n.runs (some img)) then respond s slot 0x84 []
    else
      let toB := !s.steward.jitorSlot
      let n := { n with fwWrites := n.fwWrites + 1 }
      let s := modSteward s fun w => { w with nvs := if toB then { n with jitorB := some img } else { n with jitorA := some img } }
      respond s slot 0 [img.version, b2n toB]

def execFwUpdate (slot : Fin 34) (s : State) : Out := mailbox 0x44 slot.val yes [2 ^ 64 - 1, 2 ^ 64 - 1] (fwUpdateBody slot.val) s

/-! ### What waits for NVS (R354) -/

/-- Every 10 s MGT.OPSEC goes to NVS, or is held while the controller is gated, with 0x8A at the first write held. -/
def opsecSave (s : State) : State :=
  if !(jitorUp s) then s
  else
    let s := putF s 0 F.MGT_OPSEC_SECONDS (opsec s + 10)
    if nvsOn s then modSteward s fun w => { w with nvs := { w.nvs with opsec := opsec s }, opsecHeld := none }
    else
      let raised := s.steward.heldRaised
      let s := modSteward s fun w => { w with opsecHeld := some (opsec s), heldRaised := true }
      if raised then s else stewardCondition s 0x8A

def execOpsecSave (s : State) : Out := .next (opsecSave s)

/-- With the enable set again, Jitor writes everything held. -/
def heldFlush (s : State) : State :=
  if !(jitorUp s) || !(nvsOn s) then s
  else modSteward (flushLog s) fun w =>
    { w with nvs := { w.nvs with opsec := w.opsecHeld.getD w.nvs.opsec }, opsecHeld := none, heldRaised := false }

def execNvsHeldFlush (s : State) : Out := .next (heldFlush s)

/-! ### GET_INFO and GET_STATUS (R344) -/

/-- In-row spares, spare rows and degraded fields of the engine, once its map is built. -/
def spareCounts (s : State) : Nat × Nat × Nat :=
  let fs := List.range 168
  if phase s < 6 then (0, 0, 0)
  else ((fs.map fun f => getF s (fieldBase f) F.FLD_SHIFT_ROW_ROW_SPARES).sum,
    (fs.filter fun f => rowHole s f == 24 && decide (ones (colBad s f 24) 25 ≤ 1)).length,
    (fs.filter fun f => isF s (fieldBase f) F.FLD_SHIFT_ROW_DEGRADED).length)

def getInfoBody (slot : Nat) (s : State) : State :=
  let v := (match runningImg s with | some i => if jitorUp s then i.version else 0 | none => 0) % 2 ^ 16
  let c := spareCounts s
  respond s slot 0 [Config.serial.toNat, v + 2 ^ 16 * Config.romVersion.toNat + 2 ^ 32 * Config.moduleRevision.toNat,
    nvsView s 1, nvsView s 2, c.1 % 2 ^ 24 + 2 ^ 24 * (c.2.1 % 2 ^ 8) + 2 ^ 32 * (c.2.2 % 2 ^ 8)]

def execGetInfo (slot : Fin 34) (s : State) : Out := mailbox 1 slot.val yes [] (getInfoBody slot.val) s

def getStatusBody (slot : Nat) (s : State) : State :=
  respond s slot 0 [mirrorWord s 0, mirrorWord s 1, mirrorWord s 2, getF s 0 F.FAB_COMMITTED_ID,
    s.steward.startCode % 2 ^ 8 + 2 ^ 8 * (s.steward.startPhase % 2 ^ 8)]

def execGetStatus (slot : Fin 34) (s : State) : Out := mailbox 2 slot.val yes [] (getStatusBody slot.val) s

/-! ### RESET_ENGINE (R364) -/

def resetEngineBody (slot : Nat) (s : State) : State :=
  if bits (arg s slot 0) 48 16 != 0x5E7E then respond s slot 0x82 []
  else modSteward (respond s slot 0 []) fun w => { w with resetAt := some s.tc }

def execResetEngine (slot : Fin 34) (s : State) : Out := mailbox 0xF0 slot.val yes [0xFFFF000000000000] (resetEngineBody slot.val) s

end Sys2Proof.Machine
end

