-- ==== Sys2Proof/Machine/Boot.lean ====
section
/-! DEFINITION. Resets, the cold start, the steward's resets and its return, 12 V, self-tests (R338, R345, R346, R358, R362 to R365,
R392 to R394). -/

namespace Sys2Proof.Machine

/-! ### Resets (Table 14.7) -/

/-- Everything is reset but NVS, OTP, the recovery buffer, what the supplies and the inputs are, and the model's own records of
what was sent. `cause` is what MGT.RESET.CAUSE will show. -/
def resetAll (s : State) (cause : Nat) : State :=
  let w := s.steward
  let steward : Steward :=
    { nvs := w.nvs, aux := w.aux, mainOk := w.mainOk, recovery := w.recovery, resetLow := w.resetLow, cause := cause,
      stopCode := w.stopCode, stopRecord := w.stopRecord }
  let n : State :=
    { pending := s.pending, tc := s.tc, free := s.free, rdata := s.rdata, bus := s.bus, evc := { msix := s.evc.msix },
      power := { scrubFrom := s.tc }, dom := { out := s.dom.out }, i3c := { ibi := s.i3c.ibi }, dep := { log := s.dep.nvs, nvs := s.dep.nvs }, jtag := s.jtag,
      steward := steward }
  let n := putF n 0 F.MGT_RESET_COUNT (satAdd 255 (getF s 0 F.MGT_RESET_COUNT) 1)
  let n := if isF s 0 F.PWR_DIN_CUR_RAW then curtail n true else n
  if isF s 0 F.PWR_DIN_FRZ_RAW then freezeN n true else n

/-- ENGINE_RESET_N has been low for 10 us: everything is reset, and nothing runs until it rises. -/
def engineReset (s : State) : State :=
  let s := if s.steward.aux then resetAll s 1 else s
  modSteward s fun w => { w with resetLow := true, on := false }

def execEngineReset (s : State) : Out := .next (engineReset s)

/-- 12 V is applied: everything is reset, the recovery buffer cleared, the count of steward resets at zero. -/
def auxOn (s : State) : State :=
  if s.steward.aux then s
  else
    let s := resetAll s 0
    modSteward (putF s 0 F.MGT_RESET_COUNT 0) fun w => { w with aux := true, recovery := [], on := !w.resetLow }

def execAuxPowerOn (s : State) : Out := .next (auxOn s)

/-- 12 V is removed: the steward stops; what it held of the log since the last append is lost (R241). -/
def auxOff (s : State) : State :=
  let s := modSteward s fun w => { w with aux := false, on := false, queue := [], busy := [], waits := [], abandoned := [], opsecHeld := none,
                                          starting := false, resetAt := none }
  putF (modDep s fun d => { d with log := d.nvs }) 0 F.MBX_MIRROR_JITOR_UP 0

def execAuxPowerLoss (s : State) : Out := .next (auxOff s)

/-! ### The cold start (Table 14.6) -/

def putStart (s : State) (p : Nat) : State :=
  modSteward (putF s 0 F.MBX_MIRROR_PHASE p) fun w => { w with late := false }

/-- The start stops in phase `p`: STATE 7, 0x88 (R363). -/
def startFails (s : State) (p : Nat) : State :=
  modSteward (stewardCondition s 0x88) fun w => { w with failed := true, starting := false, startCode := 0x88, startPhase := p }

/-- Jitor starts from the slot that the boot ROM picks (R358); with none valid only the boot ROM answers. -/
def jitorStart (s : State) : Option State :=
  match s.steward.nvs.pick with
  | none => none
  | some b =>
    let s := modSteward s fun w => { w with jitorSlot := b, romOnly := false }
    some (setF (modSteward s fun w => { w with nvs := w.nvs.ran (runningImg s) }) 0 F.MBX_MIRROR_JITOR_UP)

/-- The settings of the copy in force, and the calibration set, become live (R352, R355). With no valid copy, or one left
unfinished, the code of the start is 0x80; after a stop it is 0x65 (R316). -/
def loadNvs (s : State) : State :=
  let n := s.steward.nvs
  let c := match inForce n with | some (c, _) => c | none => {}
  let code := if (inForce n).isNone || n.unfinished then 0x80 else 0
  let stop := s.steward.stopCode
  let s := if stop == 0 then s else condition s 288 stop
  modSteward (loadCopy s c) fun w => { w with calLive := n.cal, startCode := if stop == 0 then code else stop,
                                              startPhase := if stop == 0 && code != 0 then 1 else 0, stopCode := 0 }

/-- The log and the operating seconds are taken up from NVS. -/
def loadLog (s : State) : State := putF (modDep s fun d => { d with log := d.nvs }) 0 F.MGT_OPSEC_SECONDS s.steward.nvs.opsec

/-- Every field is powered and its tiles are in SELFTEST; the wing PLLs lock; the tile clock goes to its target. -/
def fieldsOn (s : State) : State :=
  let s := { s with lifeT := [], lifeF := (List.range 168).map fun f => (f, { st := .selftest }) }
  let s := (List.range 168).foldl (fun s f => modField s f fun v => { v with tested := false, testFailed := [] }) s
  askFreq (holdover (holdover s 0 false) 1 false) (getF s 0 F.PWR_CAP_FREQ)

/-- Physical clusters of a row that are bad: by the factory map and the log, and by the self-test. -/
def badRow (s : State) (f p : Nat) : Nat :=
  ((List.range 25).map fun x => b2n ((morEnt s (morIndex f x p)).state != 0 || (field s f).testFailed.contains (25 * p + x)) * 2 ^ x).sum

/-- The row among 0..23 with the most bad clusters, if two or more: the lowest of equals (R23). -/
def worstRow (s : State) (f : Nat) : Option Nat :=
  let n (p : Nat) : Nat := ones (badRow s f p) 25
  let w := (List.range 24).foldl (fun m p => if n m < n p then p else m) 0
  if 2 ≤ n w then some w else none

/-- A self-test's failed clusters are logged P (R394). -/
def logFailed (s : State) (f : Nat) (l : List Nat) : State :=
  l.foldl (fun s i => morRecord s f (i % 25) (i / 25) 0x22 2 0x50 0) s

/-- The tables of a field as a row hole and the bad clusters have them. -/
def buildTables (s : State) (f hole : Nat) : State :=
  let b := fieldBase f
  let s := (List.range 25).foldl (fun s p =>
    let m := badRow s f p
    wr s (b + F.FLD_SHIFT_COL_HOLE.off + 8 * p) (m * 2 ^ 32 + b2n (p != hole) * 2 ^ 8 + lowest m)) s
  let s := putF s b F.FLD_SHIFT_ROW_HOLE hole
  let n := (s.dep.log.summary.filter fun e => e.1 / 625 == f && e.2.state == 2).length
  tableSums (putF s b F.FLD_CALVE_STAT_CALVED n) f

/-- Clusters that the map cannot back: 0x27, and the field is degraded (R363). -/
def reportUnbacked (s : State) (f : Nat) : State :=
  (fieldClusters f).foldl (fun s c =>
    if backed s c then s
    else
      let p := physOf s c
      hubReport s f 0x27 (p.1 + 32 * p.2 + 1024 * 2 + 4096 * colHole s f p.2)) s

/-- A field's map (R23). Row 24 is self-tested where the row hole would move. -/
def buildMap (s : State) (f : Nat) (row24 : List Nat) : State :=
  let s :=
    match worstRow s f with
    | none => buildTables s f 24
    | some w =>
      if 1 < ones (badRow s f 24) 25 then buildTables s f 24
      else
        let failed := row24.map fun x => 600 + x
        let s := logFailed (modField s f fun v => { v with testFailed := v.testFailed ++ failed }) f failed
        buildTables s f (if 1 < ones (badRow s f 24) 25 then 24 else w)
  reportUnbacked s f

/-- A physical row in use with three or more bad clusters; by R23 the field then holds no spare row. -/
def hopeless (s : State) (f : Nat) : Bool := (List.range 25).any fun p => inUse s f p && decide (3 ≤ ones (colBad s f p) 25)

/-- The map build: tables, scratch zero, tiles in INSTAR. Buddies come with eclosion (R163). -/
def mapBuild (s : State) (r : PhaseReport) : State :=
  let s := (List.range 168).foldl (fun s f => buildMap s f ((r.row24.filter fun e => e.1.val == f).map fun e => e.2.val)) s
  { s with scratch := [], badPar := [], poisonRow := [], lifeT := [], lifeF := (List.range 168).map fun f => (f, { st := .instar }) }

/-- Hinge training has ended: a lane still untrained is FAILED (R185). -/
def hingeEnd (s : State) (w : Nat) : State :=
  let s := (List.range 1386).foldl (fun s l => if laneState s w l ≤ 1 then laneFail (setF s (wingBase w) F.HNG_ERR_TRAIN_FAIL) w l else s) s
  setF s (wingBase w) F.HNG_STATUS_TRAINED

/-- The firn is trained, repaired and zero; a stack that fails stays FAILED with 0xF3 (R256). -/
def firnReady (s : State) (r : PhaseReport) : State :=
  let s := { s with firn := [], firnPoison := [] }
  let s := s.steward.nvs.firnRepairs.foldl (fun s e => putF s (frnBase e.1) F.FRN_STATUS_PPR_USED (min 255 e.2)) s
  (List.range 32).foldl (fun s st =>
    if r.failedStacks.getLsbD st then frnCondition (putF s (frnBase st) F.FRN_STATUS_STATE 3) st 0xF3
    else putF s (frnBase st) F.FRN_STATUS_STATE 2) s

/-- Ports that are enabled train; the others stay dark (R273). -/
def portsStart (s : State) : State :=
  (List.range 32).foldl (fun s p => if isF s (fab p) F.FAB_CFG_EN then portTrain (setPort s p 4) p else setPort s p 4) s

/-- The end of the phase that a start is in. -/
def phaseEnd (s : State) (r : PhaseReport) : State :=
  if !s.steward.starting then s
  else match phase s with
    | 0 =>
      match jitorStart s with
      | some s => putStart s 1
      | none => modSteward (startFails s 0) fun w => { w with romOnly := true }
    | 1 => putStart (loadNvs (loadLog s)) 2
    | 2 => if s.steward.mainOk then putStart (setF (putPowerState s 1) 0 F.PWR_HOLD_CHARGING) 3 else s
    | 3 => putStart (fieldsOn s) 4
    | 4 => if (List.range 168).all fun f => (field s f).tested then putStart s 5 else s
    | 5 =>
      let s := mapBuild s r
      if (List.range 168).any (hopeless s) then startFails s 5 else putStart s 6
    | 6 =>
      let s := hingeEnd (hingeEnd s 0) 1
      putStart ((List.range 32).foldl (fun s st => putF s (frnBase st) F.FRN_STATUS_STATE 1) s) 7
    | 7 => putStart (firnReady s r) 8
    | 8 => joinReady (modSteward (putStart (portsStart s) 15) fun w => { w with starting := false })
    | _ => s

def execColdStartPhaseEnd (r : PhaseReport) (s : State) : Out := .next (noteState s (phaseEnd s r))

/-- The latest end of each phase, s from the start. -/
def latestEnd (p : Nat) : Nat := [3, 5, 9, 14, 54, 68, 69, 74, 75].getD p 75

/-- A phase lasts longer than its latest end: 0x88 once, and it carries on. One that cannot complete stops the start (R363). A
start from phase 2 has no phases 0 and 1 before it. -/
def phaseLate (s : State) (canComplete : Bool) : State :=
  let w := s.steward; let p := phase s
  if !w.starting then s
  else if !canComplete then startFails s p
  else
    let limit := latestEnd p - (if w.startFrom == 2 then 5 else 0)
    if w.late || s.tc < w.startAt + usTc s (1000000 * limit) then s
    else modSteward (stewardCondition s 0x88) fun w => { w with late := true, startCode := 0x88, startPhase := p }

def execPhaseLate (canComplete : Bool) (s : State) : Out := .next (noteState s (phaseLate s canComplete))

/-- The start begins from phase 0, the steward having left its reset. -/
def beginStart (s : State) : State :=
  modSteward (putF (putStart s 0) 0 F.MGT_RESET_CAUSE s.steward.cause) fun w =>
    { w with on := true, starting := true, startAt := s.tc, startFrom := 0, startCode := 0, startPhase := 0 }

/-- After an input stop the start begins from phase 2, its settings loaded anew. -/
def resumeStart (s : State) : State :=
  let s := putStart (loadNvs s) 2
  modSteward s fun w => { w with stopped := false, starting := true, startAt := s.tc, startFrom := 2 }

/-- ENGINE_RESET_N is high again; the TAP's drive of the pins ends (R390). -/
def resetRises (s : State) : State :=
  if s.steward.resetLow then
    { modSteward s fun w => { w with resetLow := false, on := w.aux } with jtag := { s.jtag with drive := .none } }
  else s

/-- 10 ms after its response RESET_ENGINE resets (Table 14.7). -/
def resetDue (s : State) : State :=
  match s.steward.resetAt with
  | some t => if t + usTc s 10000 ≤ s.tc then resetAll s 2 else s
  | none => s

/-- 12 V, release of the reset and the main input are all present, or have been for as long as a restart asks. -/
def coldStart (s : State) : State :=
  if !s.steward.aux then s
  else
    let s := resetDue (resetRises s)
    let w := s.steward
    if !w.on || !w.mainOk || w.starting || w.failed then s
    else if w.stopped then (if w.tripped then s else resumeStart s)
    else if phase s == 0 && !(jitorUp s) then beginStart s else s

def execColdStart (s : State) : Out := .next (noteState s (coldStart s))

/-! ### Self-test (R392 to R394) -/

/-- A field's self-test in a cold start ends: rows 0 to 23 are powered. -/
def selftestDone (s : State) (f : Nat) (failed : List Nat) (ms : Nat) : State :=
  if (look {} s.lifeF f).st != .selftest || (field s f).tested then s
  else
    let b := fieldBase f; let l := failed.filter fun i => decide (i < 600)
    let s := putF (putF (putF s b F.FLD_ST_STAT_DURATION ms) b F.FLD_ST_STAT_FAILED l.length) b F.FLD_ST_STAT_PASSED (600 - l.length)
    let s := modField (incF s b F.FLD_ST_STAT_RUNS 1) f fun v => { v with tested := true, testFailed := l }
    logFailed s f l

def execSelftestDone (f : FieldId) (failed : List PhysId) (ms : BitVec 16) (s : State) : Out :=
  .next (selftestDone s f.val (failed.map fun p => 25 * p.pcy.val + p.pcx.val) ms.toNat)

/-! ### Resets of the steward alone (R364, R365) -/

def execStewardReset (s : State) : Out := .next (stewardReset s 3)
def execWatchdogExpiry (s : State) : Out := .next (stewardReset s 4)

/-- An abandoned command completes with 0x87. -/
def abandon (s : State) (slot : Nat) : State := incF (respond s slot 0x87 []) 0 F.MBX_STAT_ABANDONED 1

/-- What Jitor does on its return: the abandoned slots, vector 33, the EVC's cores, what waited for it. -/
def jitorBack (s : State) : State :=
  let s := putF (putF s 0 F.MBX_MIRROR_STEWARD_RESET 0) 0 F.MGT_RESET_CAUSE s.steward.cause
  let s := modSteward (s.steward.abandoned.foldl abandon s) fun w => { w with abandoned := [] }
  let s := msix (msix s 0 33) 1 33
  let s := if s.steward.cause == 4 then stewardCondition s 0x89 else s
  let s := (List.range 4).foldl flush s
  let s := morCatchUp s
  calveBegin { putF s 0 F.THM_DEMAND_HELD 0 with thermal := { s.thermal with heldAt := none } }

/-- Jitor returns from a steward reset, from the slot that the boot ROM picks; a module that had none valid then goes on with
its cold start (R360). -/
def jitorReturn (s : State) : State :=
  if !(isF s 0 F.MBX_MIRROR_STEWARD_RESET) || !s.steward.on then s
  else match jitorStart s with
    | none => modSteward s fun w => { w with failed := true, romOnly := true }
    | some s' =>
      let s' := if s.steward.romOnly && phase s == 0 then putStart (modSteward s' fun w => { w with failed := false, starting := true, startCode := 0, startPhase := 0 }) 1 else s'
      jitorBack s'

def execJitorReturn (s : State) : Out := .next (noteState s (jitorReturn s))

/-- Jitor's sign of life (R346). -/
def execHeartIncrement (s : State) : Out := .next (if jitorUp s then wrapF s 0 F.MBX_MIRROR_HEART 1 else s)

/-! ### PCIe (Table 14.7) -/

/-- A link's reset: its function's MSI-X state goes; commands that run complete without notification. -/
def pcieReset (s : State) (link : Nat) : State :=
  let s := modSteward s fun w =>
    { w with msixTab := Sparse.drop (fun i => i / 4096 == link) w.msixTab,
             quiet := (w.quiet.filter fun x => x / 16 != link) ++ (w.queue.filter fun x => x / 16 == link) }
  pulse s (387 + link)

def execPcieReset (link : Fin 2) (s : State) : Out := .next (pcieReset s link.val)

end Sys2Proof.Machine
end

