-- ==== Sys2Proof/Machine/Branch.lean ====
section
/-! DEFINITION. Branches and loops, class 0x2 (R46, R47), fences (R42, R56) and beat control (R57). -/

namespace Sys2Proof.Machine

/-- A conditional branch on A (R46); a poisoned condition raises 0x11 (R38). -/
def branchIf (op : TOp) (c : Word → Bool) (t : TileId) (n : Fin 8) (s : State) : Out :=
  issue op t n (fun s i =>
    let k := tileNo t
    (usePoison s k n [i.a.toNat], if c (getG s k n i.a.toNat) then .jump (i.fld 0 9) else .next)) s

def execBr (t : TileId) (n : Fin 8) (s : State) : Out := issue .br t n (fun s i => (s, .jump (i.fld 0 9))) s
def execBeqz (t : TileId) (n : Fin 8) (s : State) : Out := branchIf .beqz (fun a => a == 0) t n s
def execBnez (t : TileId) (n : Fin 8) (s : State) : Out := branchIf .bnez (fun a => a != 0) t n s
def execBltz (t : TileId) (n : Fin 8) (s : State) : Out := branchIf .bltz (fun a => a.msb) t n s
def execBgez (t : TileId) (n : Fin 8) (s : State) : Out := branchIf .bgez (fun a => !a.msb) t n s

/-- CALL writes PC + 1 into g15, then branches (R37, R46). -/
def execCall (t : TileId) (n : Fin 8) (s : State) : Out :=
  issue .call t n (fun s i =>
    let k := tileNo t
    (setG s k n 15 (BitVec.ofNat 64 ((pcOf s k n + 1) % 512)) false, .jump (i.fld 0 9))) s

def execJr (t : TileId) (n : Fin 8) (s : State) : Out :=
  issue .jr t n (fun s i =>
    let k := tileNo t
    (usePoison s k n [i.a.toNat], .jump ((getG s k n i.a.toNat).toNat % 512))) s

/-- LOOP (R47): a fifth nested one faults with 0x94; a count of 0 skips the body as a taken branch. -/
def execLoop (t : TileId) (n : Fin 8) (s : State) : Out :=
  issue .loop t n (fun s i =>
    let k := tileNo t
    let fin := i.fld 0 9
    let count := if i.flag 41 then i.fld 16 16 else (getG s k n i.a.toNat).toNat % 65536
    let s := if i.flag 41 then s else usePoison s k n [i.a.toNat]
    if 4 ≤ (ctxOf s k n).loops.length then
      (setF (ctxFault s k n 0x94) (tileBase k) F.TSQ_ERR_LOOP_OVF, .fault)
    else if count == 0 then (s, .jump ((fin + 1) % 512))
    else (s, .push { start := (pcOf s k n + 1) % 512, fin, count })) s

def execStop (t : TileId) (n : Fin 8) (s : State) : Out := issue .stop t n (fun s _ => (s, .leave 0)) s
def execNop (t : TileId) (n : Fin 8) (s : State) : Out := issue .nop t n (fun s _ => (s, .next)) s

/-- IFENCE waits for every instruction-buffer store issued before it, then empties the prefetch buffer; the context issues no
earlier than 3 tc after it (R42). -/
def execIfence (t : TileId) (n : Fin 8) (s : State) : Out :=
  issue .ifence t n (fun s _ =>
    let k := tileNo t
    let l := (tile s k).stores
    if l.isEmpty then (s, .jump (succPc (pcOf s k n) (ctxOf s k n).loops).1)
    else (modCtx s k n fun c => { c with hold := .ifence l, resume := max c.resume (s.tc + 3) }, .next)) s

/-- RFENCE waits for the context's row moves and SENDROW reads (R56). -/
def execRfence (t : TileId) (n : Fin 8) (s : State) : Out :=
  issue .rfence t n (fun s _ =>
    let k := tileNo t
    if (ctxOf s k n).rowsOut == 0 then (s, .next)
    else (modCtx s k n fun c => { c with hold := .rfence }, .next)) s

/-- BEATEND: the context is done for the beat of its parity (R57). -/
def execBeatend (t : TileId) (n : Fin 8) (s : State) : Out :=
  issue .beatend t n (fun s _ =>
    let k := tileNo t
    let e := 8 * bpOf s k n + n
    (phaseUpdate (modTile s k fun x => { x with ended := put false x.ended e true }) k, .leave 2)) s

/-- YIELD waits until every other context that is ready now has issued once, at most 8 tc (R57). -/
def execYield (t : TileId) (n : Fin 8) (s : State) : Out :=
  issue .yield t n (fun s _ =>
    let k := tileNo t
    let others := (List.range 8).filter fun j => j != n.val && ready s k j
    (if others.isEmpty then s else modCtx s k n fun c => { c with hold := .yield others (s.tc + 8) }, .next)) s

end Sys2Proof.Machine
end

