-- ==== Sys2Proof/Machine/Counter.lean ====
section
/-! DEFINITION. Counter control, class 0x3 (R48), and the counters' own step (R58 to R60). -/

namespace Sys2Proof.Machine

def ctrF (f : Fld) (c : Nat) : Fld := f.at (8 * c)

def execArm (t : TileId) (n : Fin 8) (s : State) : Out :=
  issue .arm t n (fun s i =>
    let b := tileBase (tileNo t); let c := i.fld 32 4
    let s := putF s b (ctrF F.TSQ_CTR_THRESH c) (i.fld 0 16)
    let s := putF s b (ctrF F.TSQ_CTR_CTX c) (i.fld 16 3)
    (putF s b (ctrF F.TSQ_CTR_ARMED c) 1, .next)) s

def execDisarm (t : TileId) (n : Fin 8) (s : State) : Out :=
  issue .disarm t n (fun s i => (putF s (tileBase (tileNo t)) (ctrF F.TSQ_CTR_ARMED (i.fld 32 4)) 0, .next)) s

/-- WAIT subtracts its amount when the count covers it; else the context blocks under WHY 3 until a COUNTER_EVENT
satisfies it (R48, R58). -/
def execWait (t : TileId) (n : Fin 8) (s : State) : Out :=
  issue .wait t n (fun s i =>
    let k := tileNo t; let b := tileBase k; let c := i.fld 32 4; let v := i.fld 0 16
    let count := getF s b (ctrF F.TSQ_CTR_COUNT c)
    if v ≤ count then (putF s b (ctrF F.TSQ_CTR_COUNT c) (count - v), .next)
    else (modCtx s k n fun x => { x with hold := .wait c v }, .next)) s

def execSignal (t : TileId) (n : Fin 8) (s : State) : Out :=
  issue .signal t n (fun s i => (event s (tileNo t) (i.fld 32 4) (i.fld 0 16), .next)) s

def execCtrrd (t : TileId) (n : Fin 8) (s : State) : Out :=
  issue .ctrrd t n (fun s i =>
    let k := tileNo t
    (setG s k n i.d.toNat (BitVec.ofNat 64 (getF s (tileBase k) (ctrF F.TSQ_CTR_COUNT (i.fld 32 4)))) false, .next)) s

/-- The level a level source samples (Table 02.8); none for the event sources and none. -/
def levelSample (s : State) (k c : Nat) : Option Bool :=
  let b := tileBase k
  let sel := getF s b (ctrF F.TSQ_CTR_SRC_SEL c)
  match getF s b (ctrF F.TSQ_CTR_SRC_SRC c) with
  | 3 => some (decide (getF s b (ctrF F.TSQ_CTR_SRC_LEVEL c) ≤ qLevel s k sel))
  | 4 => some (phaseOf s k == 1 && (tile s k).openNo.isSome)
  | 5 => some (bit (getF s (fieldBase (tileField k)) F.RIM_FLAGS_FLAG) sel)
  | _ => none

/-- The edge detector: the edges it counts, and PREV stored (R60). -/
def edge (s : State) (k c : Nat) : State × Nat :=
  match levelSample s k c with
  | none => (s, 0)
  | some v =>
    let b := tileBase k
    let prev := isF s b (ctrF F.TSQ_CTR_SRC_PREV c)
    let mode := getF s b (ctrF F.TSQ_CTR_SRC_MODE c)
    let e := if look false (tile s k).rearm c then 0
      else if mode == 1 then b2n (!prev && v) else if mode == 2 then b2n (prev && !v) else 0
    let s := if look false (tile s k).rearm c then modTile s k fun t => { t with rearm := put false t.rearm c false } else s
    (putF s b (ctrF F.TSQ_CTR_SRC_PREV c) (b2n v), e)

/-- Adds events to a count; above 0xFFFF it saturates, and the first saturation reports 0x91 (R59). -/
def addCount (s : State) (k c e : Nat) : State :=
  let b := tileBase k
  let v := getF s b (ctrF F.TSQ_CTR_COUNT c) + e
  if v ≤ 0xFFFF then putF s b (ctrF F.TSQ_CTR_COUNT c) v
  else
    let was := isF s b (ctrF F.TSQ_CTR_OVF c)
    let s := setF (putF s b (ctrF F.TSQ_CTR_COUNT c) 0xFFFF) b (ctrF F.TSQ_CTR_OVF c)
    if was then s else setF (report s k 0x91 0 c) b F.TSQ_ERR_CTR_OVF

/-- Satisfies blocked WAITs on counter `c` in issue order, stopping at the first whose amount exceeds the count (R58). -/
def satisfy (s : State) (k c : Nat) : List Nat → State
  | [] => s
  | n :: r =>
    match (ctxOf s k n).hold with
    | .wait c' v =>
      if c' == c then
        let count := getF s (tileBase k) (ctrF F.TSQ_CTR_COUNT c)
        if v ≤ count then
          satisfy (modCtx (putF s (tileBase k) (ctrF F.TSQ_CTR_COUNT c) (count - v)) k n
            fun x => x.release s.tc) k c r
        else s
      else satisfy s k c r
    | _ => satisfy s k c r

/-- The armed context starts when the count reaches the threshold (R58). -/
def armStart (s : State) (k c : Nat) : State :=
  let b := tileBase k
  let n := getF s b (ctrF F.TSQ_CTR_CTX c)
  let th := getF s b (ctrF F.TSQ_CTR_THRESH c)
  let count := getF s b (ctrF F.TSQ_CTR_COUNT c)
  if isF s b (ctrF F.TSQ_CTR_ARMED c) && decide (th ≤ count) && (ctxState s k n == 0 || ctxState s k n == 2) then
    startCtx (putF s b (ctrF F.TSQ_CTR_COUNT c) (count - th)) k n (parity s k)
  else s

/-- One tc of counter `c`: arrived events, blocked WAITs, the arm (R58). Nothing counts in a tile held at reset values
(Table 08.7); WAITs and arms act in LIVE. -/
def execCounterEvent (t : TileId) (c : Fin 16) (s : State) : Out :=
  let k := tileNo t
  let l := life s k
  if (l != .live && l != .frozen) || !(clockOn s k) then .next s
  else
    let (s, e) := edge s k c
    let s1 := addCount s k c (look 0 (tile s k).arrivals c + e)
    let s2 := modTile s1 k fun t => { t with arrivals := put 0 t.arrivals c 0 }
    if l == .live then
      .next (armStart (satisfy s2 k c ((List.range 8).map fun j => ((tile s2 k).p + j) % 8)) k c)
    else .next s2

end Sys2Proof.Machine
end

