-- ==== Sys2Proof/Machine/CsrInsn.lean ====
section
/-! DEFINITION. CSR instructions, class 0x9, and their arrival at the register (R55, R32). -/

namespace Sys2Proof.Machine

/-- A CSR instruction is on its way to its register: 2 tc to a tile block, 8 to CLU (R55). -/
def sendCsr (s : State) (k : Nat) (a : CsrAcc) : State :=
  modTile s k fun t => { t with acc := t.acc ++ [{ a with due := s.tc + (if bit a.addr 14 then 8 else 2) }] }

/-- The access writes the instruction buffer, or may start a fill of it: an IFENCE waits for it (R42). -/
def touchesIb (addr : Nat) : Bool := addr == 0x28 || addr == 0x38

def execCsrr (t : TileId) (n : Fin 8) (s : State) : Out :=
  issue .csrr t n (fun s i =>
    let k := tileNo t
    let (s, id) := freshId s k 1
    let s := sendCsr s k { n, write := false, addr := i.fld 0 15, v := 0, d := i.d.toNat, id }
    (modCtx s k n fun c => { c with hold := .csr }, .next)) s

/-- CSRW of B. A store to IB_DATA keeps the context from fetching on until it is made (R41). -/
def execCsrw (t : TileId) (n : Fin 8) (s : State) : Out :=
  issue .csrw t n (fun s i =>
    let k := tileNo t; let addr := i.fld 0 15
    let v := getG s k n i.b.toNat
    let (s, id) := freshId (usePoison s k n [i.b.toNat]) k 1
    let s := sendCsr s k { n, write := true, addr, v, d := 0, id }
    let s := if touchesIb addr then modTile s k fun x => { x with stores := x.stores ++ [id] } else s
    (s, if addr == 0x38 then .store id else .next)) s

/-- The write of a CSRW: an instruction-buffer store is made, or its fill goes on under the same number. -/
def landWrite (s : State) (k : Nat) (a : CsrAcc) : State :=
  let s1 := localWrite s k a.addr a.v
  if a.addr == 0x38 then
    ibStoreDone (modCtx s1 k a.n fun c => { c with ibStores := c.ibStores.filter fun e => e.1 != a.id }) k a.id
  else if a.addr == 0x28 then
    if (tile s1 k).fillId != (tile s k).fillId && isF s1 (tileBase k) F.TSQ_IFILL_BUSY then
      modTile s1 k fun x => { x with stores := x.stores.filter fun j => j != x.fillId, fillId := a.id }
    else ibStoreDone s1 k a.id
  else s1

/-- A tile of a higher T has reached this CLU register in this tc: tiles reach it in ascending T (R145). -/
def laterTile (s : State) (k addr : Nat) : Bool :=
  bit addr 14 && (List.range 16).any fun t => decide (tileT k < t) && reachedNow s (clusterTile (tileCluster k) t) addr

/-- The oldest CSR instruction bound for a tile block, or for CLU, reaches its register in its tc: it writes it, or samples it
into D and frees its context (R55). What it reached in this tc is kept for the order of R32. -/
def execCsrAccessLand (t : TileId) (clu : Bool) (s : State) : Out :=
  let k := tileNo t
  match (tile s k).acc.find? fun a => bit a.addr 14 == clu with
  | none => .next s
  | some a =>
    if !(clockOn s k) then .next s
    else
      let s := waitTc s a.due
      let s := if laterTile s k a.addr then waitTc s (s.tc + 1) else s
      let s := noteReached (modTile s k fun x => { x with acc := x.acc.filter fun y => y.id != a.id }) k a.addr
      if a.write then .next (landWrite s k a)
      else
        let (s, v) := localRead s k a.addr
        .next (modCtx (setG s k a.n a.d v false) k a.n fun c => c.release s.tc)

end Sys2Proof.Machine
end

