-- ==== Sys2Proof/Machine/I3c.lean ====
section
/-! DEFINITION. The I3C target (R347). Reads leave their bytes in `bus`. A gated target answers zeros (R336); without 12 V, or with
ENGINE_RESET_N low, nothing answers. -/

namespace Sys2Proof.Machine

def modI3c (s : State) (f : I3c → I3c) : State := { s with i3c := f s.i3c }
def i3cOn (s : State) : Bool := isF s 0 F.MGT_CLK_EN_I3C

/-- A transfer that the target answers with `out`; while it is gated, with as many zeros and no effect. -/
def i3cAnswer (s : State) (out : List Byte) (body : State → State) : State :=
  if !s.steward.on then { s with bus := [] }
  else if !(i3cOn s) then { s with bus := List.replicate out.length 0 }
  else { body s with bus := out }

/-- A directed code or a private write also pulses source 386 (Table 15.1). -/
def directed (s : State) : State := pulse s 386

def pidBytes : List Byte := (toBytes 6 Config.i3cPid.toNat).reverse

/-- Dynamic address assignment: the target takes part while it has none. -/
def execEntdaa (addr : BitVec 7) (s : State) : Out :=
  if s.i3c.addr.isSome then .next s
  else .next (i3cAnswer s (pidBytes ++ [Config.i3cBcr, Config.i3cDcr]) fun s => modI3c s fun t => { t with addr := some addr.toNat })

/-- Assignment from the static address 0x3A, which answers while there is no dynamic one. -/
def execSetdasa (addr : BitVec 7) (s : State) : Out :=
  if s.i3c.addr.isSome then .next s
  else .next (i3cAnswer s [] fun s => directed (modI3c s fun t => { t with addr := some addr.toNat }))

def execRstdaa (s : State) : Out := .next (i3cAnswer s [] fun s => modI3c s fun t => { t with addr := none })
def execGetpid (s : State) : Out := .next (i3cAnswer s pidBytes directed)
def execGetbcr (s : State) : Out := .next (i3cAnswer s [Config.i3cBcr] directed)
def execGetdcr (s : State) : Out := .next (i3cAnswer s [Config.i3cDcr] directed)

/-- The status word, which the spec does not give. -/
def execGetstatus (s : State) : Out :=
  let (s, n) := nextFree s
  .next (i3cAnswer s (toBytes 2 (Config.freeWord n).toNat) directed)

def execEnec (events : Byte) (s : State) : Out :=
  .next (i3cAnswer s [] fun s => directed (modI3c s fun t => { t with events := t.events ||| events.toNat }))

def execDisec (events : Byte) (s : State) : Out :=
  .next (i3cAnswer s [] fun s => directed (modI3c s fun t => { t with events := t.events &&& (255 - events.toNat) }))

def execGetmxds (s : State) : Out := .next (i3cAnswer s Config.i3cMxds directed)

/-- One byte, 0..23, sets the read pointer; any other is ignored. -/
def execI3cPrivateWrite (b : Byte) (s : State) : Out :=
  .next (i3cAnswer s [] fun s => directed (if b.toNat < 24 then modI3c s fun t => { t with ptr := b.toNat } else s))

/-- Byte `i` of the mirror. -/
def mirrorByte (s : State) (i : Nat) : Byte := BitVec.ofNat 8 (mirrorWord s (i / 8) / 2 ^ (8 * (i % 8)))

/-- Bytes of the mirror from the pointer on, of one instant. -/
def execI3cPrivateRead (len : Fin 25) (s : State) : Out :=
  .next (i3cAnswer s ((List.range len.val).map fun j => mirrorByte s ((s.i3c.ptr + j) % 24)) id)

end Sys2Proof.Machine
end

