-- ==== Sys2Proof/Machine/Jtag.lean ====
section
/-! DEFINITION. The output signals (R384) and the TAP (R388 to R390). -/

namespace Sys2Proof.Machine

/-! ### Output signals (Table 16.5) -/

/-- The discrete outputs and the optics. Of a driven output its level, or COOL_DEMAND's duty in percent; none while not driven. -/
structure Outputs where
  presentLow : Bool
  live : Option Bool
  alertLow : Bool
  cool : Option Nat
  clkmon : Bool
  optics : Bool
  deriving DecidableEq, Repr

/-- What the outputs present by the state of the engine. -/
def signals (s : State) : Outputs :=
  let w := s.steward
  if !w.aux then { presentLow := false, live := none, alertLow := false, cool := none, clkmon := false, optics := false }
  else if w.resetLow then { presentLow := false, live := some false, alertLow := false, cool := some 100, clkmon := false, optics := false }
  else
    let full := engineReady s && outputsHeld s
    { presentLow := true
      live := some (!(outputsHeld s))
      alertLow := s.thermal.alert && !full && (phase s != 0 || w.stopped)
      cool := some (if outputsHeld s then 100 else getF s 0 F.THM_DEMAND_DUTY)
      clkmon := !w.failed && isF s 0 F.CLK_MON_EN && isF s 0 F.MGT_CLK_EN_CLKMON
      optics := engineReady s }

/-! ### The TAP -/

/-- The TAP runs from 12 V. -/
def modTap (s : State) (f : Jtag → Jtag) : State := if s.steward.aux then { s with jtag := f s.jtag } else s

def execTapReset (s : State) : Out := .next (modTap s fun j => { j with ir := 2, drive := .none })

/-- An instruction that drives pins: it takes effect only while ENGINE_RESET_N is low, else the bypass register is selected. -/
def tapDrive (s : State) (op : Nat) (d : TapDrive) : State :=
  modTap s fun j => if s.steward.resetLow then { j with ir := op, drive := d } else { j with ir := 0xFF, drive := .none }

def execExtest (s : State) : Out := .next (tapDrive s 0 .extest)
def execClamp (s : State) : Out := .next (tapDrive s 3 .clamp)
def execHighz (s : State) : Out := .next (tapDrive s 4 .highz)
def execExtestPulse (s : State) : Out := .next (tapDrive s 5 .extestPulse)
def execExtestTrain (s : State) : Out := .next (tapDrive s 6 .extestTrain)

/-- The levels that the boundary register captures: the pins that the engine knows, the rest from outside. The order of the
cells is the BSDL's, which the spec does not give (R391). -/
def capture (s : State) (n : Nat) : BitVec 92 :=
  let o := signals s
  Config.boundary [!s.steward.resetLow, isF s 0 F.PWR_DIN_CUR_RAW, !(isF s 0 F.PWR_DIN_FRZ_RAW), o.presentLow, o.alertLow,
    o.live == some true, o.clkmon] n

def execSamplePreload (preload : BitVec 92) (s : State) : Out :=
  let (s, n) := nextFree s
  let c := capture s n
  .next (modTap s fun j => { j with ir := 1, drive := .none, captured := c, boundary := preload })

/-- The device identification, 0x1C2A_01A7 (R389). -/
def execIdcode (s : State) : Out :=
  .next (if s.steward.aux then { modTap s fun j => { j with ir := 2, drive := .none } with bus := toBytes 4 0x1C2A01A7 } else s)

/-- Opcode 0xFF and every value that names no other instruction. -/
def execBypass (opcode : Byte) (s : State) : Out :=
  .next (if opcode.toNat < 7 then s else modTap s fun j => { j with ir := opcode.toNat, drive := .none })

end Sys2Proof.Machine
end

