-- ==== Sys2Proof/Machine/Queue.lean ====
section
/-! DEFINITION. Queue access, class 0x1 (R45). -/

namespace Sys2Proof.Machine

/-- The head flit with one more word popped; freed at the fourth. -/
def popWord (s : State) (k q : Nat) : State :=
  match queueOf s k q with
  | [] => s
  | f :: r => if 3 ≤ f.popped then qFreed s k q 1 else setQueue s k q ({ f with popped := f.popped + 1 } :: r)

def headSlot (s : State) (k q : Nat) : Slot := (queueOf s k q).headD { id := 0 }

/-- The word QPOP and QPEEK read. -/
def headWord (s : State) (k q : Nat) : Word := flitWord ((headSlot s k q).data.getD 0) (headSlot s k q).popped

/-- QHDR's value: TAG, LEN, CLASS and poison-in-message of the head message, its flits already freed included (R45, R171); for data that no message brought
it is a free value (log entry 2). -/
def headerWord (s : State) (k q : Nat) : Word :=
  let h := headSlot s k q
  let inMsg := ((queueOf s k q).takeWhile fun f => f.msg && (f.id == h.id || !f.first))
  if h.msg then BitVec.ofNat 64 (h.tag + h.len * 2 ^ 16 + h.cls * 2 ^ 20 + b2n (look false (tile s k).msgBad q || inMsg.any fun f => f.poison) * 2 ^ 22)
  else Config.freeWord s.free

def execQpop (t : TileId) (n : Fin 8) (s : State) : Out :=
  issue .qpop t n (fun s i =>
    let k := tileNo t; let q := i.fld 32 3
    (setG (popWord s k q) k n i.d.toNat (headWord s k q) (headSlot s k q).poison, .next)) s

def execQpeek (t : TileId) (n : Fin 8) (s : State) : Out :=
  issue .qpeek t n (fun s i =>
    let k := tileNo t; let q := i.fld 32 3
    (setG s k n i.d.toNat (headWord s k q) (headSlot s k q).poison, .next)) s

def execQhdr (t : TileId) (n : Fin 8) (s : State) : Out :=
  issue .qhdr t n (fun s i =>
    let k := tileNo t; let q := i.fld 32 3
    let v := headerWord s k q
    let s := if (headSlot s k q).msg then s else (nextFree s).1
    (setG s k n i.d.toNat v false, .next)) s

def execQdrop (t : TileId) (n : Fin 8) (s : State) : Out :=
  issue .qdrop t n (fun s i => (qDrop s (tileNo t) (i.fld 32 3) (i.fld 0 9), .next)) s

end Sys2Proof.Machine
end

