-- ==== Sys2Proof/Machine/Vector.lean ====
section
/-! DEFINITION. The vector unit, class 0x7 (R53, R54, R115). -/

namespace Sys2Proof.Machine

def lane (v : BitVec 512) (i : Nat) : F32 := v.extractLsb' (32 * i) 32
def lanes (v : BitVec 512) : List F32 := (List.range 16).map (lane v)
def ofLanes (l : List F32) : BitVec 512 := BitVec.ofNat 512 (l.foldr (fun x acc => x.toNat + 2 ^ 32 * acc) 0)

/-- Pairwise reduction in the fixed order ((0+1)+(2+3))+… (R53), four levels of 16 lanes. -/
def pairwise (f : F32 → F32 → F32 × Note) : Nat → List F32 → Note → F32 × Note
  | 0, l, n => (l.headD 0, n)
  | d + 1, l, n =>
    let ps := (List.range (l.length / 2)).map fun i => f (l.getD (2 * i) 0) (l.getD (2 * i + 1) 0)
    pairwise f d (ps.map Prod.fst) (ps.foldl (fun a p => a.or p.2) n)

/-- One lane's result by OP (Table 02.7). -/
def vectorLane (op fmt : Nat) (dir : Bool) (a b c : F32) : F32 × Note :=
  match op with
  | 0 => f32Add a b
  | 1 => f32Sub a b
  | 2 => f32Mul a b
  | 3 => f32Fma a b c
  | 4 => f32Max a b
  | 5 => f32Min a b
  | 6 => (a, {})
  | 7 => f32Rcp a
  | 8 => f32Rsq a
  | 9 => f32Exp2 a
  | 10 => f32Log2 a
  | 11 => if dir then cvtFrom fmt a else cvtTo fmt a
  | _ => (a + b, {})

/-- The 16 lanes of a repetition's result. -/
def vectorOp (op fmt : Nat) (dir : Bool) (a b c : BitVec 512) : List (F32 × Note) :=
  match op with
  | 12 => pairwise f32Add 4 (lanes a) {} :: List.replicate 15 (0, {})
  | 13 => pairwise f32Max 4 (lanes a) {} :: List.replicate 15 (0, {})
  | _ => (List.range 16).map fun i => vectorLane op fmt dir (lane a i) (lane b i) (lane c i)

/-- The selectors an operation uses, SA first (R53). -/
def vectorSels (i : VInsn) : List Nat :=
  match i.op with
  | 0 | 1 | 2 | 4 | 5 | 14 => [i.sa, i.sb]
  | 3 => [i.sa, i.sb, i.sc]
  | _ => [i.sa]

/-- A vector instruction enters the issue queue, its broadcast operands read (R53, R54). -/
def vector (op : TOp) (t : TileId) (n : Fin 8) (s : State) : Out :=
  issue op t n (fun s i =>
    let k := tileNo t
    let g (x : Nat) : BitVec 32 × Bool :=
      if 16 ≤ x then ((getG s k n (x - 16)).extractLsb' 0 32, gPoison s k n (x - 16)) else (0, false)
    let v : VInsn := { n, op := op.code.2, vd := i.d.toNat % 8, fmt := i.fld 36 4, dir := i.flag 35, rep := i.fld 32 3,
                       sa := i.fld 25 5, sb := i.fld 20 5, sc := i.fld 15 5, dq := i.flag 14,
                       g := [g (i.fld 25 5), g (i.fld 20 5), g (i.fld 15 5)], issued := s.tc }
    (modTile s k fun x => { x with vq := x.vq ++ [v] }, .next)) s

def execVadd (t : TileId) (n : Fin 8) (s : State) : Out := vector .vadd t n s
def execVsub (t : TileId) (n : Fin 8) (s : State) : Out := vector .vsub t n s
def execVmul (t : TileId) (n : Fin 8) (s : State) : Out := vector .vmul t n s
def execVfma (t : TileId) (n : Fin 8) (s : State) : Out := vector .vfma t n s
def execVmax (t : TileId) (n : Fin 8) (s : State) : Out := vector .vmax t n s
def execVmin (t : TileId) (n : Fin 8) (s : State) : Out := vector .vmin t n s
def execVmov (t : TileId) (n : Fin 8) (s : State) : Out := vector .vmov t n s
def execVrcp (t : TileId) (n : Fin 8) (s : State) : Out := vector .vrcp t n s
def execVrsq (t : TileId) (n : Fin 8) (s : State) : Out := vector .vrsq t n s
def execVexp2 (t : TileId) (n : Fin 8) (s : State) : Out := vector .vexp2 t n s
def execVlog2 (t : TileId) (n : Fin 8) (s : State) : Out := vector .vlog2 t n s
def execVcvt (t : TileId) (n : Fin 8) (s : State) : Out := vector .vcvt t n s
def execVrsum (t : TileId) (n : Fin 8) (s : State) : Out := vector .vrsum t n s
def execVrmax (t : TileId) (n : Fin 8) (s : State) : Out := vector .vrmax t n s
def execViadd (t : TileId) (n : Fin 8) (s : State) : Out := vector .viadd t n s

/-- Repetition `j` can run: queue operands present, register operands not in flight, destination room (R54). -/
def repReady (s : State) (k : Nat) (i : VInsn) (j : Nat) : Bool :=
  let sels := vectorSels i
  (sels.all fun x =>
    if x < 8 then !((tile s k).vres.any fun r => !r.toQ && r.dst == (x + j) % 8)
    else if x < 16 then decide (2 * (sels.filter fun y => y == x).length ≤ qWhole s k (x - 8))
    else true) &&
  (!i.dq || decide (2 ≤ qFree s k i.vd))

/-- Fetches the operands of repetition `j`, popping queue flits, SA first. -/
def fetchSel (s : State) (k : Nat) (i : VInsn) (j pos x : Nat) : State × BitVec 512 × Bool :=
  if x < 8 then (s, look 0 (tile s k).vreg ((x + j) % 8), look false (tile s k).vpoison ((x + j) % 8))
  else if x < 16 then
    let (s, l) := qTake s k (x - 8) 2
    (s, (l.getD 1 (0, false)).1 ++ (l.getD 0 (0, false)).1, l.any Prod.snd)
  else
    let g := i.g.getD pos (0, false)
    (s, ofLanes (List.replicate 16 g.1), g.2)

def fetchSels (s : State) (k : Nat) (i : VInsn) (j : Nat) : Nat → List Nat → State × List (BitVec 512 × Bool)
  | _, [] => (s, [])
  | pos, x :: r =>
    let (s, v, p) := fetchSel s k i j pos x
    let (s, l) := fetchSels s k i j (pos + 1) r
    (s, (v, p) :: l)

/-- Latency of an operation in tc (Table 02.7). -/
def vectorLatency (op : Nat) : Nat := if 7 ≤ op && op ≤ 10 then 8 else if op == 12 || op == 13 then 6 else 4

/-- Runs repetition `j`: the result is on its way until its writeback; a queue destination is reserved now (R53). -/
def runRep (s : State) (k : Nat) (i : VInsn) (j : Nat) : State :=
  let (s, ops) := fetchSels s k i j 0 (vectorSels i)
  let v (x : Nat) : BitVec 512 := (ops.getD x (0, false)).1
  let r := vectorOp i.op i.fmt i.dir (v 0) (v 1) (v 2)
  let n : Note := r.foldl (fun (a : Note) p => a.or p.2) {}
  let (s, id) := if i.dq then reserve s k i.vd 2 fun id _ => { id } else (s, 0)
  let e : VRes := { toQ := i.dq, dst := if i.dq then i.vd else (i.vd + j) % 8, ids := [id, id + 1],
                    v := ofLanes (r.map Prod.fst), poison := ops.any Prod.snd, flush := n.flush, invalid := n.invalid,
                    overflow := n.overflow, cvtNan := n.cvtNan, sat := (r.filter fun p => p.2.sat).length, due := s.tc + vectorLatency i.op }
  modTile s k fun x =>
    { x with vres := x.vres ++ [e], vrun := if j < i.rep then some (i, j + 1) else none, vecTc := s.tc + 1 }

/-- The head instruction begins, at least 1 tc after its issue and after the repetition before: its entry frees and its first
repetition runs (R54). Contexts that the full queue blocked issue no earlier than the following tc. -/
def execVectorBegin (t : TileId) (s : State) : Out :=
  let k := tileNo t
  match (tile s k).vrun, (tile s k).vq with
  | none, i :: r =>
    if clockOn s k && repReady s k i 0 then
      let s := waitTc s (max (tile s k).vecTc (i.issued + 1))
      .next (runRep (modTile s k fun x => { x with vq := r }) k i 0)
    else .next s
  | _, _ => .next s

/-- The running instruction's next repetition, at least 1 tc after the one before it (R54). -/
def execVectorRepetition (t : TileId) (s : State) : Out :=
  let k := tileNo t
  match (tile s k).vrun with
  | some (i, j) =>
    if clockOn s k && repReady s k i j then .next (runRep (waitTc s (tile s k).vecTc) k i j) else .next s
  | none => .next s

/-- Notes what vector lanes met: LAT.FPX bits and LAT.CVT_CNT.SAT (R110, R115, R116). -/
def noteVector (s : State) (k : Nat) (e : VRes) : State :=
  let s := if e.flush then noteFpx s k F.LAT_FPX_V_FLUSH else s
  let s := if e.invalid then noteFpx s k F.LAT_FPX_V_INVALID else s
  let s := if e.overflow then noteFpx s k F.LAT_FPX_V_OVERFLOW else s
  let s := if e.cvtNan then noteFpx s k F.LAT_FPX_CVT_NAN else s
  if e.sat == 0 then s else incF (noteFpx s k F.LAT_FPX_CVT_SAT) (tileBase k) F.LAT_CVT_CNT_SAT e.sat

/-- The result that is due first, the oldest of those. -/
def nextVres (l : List VRes) : Option VRes :=
  match (l.map fun e => e.due).min? with
  | some m => l.find? fun e => e.due == m
  | none => none

/-- The result that is due first is written to its register or its two queue flits, at its operation's latency (R54). -/
def execVectorWriteback (t : TileId) (s : State) : Out :=
  let k := tileNo t
  match nextVres (tile s k).vres with
  | none => .next s
  | some e =>
    if !(clockOn s k) then .next s
    else
      let s := noteVector (modTile (waitTc s e.due) k fun x => { x with vres := x.vres.erase e }) k e
      if e.toQ then
        let s := fillSlot s k e.dst (e.ids.getD 0 0) (e.v.extractLsb' 0 256) e.poison
        .next (fillSlot s k e.dst (e.ids.getD 1 0) (e.v.extractLsb' 256 256) e.poison)
      else
        .next (modTile s k fun x => { x with vreg := put 0 x.vreg e.dst e.v, vpoison := put false x.vpoison e.dst e.poison })

end Sys2Proof.Machine
end

