-- ==== Sys2Proof/Machine/Dispatch.lean ====
section
/-! DEFINITION. The meaning of every command, arm by arm. -/

namespace Sys2Proof.Machine

def exec (i : Instr) (s : State) : Host.Outcome State Fault Refusal :=
  match i with
  | .add t n => Sys2Proof.Machine.execAdd t n s
  | .sub t n => Sys2Proof.Machine.execSub t n s
  | .and t n => Sys2Proof.Machine.execAnd t n s
  | .or t n => Sys2Proof.Machine.execOr t n s
  | .xor t n => Sys2Proof.Machine.execXor t n s
  | .shl t n => Sys2Proof.Machine.execShl t n s
  | .shr t n => Sys2Proof.Machine.execShr t n s
  | .sra t n => Sys2Proof.Machine.execSra t n s
  | .mul t n => Sys2Proof.Machine.execMul t n s
  | .mulhu t n => Sys2Proof.Machine.execMulhu t n s
  | .mulResultReady t n => Sys2Proof.Machine.execMulResultReady t n s
  | .min t n => Sys2Proof.Machine.execMin t n s
  | .max t n => Sys2Proof.Machine.execMax t n s
  | .minu t n => Sys2Proof.Machine.execMinu t n s
  | .maxu t n => Sys2Proof.Machine.execMaxu t n s
  | .cmpeq t n => Sys2Proof.Machine.execCmpeq t n s
  | .cmplt t n => Sys2Proof.Machine.execCmplt t n s
  | .cmpltu t n => Sys2Proof.Machine.execCmpltu t n s
  | .movhi t n => Sys2Proof.Machine.execMovhi t n s
  | .popc t n => Sys2Proof.Machine.execPopc t n s
  | .clz t n => Sys2Proof.Machine.execClz t n s
  | .qpop t n => Sys2Proof.Machine.execQpop t n s
  | .qpeek t n => Sys2Proof.Machine.execQpeek t n s
  | .qhdr t n => Sys2Proof.Machine.execQhdr t n s
  | .qdrop t n => Sys2Proof.Machine.execQdrop t n s
  | .br t n => Sys2Proof.Machine.execBr t n s
  | .beqz t n => Sys2Proof.Machine.execBeqz t n s
  | .bnez t n => Sys2Proof.Machine.execBnez t n s
  | .bltz t n => Sys2Proof.Machine.execBltz t n s
  | .bgez t n => Sys2Proof.Machine.execBgez t n s
  | .call t n => Sys2Proof.Machine.execCall t n s
  | .jr t n => Sys2Proof.Machine.execJr t n s
  | .loop t n => Sys2Proof.Machine.execLoop t n s
  | .stop t n => Sys2Proof.Machine.execStop t n s
  | .nop t n => Sys2Proof.Machine.execNop t n s
  | .arm t n => Sys2Proof.Machine.execArm t n s
  | .disarm t n => Sys2Proof.Machine.execDisarm t n s
  | .wait t n => Sys2Proof.Machine.execWait t n s
  | .signal t n => Sys2Proof.Machine.execSignal t n s
  | .ctrrd t n => Sys2Proof.Machine.execCtrrd t n s
  | .counterEvent t c => Sys2Proof.Machine.execCounterEvent t c s
  | .rldq t n => Sys2Proof.Machine.execRldq t n s
  | .rstq t n => Sys2Proof.Machine.execRstq t n s
  | .rldg t n => Sys2Proof.Machine.execRldg t n s
  | .rstg t n => Sys2Proof.Machine.execRstg t n s
  | .rcpy t n => Sys2Proof.Machine.execRcpy t n s
  | .rzero t n => Sys2Proof.Machine.execRzero t n s
  | .ifill t n => Sys2Proof.Machine.execIfill t n s
  | .sendq t n => Sys2Proof.Machine.execSendq t n s
  | .sendrow t n => Sys2Proof.Machine.execSendrow t n s
  | .sendg t n => Sys2Proof.Machine.execSendg t n s
  | .lwld t n => Sys2Proof.Machine.execLwld t n s
  | .liss t n => Sys2Proof.Machine.execLiss t n s
  | .ldrain t n => Sys2Proof.Machine.execLdrain t n s
  | .vadd t n => Sys2Proof.Machine.execVadd t n s
  | .vsub t n => Sys2Proof.Machine.execVsub t n s
  | .vmul t n => Sys2Proof.Machine.execVmul t n s
  | .vfma t n => Sys2Proof.Machine.execVfma t n s
  | .vmax t n => Sys2Proof.Machine.execVmax t n s
  | .vmin t n => Sys2Proof.Machine.execVmin t n s
  | .vmov t n => Sys2Proof.Machine.execVmov t n s
  | .vrcp t n => Sys2Proof.Machine.execVrcp t n s
  | .vrsq t n => Sys2Proof.Machine.execVrsq t n s
  | .vexp2 t n => Sys2Proof.Machine.execVexp2 t n s
  | .vlog2 t n => Sys2Proof.Machine.execVlog2 t n s
  | .vcvt t n => Sys2Proof.Machine.execVcvt t n s
  | .vrsum t n => Sys2Proof.Machine.execVrsum t n s
  | .vrmax t n => Sys2Proof.Machine.execVrmax t n s
  | .viadd t n => Sys2Proof.Machine.execViadd t n s
  | .vectorBegin t => Sys2Proof.Machine.execVectorBegin t s
  | .vectorRepetition t => Sys2Proof.Machine.execVectorRepetition t s
  | .vectorWriteback t => Sys2Proof.Machine.execVectorWriteback t s
  | .scvt t n => Sys2Proof.Machine.execScvt t n s
  | .smatch t n => Sys2Proof.Machine.execSmatch t n s
  | .stopk t n => Sys2Proof.Machine.execStopk t n s
  | .sfetch t n => Sys2Proof.Machine.execSfetch t n s
  | .sverify t n => Sys2Proof.Machine.execSverify t n s
  | .csrr t n => Sys2Proof.Machine.execCsrr t n s
  | .csrw t n => Sys2Proof.Machine.execCsrw t n s
  | .csrAccessLand t clu => Sys2Proof.Machine.execCsrAccessLand t clu s
  | .ifence t n => Sys2Proof.Machine.execIfence t n s
  | .rfence t n => Sys2Proof.Machine.execRfence t n s
  | .beatend t n => Sys2Proof.Machine.execBeatend t n s
  | .yield t n => Sys2Proof.Machine.execYield t n s
  | .ifillGo t v => Sys2Proof.Machine.execIfillGo t v s
  | .ifillRowWrite t => Sys2Proof.Machine.execIfillRowWrite t s
  | .ibDataWrite t v => Sys2Proof.Machine.execIbDataWrite t v s
  | .ibDataRead t => Sys2Proof.Machine.execIbDataRead t s
  | .qcfgWrite t q v => Sys2Proof.Machine.execQcfgWrite t q v s
  | .counterWrite t c v => Sys2Proof.Machine.execCounterWrite t c v s
  | .contextReset t n v => Sys2Proof.Machine.execContextReset t n v s
  | .latDescWrite t d v => Sys2Proof.Machine.execLatDescWrite t d v s
  | .spuDescWrite t d v => Sys2Proof.Machine.execSpuDescWrite t d v s
  | .srCntWrite t v => Sys2Proof.Machine.execSrCntWrite t v s
  | .vcntWrite t v => Sys2Proof.Machine.execVcntWrite t v s
  | .tallyInjArray t => Sys2Proof.Machine.execTallyInjArray t s
  | .tallyInjDrain t => Sys2Proof.Machine.execTallyInjDrain t s
  | .parityInject c v => Sys2Proof.Machine.execParityInject c v s
  | .latticeDispatch t => Sys2Proof.Machine.execLatticeDispatch t s
  | .lwldComplete t => Sys2Proof.Machine.execLwldComplete t s
  | .vectorEntry t => Sys2Proof.Machine.execVectorEntry t s
  | .arrayResult t colFault badLanes => Sys2Proof.Machine.execArrayResult t colFault badLanes s
  | .lissComplete t => Sys2Proof.Machine.execLissComplete t s
  | .loadFloorVector t => Sys2Proof.Machine.execLoadFloorVector t s
  | .drainFlitWrite t => Sys2Proof.Machine.execDrainFlitWrite t s
  | .ldrainComplete t => Sys2Proof.Machine.execLdrainComplete t s
  | .latticeRepeat t colFault => Sys2Proof.Machine.execLatticeRepeat t colFault s
  | .replayRecordMove c => Sys2Proof.Machine.execReplayRecordMove c s
  | .replayService c t fault => Sys2Proof.Machine.execReplayService c t fault s
  | .replayForce f => Sys2Proof.Machine.execReplayForce f s
  | .replayOutcome c => Sys2Proof.Machine.execReplayOutcome c s
  | .taintVote => Sys2Proof.Machine.execTaintVote s
  | .spuDispatch t => Sys2Proof.Machine.execSpuDispatch t s
  | .spuComplete t => Sys2Proof.Machine.execSpuComplete t s
  | .sfetchRowRead t => Sys2Proof.Machine.execSfetchRowRead t s
  | .mergeStart c v => Sys2Proof.Machine.execMergeStart c v s
  | .mergeEmit c => Sys2Proof.Machine.execMergeEmit c s
  | .mergeComplete c => Sys2Proof.Machine.execMergeComplete c s
  | .sliceGrant c sl => Sys2Proof.Machine.execSliceGrant c sl s
  | .rowDataDelivery c glitch => Sys2Proof.Machine.execRowDataDelivery c glitch s
  | .scrubRead c glitch => Sys2Proof.Machine.execScrubRead c glitch s
  | .targetedScrubRead c glitch => Sys2Proof.Machine.execTargetedScrubRead c glitch s
  | .scrubPassLate c => Sys2Proof.Machine.execScrubPassLate c s
  | .messageInjection t => Sys2Proof.Machine.execMessageInjection t s
  | .payloadFlitInject t => Sys2Proof.Machine.execPayloadFlitInject t s
  | .routerGrant t d => Sys2Proof.Machine.execRouterGrant t d s
  | .flitArrival t d crcBad parityBad => Sys2Proof.Machine.execFlitArrival t d crcBad parityBad s
  | .ejectionReserve t => Sys2Proof.Machine.execEjectionReserve t s
  | .flitEject t => Sys2Proof.Machine.execFlitEject t s
  | .configRowArrival t row => Sys2Proof.Machine.execConfigRowArrival t row s
  | .configCheckDone t => Sys2Proof.Machine.execConfigCheckDone t s
  | .eclosion t => Sys2Proof.Machine.execEclosion t s
  | .hingeLaneTrained w l ok => Sys2Proof.Machine.execHingeLaneTrained w l ok s
  | .hingeCalVisit w g l => Sys2Proof.Machine.execHingeCalVisit w g l s
  | .hingeLaneFail w l => Sys2Proof.Machine.execHingeLaneFail w l s
  | .tokenArrival t code => Sys2Proof.Machine.execTokenArrival t code s
  | .detailRecordForward t node => Sys2Proof.Machine.execDetailRecordForward t node s
  | .rimeCommandRetry f => Sys2Proof.Machine.execRimeCommandRetry f s
  | .beatTick => Sys2Proof.Machine.execBeatTick s
  | .openPulse f => Sys2Proof.Machine.execOpenPulse f s
  | .beatOpen t => Sys2Proof.Machine.execBeatOpen t s
  | .tailDone t => Sys2Proof.Machine.execTailDone t s
  | .beatOverrun t => Sys2Proof.Machine.execBeatOverrun t s
  | .fieldSeal f => Sys2Proof.Machine.execFieldSeal f s
  | .sealLate f => Sys2Proof.Machine.execSealLate f s
  | .freezeTimeout f => Sys2Proof.Machine.execFreezeTimeout f s
  | .exchangeRun t => Sys2Proof.Machine.execExchangeRun t s
  | .stepCheckpoint => Sys2Proof.Machine.execStepCheckpoint s
  | .spareSelftestDone f failed => Sys2Proof.Machine.execSpareSelftestDone f failed s
  | .shiftTableUpdate f => Sys2Proof.Machine.execShiftTableUpdate f s
  | .selftestDone f failed ms => Sys2Proof.Machine.execSelftestDone f failed ms s
  | .streamEnable n v => Sys2Proof.Machine.execStreamEnable n v s
  | .streamDisable n v => Sys2Proof.Machine.execStreamDisable n v s
  | .streamFlitMove n producer ptrBad => Sys2Proof.Machine.execStreamFlitMove n producer ptrBad s
  | .bankSwap n => Sys2Proof.Machine.execBankSwap n s
  | .bankTimeout n => Sys2Proof.Machine.execBankTimeout n s
  | .deadlineMiss n => Sys2Proof.Machine.execDeadlineMiss n s
  | .firnReadDone st corr uncorr => Sys2Proof.Machine.execFirnReadDone st corr uncorr s
  | .firnWriteDone st => Sys2Proof.Machine.execFirnWriteDone st s
  | .patrolRead st granule corr uncorr => Sys2Proof.Machine.execPatrolRead st granule corr uncorr s
  | .bar4Read off len corr uncorr => Sys2Proof.Machine.execBar4Read off len corr uncorr s
  | .bar4Write off data corr uncorr => Sys2Proof.Machine.execBar4Write off data corr uncorr s
  | .channelEnable p c v => Sys2Proof.Machine.execChannelEnable p c v s
  | .portEnable p v => Sys2Proof.Machine.execPortEnable p v s
  | .portTrainDone p => Sys2Proof.Machine.execPortTrainDone p s
  | .portTrainTimeout p => Sys2Proof.Machine.execPortTrainTimeout p s
  | .portRetrain p => Sys2Proof.Machine.execPortRetrain p s
  | .lightLoss p => Sys2Proof.Machine.execLightLoss p s
  | .heartbeatSend p => Sys2Proof.Machine.execHeartbeatSend p s
  | .heartbeatTimeout p => Sys2Proof.Machine.execHeartbeatTimeout p s
  | .dataFrameSend p c => Sys2Proof.Machine.execDataFrameSend p c s
  | .retransmitTimeout p tag => Sys2Proof.Machine.execRetransmitTimeout p tag s
  | .data p fr => Sys2Proof.Machine.execData p fr s
  | .foreignFrame p fr => Sys2Proof.Machine.execForeignFrame p fr s
  | .ack p fr => Sys2Proof.Machine.execAck p fr s
  | .heartbeat p fr now => Sys2Proof.Machine.execHeartbeat p fr now s
  | .tick p fr => Sys2Proof.Machine.execTick p fr s
  | .tickMissing => Sys2Proof.Machine.execTickMissing s
  | .vote p fr => Sys2Proof.Machine.execVote p fr s
  | .voteSend => Sys2Proof.Machine.execVoteSend s
  | .voteTimeout => Sys2Proof.Machine.execVoteTimeout s
  | .orderCommit p fr => Sys2Proof.Machine.execOrderCommit p fr s
  | .orderRollback p fr => Sys2Proof.Machine.execOrderRollback p fr s
  | .orderRestart p fr => Sys2Proof.Machine.execOrderRestart p fr s
  | .orderFreeze p fr => Sys2Proof.Machine.execOrderFreeze p fr s
  | .orderThaw p fr => Sys2Proof.Machine.execOrderThaw p fr s
  | .orderFormed p fr => Sys2Proof.Machine.execOrderFormed p fr s
  | .lost p fr => Sys2Proof.Machine.execLost p fr s
  | .mgmt p fr => Sys2Proof.Machine.execMgmt p fr s
  | .formationPhase delayNs depth => Sys2Proof.Machine.execFormationPhase delayNs depth s
  | .joinTimeout => Sys2Proof.Machine.execJoinTimeout s
  | .powerControlInterval r => Sys2Proof.Machine.execPowerControlInterval r s
  | .capFrequencyStep => Sys2Proof.Machine.execCapFrequencyStep s
  | .voltageStepDone => Sys2Proof.Machine.execVoltageStepDone s
  | .droopDetect f mv => Sys2Proof.Machine.execDroopDetect f mv s
  | .didtWindow f amps => Sys2Proof.Machine.execDidtWindow f amps s
  | .curtailInput active => Sys2Proof.Machine.execCurtailInput active s
  | .freezeNInput active => Sys2Proof.Machine.execFreezeNInput active s
  | .inputHeldReport => Sys2Proof.Machine.execInputHeldReport s
  | .mainInputLoss mv => Sys2Proof.Machine.execMainInputLoss mv s
  | .mainInputReturn mv => Sys2Proof.Machine.execMainInputReturn mv s
  | .rideTimeout joules => Sys2Proof.Machine.execRideTimeout joules s
  | .gaugeFault coul volt => Sys2Proof.Machine.execGaugeFault coul volt s
  | .parkComplete => Sys2Proof.Machine.execParkComplete s
  | .resumeComplete => Sys2Proof.Machine.execResumeComplete s
  | .thermalSample r => Sys2Proof.Machine.execThermalSample r s
  | .thermalTrip => Sys2Proof.Machine.execThermalTrip s
  | .coolDemandUpdate drawW => Sys2Proof.Machine.execCoolDemandUpdate drawW s
  | .coolDemandHoldExpiry => Sys2Proof.Machine.execCoolDemandHoldExpiry s
  | .referenceLoss => Sys2Proof.Machine.execReferenceLoss s
  | .pllLockLoss w => Sys2Proof.Machine.execPllLockLoss w s
  | .sourceQualified src => Sys2Proof.Machine.execSourceQualified src s
  | .referenceSwitchDone => Sys2Proof.Machine.execReferenceSwitchDone s
  | .pllRelock => Sys2Proof.Machine.execPllRelock s
  | .muxHang => Sys2Proof.Machine.execMuxHang s
  | .muxTimeout => Sys2Proof.Machine.execMuxTimeout s
  | .muxForce v => Sys2Proof.Machine.execMuxForce v s
  | .fwdCalPass f atLimit skewPs => Sys2Proof.Machine.execFwdCalPass f atLimit skewPs s
  | .clockGateWrite v => Sys2Proof.Machine.execClockGateWrite v s
  | .nvsHeldFlush => Sys2Proof.Machine.execNvsHeldFlush s
  | .getInfo slot => Sys2Proof.Machine.execGetInfo slot s
  | .getStatus slot => Sys2Proof.Machine.execGetStatus slot s
  | .csrRead slot => Sys2Proof.Machine.execCsrRead slot s
  | .csrWrite slot => Sys2Proof.Machine.execCsrWrite slot s
  | .loadImage slot => Sys2Proof.Machine.execLoadImage slot s
  | .start slot => Sys2Proof.Machine.execStart slot s
  | .freeze slot => Sys2Proof.Machine.execFreeze slot s
  | .thaw slot => Sys2Proof.Machine.execThaw slot s
  | .exchange slot => Sys2Proof.Machine.execExchange slot s
  | .setPowerCap slot => Sys2Proof.Machine.execSetPowerCap slot s
  | .park slot => Sys2Proof.Machine.execPark slot s
  | .resume slot => Sys2Proof.Machine.execResume slot s
  | .setRamp slot => Sys2Proof.Machine.execSetRamp slot s
  | .setFloor slot => Sys2Proof.Machine.execSetFloor slot s
  | .storeSettings slot readBackOk => Sys2Proof.Machine.execStoreSettings slot readBackOk s
  | .calExport slot => Sys2Proof.Machine.execCalExport slot s
  | .calImport slot readBackOk => Sys2Proof.Machine.execCalImport slot readBackOk s
  | .fwUpdate slot => Sys2Proof.Machine.execFwUpdate slot s
  | .calveRetire slot => Sys2Proof.Machine.execCalveRetire slot s
  | .calveReinstate slot selftestOk => Sys2Proof.Machine.execCalveReinstate slot selftestOk s
  | .calveSetPolicy slot => Sys2Proof.Machine.execCalveSetPolicy slot s
  | .calveGetPolicy slot => Sys2Proof.Machine.execCalveGetPolicy slot s
  | .readHistory slot => Sys2Proof.Machine.execReadHistory slot s
  | .cocoonOut slot => Sys2Proof.Machine.execCocoonOut slot s
  | .cocoonIn slot => Sys2Proof.Machine.execCocoonIn slot s
  | .fabricJoin slot => Sys2Proof.Machine.execFabricJoin slot s
  | .commitPolicy slot => Sys2Proof.Machine.execCommitPolicy slot s
  | .clockSelect slot => Sys2Proof.Machine.execClockSelect slot s
  | .resetEngine slot => Sys2Proof.Machine.execResetEngine slot s
  | .undefinedOpcode slot => Sys2Proof.Machine.execUndefinedOpcode slot s
  | .requestRecordWrite link slot word v => Sys2Proof.Machine.execRequestRecordWrite link slot word v s
  | .entdaa addr => Sys2Proof.Machine.execEntdaa addr s
  | .setdasa addr => Sys2Proof.Machine.execSetdasa addr s
  | .rstdaa => Sys2Proof.Machine.execRstdaa s
  | .getpid => Sys2Proof.Machine.execGetpid s
  | .getbcr => Sys2Proof.Machine.execGetbcr s
  | .getdcr => Sys2Proof.Machine.execGetdcr s
  | .getstatus => Sys2Proof.Machine.execGetstatus s
  | .enec events => Sys2Proof.Machine.execEnec events s
  | .disec events => Sys2Proof.Machine.execDisec events s
  | .getmxds => Sys2Proof.Machine.execGetmxds s
  | .i3cPrivateWrite b => Sys2Proof.Machine.execI3cPrivateWrite b s
  | .i3cPrivateRead len => Sys2Proof.Machine.execI3cPrivateRead len s
  | .heartIncrement => Sys2Proof.Machine.execHeartIncrement s
  | .moraineFlush => Sys2Proof.Machine.execMoraineFlush s
  | .auxPowerOn => Sys2Proof.Machine.execAuxPowerOn s
  | .engineReset => Sys2Proof.Machine.execEngineReset s
  | .coldStart => Sys2Proof.Machine.execColdStart s
  | .coldStartPhaseEnd r => Sys2Proof.Machine.execColdStartPhaseEnd r s
  | .phaseLate canComplete => Sys2Proof.Machine.execPhaseLate canComplete s
  | .pcieReset link => Sys2Proof.Machine.execPcieReset link s
  | .stewardReset => Sys2Proof.Machine.execStewardReset s
  | .watchdogExpiry => Sys2Proof.Machine.execWatchdogExpiry s
  | .jitorReturn => Sys2Proof.Machine.execJitorReturn s
  | .evcSourceInput n => Sys2Proof.Machine.execEvcSourceInput n s
  | .evcClaim c => Sys2Proof.Machine.execEvcClaim c s
  | .evcComplete c v => Sys2Proof.Machine.execEvcComplete c v s
  | .evcPendWrite k v => Sys2Proof.Machine.execEvcPendWrite k v s
  | .evcSwset v => Sys2Proof.Machine.execEvcSwset v s
  | .evcFlush c => Sys2Proof.Machine.execEvcFlush c s
  | .holdOffExpiry g => Sys2Proof.Machine.execHoldOffExpiry g s
  | .generalTimerExpiry k => Sys2Proof.Machine.execGeneralTimerExpiry k s
  | .coreSleep c => Sys2Proof.Machine.execCoreSleep c s
  | .coreWake c => Sys2Proof.Machine.execCoreWake c s
  | .rcRegisterRead a => Sys2Proof.Machine.execRcRegisterRead a s
  | .splitValueRead a => Sys2Proof.Machine.execSplitValueRead a s
  | .reportRecordRead f => Sys2Proof.Machine.execReportRecordRead f s
  | .registerWrite link a v => Sys2Proof.Machine.execRegisterWrite link a v s
  | .laneAlignmentLoss p lane => Sys2Proof.Machine.execLaneAlignmentLoss p lane s
  | .holdupFullCharge calOk => Sys2Proof.Machine.execHoldupFullCharge calOk s
  | .auxPowerLoss => Sys2Proof.Machine.execAuxPowerLoss s
  | .opsecSave => Sys2Proof.Machine.execOpsecSave s
  | .discreteInputChatter freezeN => Sys2Proof.Machine.execDiscreteInputChatter freezeN s
  | .tapReset => Sys2Proof.Machine.execTapReset s
  | .extest => Sys2Proof.Machine.execExtest s
  | .samplePreload preload => Sys2Proof.Machine.execSamplePreload preload s
  | .idcode => Sys2Proof.Machine.execIdcode s
  | .clamp => Sys2Proof.Machine.execClamp s
  | .highz => Sys2Proof.Machine.execHighz s
  | .extestPulse => Sys2Proof.Machine.execExtestPulse s
  | .extestTrain => Sys2Proof.Machine.execExtestTrain s
  | .bypass opcode => Sys2Proof.Machine.execBypass opcode s

end Sys2Proof.Machine
end

