-- ==== Sys2Proof/Safety.lean ====
section
/-! DEFINITION. What counts as a safe run, and the terms that the statements are made in: what a command leaves unchanged, which
instruction a context issues, what an issue and a report do beside an instruction's own effect. -/

namespace Sys2Proof

/-- A state whose step goes on. -/
def Safe (s : Machine.State) : Prop := ∃ t, Machine.step s = .next t

/-- Every state that `k` steps from `s` pass through goes on. -/
def SafeFor : Nat → Machine.State → Prop
  | 0, _ => True
  | k + 1, s => ∃ t, Machine.step s = .next t ∧ SafeFor k t

end Sys2Proof

namespace Sys2Proof.Machine

/-! ### What is left unchanged -/

/-- Every byte of scratch and of firn reads as before. -/
def MemoryKept (s u : State) : Prop :=
  (∀ a, Mem.read u.scratch a = Mem.read s.scratch a) ∧ (∀ a, Mem.read u.firn a = Mem.read s.firn a)

/-- Every register but those at the addresses listed holds what it held. -/
def RegsKept (s u : State) (l : List Nat) : Prop := ∀ a, a ∉ l → rd u a = rd s a

/-- Every tile but tile number `k` holds, beside its registers, what it held. -/
def OtherTilesKept (s u : State) (k : Nat) : Prop := ∀ j, j ≠ k → tile u j = tile s j

/-- Every cluster but cluster number `c` holds, beside its registers, what it held. -/
def OtherClustersKept (s u : State) (c : Nat) : Prop := ∀ j, j ≠ c → cluster u j = cluster s j

/-- Every field but field `f` holds, beside its registers, what it held. -/
def OtherFieldsKept (s u : State) (f : Nat) : Prop := ∀ j, j ≠ f → field u j = field s j

/-- All else than registers is as before. -/
def OnlyRegs (s u : State) : Prop := { u with csr := s.csr } = s

/-- All else than registers and tile number `k` is as before, memory read byte by byte included. -/
def OnlyTile (s u : State) (k : Nat) : Prop :=
  { u with csr := s.csr, tiles := s.tiles } = s ∧ OtherTilesKept s u k ∧ MemoryKept s u

/-- As `OnlyTile`, with the clock moved on to tc `n` where it stood before it. -/
def OnlyTileAt (s u : State) (k n : Nat) : Prop :=
  u.tc = max s.tc n ∧ { u with csr := s.csr, tiles := s.tiles, tc := s.tc } = s ∧ OtherTilesKept s u k ∧ MemoryKept s u

/-- All else than registers and cluster number `c` is as before, memory read byte by byte included. -/
def OnlyCluster (s u : State) (c : Nat) : Prop :=
  { u with csr := s.csr, clusters := s.clusters } = s ∧ OtherClustersKept s u c ∧ MemoryKept s u

/-- All else than registers and field `f` is as before, memory read byte by byte included. -/
def OnlyField (s u : State) (f : Nat) : Prop :=
  { u with csr := s.csr, fields := s.fields } = s ∧ OtherFieldsKept s u f ∧ MemoryKept s u

/-! ### Issue (R34 to R43) -/

/-- Context `n` of tile `t` is the one that issues in this tc, and what it fetched is the legal instruction `i`, its parity
good. -/
abbrev Issues (s : State) (t : TileId) (n : Fin 8) (i : TInsn) : Prop :=
  issuer s (tileNo t) = some n.val ∧ (fetch s (tileNo t) n).bad = false ∧
    TInsn.ofWord (fetch s (tileNo t) n).insn = some i

/-- Addresses of TSQ.CTX_STATE(n), TSQ.ISSUE_CNT, TSQ.GPOI(n) and TSQ.ERR of tile number `k`. -/
def ctxStateAddr (k n : Nat) : Nat := tileBase k + 0xC0 + 8 * n
def issueCntAddr (k : Nat) : Nat := tileBase k + 0x280
def gpoiAddr (k n : Nat) : Nat := tileBase k + 0x300 + 8 * n
def tsqErrAddr (k : Nat) : Nat := tileBase k + 0x40

/-- The instruction counts as issued (TSQ.ISSUE_CNT), the issue pointer moves past its context, and the tile issues no more in this
tc (R34). -/
def CountsIssue (s u : State) (k n : Nat) : Prop :=
  getF u (tileBase k) F.TSQ_ISSUE_CNT_ISSUED = (getF s (tileBase k) F.TSQ_ISSUE_CNT_ISSUED + 1) % 2 ^ 48 ∧
    (tile u k).p = (n + 1) % 8 ∧ (tile u k).issueTc = s.tc + 1

/-- General registers and poison tags of context `n` but register `d`, and every other register but TSQ.CTX_STATE(n),
TSQ.ISSUE_CNT and those at the addresses of `l`, hold what they held. -/
def IssueRegs (s u : State) (k n : Nat) (d : Option Nat) (l : List Nat) : Prop :=
  (∀ j, j < 16 → some j ≠ d → getG u k n j = getG s k n j ∧ gPoison u k n j = gPoison s k n j) ∧
    RegsKept s u ([ctxStateAddr k n, issueCntAddr k, gpoiAddr k n] ++ (d.map (gAddr k n)).toList ++ l)

/-- A source operand of an ALU instruction that takes two: B, or the immediate sign-extended (R44). -/
def secondOperand (s : State) (k n : Nat) (i : TInsn) : Word :=
  if i.flag 41 then (i.low.extractLsb' 0 32).signExtend 64 else getG s k n i.b.toNat

end Sys2Proof.Machine
end

