-- ==== Sys2Proof/Certificates/Slice0/Obligations.lean ====
section
/-! DEFINITION. The statements for the provers. Each says what a group of commands does in every state that meets its hypotheses, and
what it leaves unchanged. The parts of a statement that covers several groups stand in Sys2Proof.Claims, one definition each. -/

namespace Sys2Proof.Claims

open Sys2Proof Sys2Proof.Machine

/-! ### Steps and the queue of commands -/

/-- A step with a command at the front of the queue is that command's effect on the state with the rest of the queue. Rests on the model's choice of log entry 9. -/
def StepRunsTheFrontCommand : Prop :=
  ∀ (s : State) (c : Instr) (rest : List Instr), step { s with pending := c :: rest } = exec c { s with pending := rest }

/-- A step with no command waiting passes one tile cycle and changes nothing else (the model's choice, log entry 4). -/
def IdleStepPassesOneTileCycle : Prop :=
  ∀ s : State, s.pending = [] → step s = .next { s with tc := s.tc + 1 }

/-! ### ALU instructions (R44) -/

/-- Table 02.4, two operands. -/
def aluResult : TOp → Word → Word → Word
  | .add, a, b => a + b
  | .sub, a, b => a - b
  | .and, a, b => a &&& b
  | .or, a, b => a ||| b
  | .xor, a, b => a ^^^ b
  | .shl, a, b => a <<< (b.toNat % 64)
  | .shr, a, b => a >>> (b.toNat % 64)
  | .sra, a, b => BitVec.ofInt 64 (a.toInt / 2 ^ (b.toNat % 64))
  | .mul, a, b => BitVec.ofNat 64 (a.toNat * b.toNat)
  | .mulhu, a, b => BitVec.ofNat 64 (a.toNat * b.toNat / 2 ^ 64)
  | .min, a, b => if a.toInt ≤ b.toInt then a else b
  | .max, a, b => if a.toInt ≤ b.toInt then b else a
  | .minu, a, b => if a.toNat ≤ b.toNat then a else b
  | .maxu, a, b => if a.toNat ≤ b.toNat then b else a
  | .cmpeq, a, b => if a = b then 1 else 0
  | .cmplt, a, b => if a.toInt < b.toInt then 1 else 0
  | .cmpltu, a, b => if a.toNat < b.toNat then 1 else 0
  | _, a, _ => a

/-- The ALU commands whose result the next instruction reads, with their operations. -/
def aluRows (t : TileId) (n : Fin 8) : List (Instr × TOp) :=
  [(.add t n, .add), (.sub t n, .sub), (.and t n, .and), (.or t n, .or), (.xor t n, .xor), (.shl t n, .shl), (.shr t n, .shr),
   (.sra t n, .sra), (.min t n, .min), (.max t n, .max), (.minu t n, .minu), (.maxu t n, .maxu), (.cmpeq t n, .cmpeq),
   (.cmplt t n, .cmplt), (.cmpltu t n, .cmpltu)]

/-- ADD, SUB, AND, OR, XOR, SHL, SHR, SRA, MIN, MAX, MINU, MAXU, CMPEQ, CMPLT and CMPLTU, where they issue: the next state
holds in D the result of Table 02.4, with D's poison tag set when a source register is poisoned; every other general register
and tag, every other register but TSQ.CTX_STATE(n) and TSQ.ISSUE_CNT, all memory and the rest of the machine but the tile's
own sequencer are unchanged. -/
def AluTwoOperandResultIsWritten : Prop :=
  ∀ (s : State) (t : TileId) (n : Fin 8) (i : TInsn) (c : Instr), (c, i.op) ∈ aluRows t n → Issues s t n i →
    let k := tileNo t
    ∃ u, exec c s = .next u ∧
      getG u k n i.d.toNat = aluResult i.op (getG s k n i.a.toNat) (secondOperand s k n i) ∧
      gPoison u k n i.d.toNat = (gPoison s k n i.a.toNat || (!i.flag 41 && gPoison s k n i.b.toNat)) ∧
      ctxState u k n = 1 ∧ CountsIssue s u k n ∧ IssueRegs s u k n (some i.d.toNat) [] ∧ OnlyTile s u k ∧
      { tile u k with p := (tile s k).p, issueTc := (tile s k).issueTc, ctx := (tile s k).ctx } = tile s k

/-- MOVHI writes A with bits 63:32 replaced by IMM, POPC the number of set bits in A, CLZ the leading zeros of A (64 of 0); D's
poison tag becomes A's, and the frame is that of the other ALU instructions. -/
def AluOneOperandResultIsWritten : Prop :=
  ∀ (s : State) (t : TileId) (n : Fin 8) (i : TInsn) (c : Instr),
    (c, i.op) ∈ [(Instr.movhi t n, TOp.movhi), (.popc t n, .popc), (.clz t n, .clz)] → Issues s t n i →
    let k := tileNo t
    let a := getG s k n i.a.toNat
    ∃ u, exec c s = .next u ∧
      (i.op = .movhi → (getG u k n i.d.toNat).toNat = i.low.toNat % 2 ^ 32 * 2 ^ 32 + a.toNat % 2 ^ 32) ∧
      (i.op = .popc → (getG u k n i.d.toNat).toNat = ((List.range 64).filter fun j => a.getLsbD j).length) ∧
      (i.op = .clz → if a = 0 then getG u k n i.d.toNat = 64
        else (getG u k n i.d.toNat).toNat ≤ 63 ∧ a.toNat / 2 ^ (63 - (getG u k n i.d.toNat).toNat) = 1) ∧
      gPoison u k n i.d.toNat = gPoison s k n i.a.toNat ∧
      ctxState u k n = 1 ∧ CountsIssue s u k n ∧ IssueRegs s u k n (some i.d.toNat) [] ∧ OnlyTile s u k ∧
      { tile u k with p := (tile s k).p, issueTc := (tile s k).issueTc, ctx := (tile s k).ctx } = tile s k

/-- MUL and MULHU write no register when they issue: they leave the low or the high half of the product on its way to D, and an
instruction that reads D blocks under WHY 6. MUL_RESULT_READY takes the oldest such result into its register and tag, no earlier
than 3 tc after its issue, and leaves the others on their way. Rests on the model's choice of log entry 20. -/
def ProductReachesItsRegister : Prop :=
  (∀ (s : State) (t : TileId) (n : Fin 8) (i : TInsn) (c : Instr),
    (c, i.op) ∈ [(Instr.mul t n, TOp.mul), (.mulhu t n, .mulhu)] → Issues s t n i →
    let k := tileNo t
    let m : MulPend := { d := i.d.toNat, v := aluResult i.op (getG s k n i.a.toNat) (secondOperand s k n i),
                         poison := gPoison s k n i.a.toNat || (!i.flag 41 && gPoison s k n i.b.toNat), due := s.tc + 3 }
    ∃ u, exec c s = .next u ∧
      (ctxOf u k n).muls = ((ctxOf s k n).muls.filter fun x => x.d != m.d) ++ [m] ∧
      ctxState u k n = 1 ∧ CountsIssue s u k n ∧ IssueRegs s u k n none [] ∧ OnlyTile s u k ∧
      { tile u k with p := (tile s k).p, issueTc := (tile s k).issueTc, ctx := (tile s k).ctx } = tile s k ∧
      ∀ j : TInsn, m.d ∈ sources j → insnWhy u k n j = 6) ∧
  (∀ (s : State) (t : TileId) (n : Fin 8) (m : MulPend) (r : List MulPend), (ctxOf s (tileNo t) n).muls = m :: r → m.d < 16 →
    (∀ x ∈ r, x.d ≠ m.d) → clockOn s (tileNo t) = true →
    let k := tileNo t
    ∃ u, exec (.mulResultReady t n) s = .next u ∧
      getG u k n m.d = m.v ∧ gPoison u k n m.d = m.poison ∧ (ctxOf u k n).muls = r ∧
      (∀ j, j < 16 → j ≠ m.d → getG u k n j = getG s k n j ∧ gPoison u k n j = gPoison s k n j) ∧
      RegsKept s u [gAddr k n m.d, gpoiAddr k n] ∧ OnlyTileAt s u k m.due ∧
      { tile u k with ctx := (tile s k).ctx } = tile s k)

/-! ### Operand queues (R45, R61, R63) -/

/-- QPOP and QPEEK copy to D the first word of the head flit of queue Q that is not yet popped, with the flit's poison mark; QPOP
also removes that word, and the flit once its fourth word is popped, while QPEEK leaves the queue as it is. -/
def QueueWordIsRead : Prop :=
  ∀ (s : State) (t : TileId) (n : Fin 8) (i : TInsn) (f : Slot) (v : Flit) (r : List Slot),
    let k := tileNo t
    let q := i.fld 32 3
    Issues s t n i → queueOf s k q = f :: r → f.data = some v →
    (i.op = .qpop → ∃ u, exec (.qpop t n) s = .next u ∧
      getG u k n i.d.toNat = v.extractLsb' (64 * f.popped) 64 ∧ gPoison u k n i.d.toNat = f.poison ∧
      queueOf u k q = (if 3 ≤ f.popped then r else { f with popped := f.popped + 1 } :: r) ∧
      (∀ j, j ≠ q → queueOf u k j = queueOf s k j) ∧
      CountsIssue s u k n ∧ IssueRegs s u k n (some i.d.toNat) [] ∧ OnlyTile s u k ∧
      { tile u k with p := (tile s k).p, issueTc := (tile s k).issueTc, ctx := (tile s k).ctx, q := (tile s k).q,
                      msgBad := (tile s k).msgBad } = tile s k) ∧
    (i.op = .qpeek → ∃ u, exec (.qpeek t n) s = .next u ∧
      getG u k n i.d.toNat = v.extractLsb' (64 * f.popped) 64 ∧ gPoison u k n i.d.toNat = f.poison ∧
      CountsIssue s u k n ∧ IssueRegs s u k n (some i.d.toNat) [] ∧ OnlyTile s u k ∧
      { tile u k with p := (tile s k).p, issueTc := (tile s k).issueTc, ctx := (tile s k).ctx } = tile s k)

/-- QHDR copies TAG, LEN, CLASS and the poison-in-message bit of the message at the head of queue Q to D, that bit set too where a flit
of the message that the queue freed before carried poison, and leaves the queue as it is; QDROP discards its n head flits. Rests on
the model's choice of log entry 127. -/
def QueueHeadIsDescribedAndDropped : Prop :=
  (∀ (s : State) (t : TileId) (n : Fin 8) (i : TInsn) (f : Slot) (r : List Slot),
    let k := tileNo t
    let q := i.fld 32 3
    Issues s t n i → i.op = .qhdr → queueOf s k q = f :: r → f.msg = true → f.tag < 2 ^ 16 → f.len < 2 ^ 4 → f.cls < 2 ^ 2 →
    ∃ u, exec (.qhdr t n) s = .next u ∧
      bits (getG u k n i.d.toNat).toNat 0 16 = f.tag ∧ bits (getG u k n i.d.toNat).toNat 16 4 = f.len ∧
      bits (getG u k n i.d.toNat).toNat 20 2 = f.cls ∧ (getG u k n i.d.toNat).toNat / 2 ^ 23 = 0 ∧
      (f.poison = true → bit (getG u k n i.d.toNat).toNat 22 = true) ∧
      ((∀ x ∈ f :: r, x.poison = false) → bit (getG u k n i.d.toNat).toNat 22 = look false (tile s k).msgBad q) ∧
      gPoison u k n i.d.toNat = false ∧
      CountsIssue s u k n ∧ IssueRegs s u k n (some i.d.toNat) [] ∧ OnlyTile s u k ∧
      { tile u k with p := (tile s k).p, issueTc := (tile s k).issueTc, ctx := (tile s k).ctx } = tile s k) ∧
  (∀ (s : State) (t : TileId) (n : Fin 8) (i : TInsn),
    let k := tileNo t
    let q := i.fld 32 3
    Issues s t n i → i.op = .qdrop →
    ∃ u, exec (.qdrop t n) s = .next u ∧
      queueOf u k q = (queueOf s k q).drop (i.fld 0 9) ∧ (∀ j, j ≠ q → queueOf u k j = queueOf s k j) ∧
      CountsIssue s u k n ∧ IssueRegs s u k n none [] ∧ OnlyTile s u k ∧
      { tile u k with p := (tile s k).p, issueTc := (tile s k).issueTc, ctx := (tile s k).ctx, q := (tile s k).q,
                      msgBad := (tile s k).msgBad } = tile s k)

/-! ### Branches, loops, fences and beat control (R42, R46, R47, R56, R57) -/

/-- Whether a branch or jump of R46 is taken on A's value. -/
def branchTaken : TOp → Word → Bool
  | .beqz, a => decide (a = 0)
  | .bnez, a => decide (a ≠ 0)
  | .bltz, a => decide (a.toInt < 0)
  | .bgez, a => decide (0 ≤ a.toInt)
  | _, _ => true

/-- BR, BEQZ, BNEZ, BLTZ, BGEZ and JR, with A not poisoned: where the condition holds (always, for BR and JR) the PC becomes TARGET,
for JR A bits 8:0, the prefetch buffer is empty, and the context is blocked under WHY 6, its next issue 2 tc later than it would
otherwise be (no earlier than 3 tc after the branch); where it does not, and no loop body ends here, the PC becomes the next
position, mod 512. No general register, no other register but TSQ.CTX_STATE(n) and TSQ.ISSUE_CNT, and no memory changes. -/
def BranchGoesToItsTarget : Prop :=
  ∀ (s : State) (t : TileId) (n : Fin 8) (i : TInsn) (c : Instr),
    (c, i.op) ∈ [(Instr.br t n, TOp.br), (.beqz t n, .beqz), (.bnez t n, .bnez), (.bltz t n, .bltz), (.bgez t n, .bgez),
                 (.jr t n, .jr)] →
    Issues s t n i → (i.op = .br ∨ gPoison s (tileNo t) n i.a.toNat = false) →
    let k := tileNo t
    let a := getG s k n i.a.toNat
    ∃ u, exec c s = .next u ∧
      (branchTaken i.op a = true →
        pcOf u k n = (if i.op = .jr then a.toNat % 512 else i.low.toNat % 512) ∧ (ctxOf u k n).pre = [] ∧
          s.tc + 3 ≤ (ctxOf u k n).resume ∧ why u k n = 6 ∧
          ∀ x, x < s.tc + 3 → ready (waitTc u x) k n = false) ∧
      (branchTaken i.op a = false → (ctxOf s k n).loops = [] → pcOf u k n = (pcOf s k n + 1) % 512) ∧
      ctxState u k n = 1 ∧ CountsIssue s u k n ∧ IssueRegs s u k n none [] ∧ OnlyTile s u k ∧
      { tile u k with p := (tile s k).p, issueTc := (tile s k).issueTc, ctx := (tile s k).ctx } = tile s k

/-- CALL writes PC + 1 into g15, clean, and branches to TARGET, the prefetch buffer empty. -/
def CallWritesItsReturnPc : Prop :=
  ∀ (s : State) (t : TileId) (n : Fin 8) (i : TInsn), Issues s t n i → i.op = .call →
    let k := tileNo t
    ∃ u, exec (.call t n) s = .next u ∧
      getG u k n 15 = BitVec.ofNat 64 ((pcOf s k n + 1) % 512) ∧ gPoison u k n 15 = false ∧
      pcOf u k n = i.low.toNat % 512 ∧ (ctxOf u k n).pre = [] ∧
      ctxState u k n = 1 ∧ CountsIssue s u k n ∧ IssueRegs s u k n (some 15) [] ∧ OnlyTile s u k ∧
      { tile u k with p := (tile s k).p, issueTc := (tile s k).issueTc, ctx := (tile s k).ctx } = tile s k

/-- LOOP, its count IMM bits 31:16 or A bits 15:0: with fewer than four entries on the stack and a count above 0 it pushes (PC + 1,
END, count); with count 0 it pushes none and the PC becomes END + 1, the prefetch buffer empty (said of a LOOP that is not itself the END of the
body around it). A NOP that stands at the END of
the top entry takes the PC back to the entry's start and its count down by one while the count is above 1, and else pops the entry
and goes on; a NOP elsewhere goes on to the next position. STOP leaves the context IDLE with an empty loop stack. -/
def LoopsRepeatTheirBody : Prop :=
  ∀ (s : State) (t : TileId) (n : Fin 8) (i : TInsn), Issues s t n i →
    let k := tileNo t
    let l := (ctxOf s k n).loops
    let pc := pcOf s k n
    let fin := i.low.toNat % 512
    let count := if i.flag 41 then i.fld 16 16 else (getG s k n i.a.toNat).toNat % 65536
    (i.op = .loop → l.length < 4 → (i.flag 41 = true ∨ gPoison s k n i.a.toNat = false) → (∀ e ∈ l, e.fin ≠ pc) →
      ∃ u, exec (.loop t n) s = .next u ∧
        (0 < count → (ctxOf u k n).loops = ⟨(pc + 1) % 512, fin, count⟩ :: l ∧ pcOf u k n = (pc + 1) % 512) ∧
        (count = 0 → (ctxOf u k n).loops = l ∧ pcOf u k n = (fin + 1) % 512 ∧ (ctxOf u k n).pre = []) ∧
        ctxState u k n = 1 ∧ CountsIssue s u k n ∧ IssueRegs s u k n none [] ∧ OnlyTile s u k ∧
        { tile u k with p := (tile s k).p, issueTc := (tile s k).issueTc, ctx := (tile s k).ctx } = tile s k) ∧
    (i.op = .nop → ∃ u, exec (.nop t n) s = .next u ∧
        (∀ e r, l = e :: r → e.fin = pc → 1 < e.count →
          pcOf u k n = e.start % 512 ∧ (ctxOf u k n).loops = { e with count := e.count - 1 } :: r) ∧
        (∀ e r, l = e :: r → e.fin = pc → e.count ≤ 1 → pcOf u k n = (pc + 1) % 512 ∧ (ctxOf u k n).loops = r) ∧
        ((∀ e ∈ l, e.fin ≠ pc) → pcOf u k n = (pc + 1) % 512 ∧ (ctxOf u k n).loops = l) ∧
        ctxState u k n = 1 ∧ CountsIssue s u k n ∧ IssueRegs s u k n none [] ∧ OnlyTile s u k ∧
        { tile u k with p := (tile s k).p, issueTc := (tile s k).issueTc, ctx := (tile s k).ctx } = tile s k) ∧
    (i.op = .stop → ∃ u, exec (.stop t n) s = .next u ∧
        ctxState u k n = 0 ∧ (ctxOf u k n).loops = [] ∧
        CountsIssue s u k n ∧ IssueRegs s u k n none [] ∧ OnlyTile s u k ∧
        { tile u k with p := (tile s k).p, issueTc := (tile s k).issueTc, ctx := (tile s k).ctx } = tile s k)

/-- A fifth nested LOOP faults its context with condition 0x94: FAULT, the PC kept and copied to FPC, the code in FCODE, LOOP_OVF
set in TSQ.ERR, and no entry pushed. Rests on the model's choice of log entry 14. -/
def FifthNestedLoopFaults : Prop :=
  ∀ (s : State) (t : TileId) (n : Fin 8) (i : TInsn), Issues s t n i → i.op = .loop →
    let k := tileNo t
    4 ≤ (ctxOf s k n).loops.length → (i.flag 41 = true ∨ gPoison s k n i.a.toNat = false) →
    ∃ u, exec (.loop t n) s = .next u ∧
      ctxState u k n = 3 ∧ pcOf u k n = pcOf s k n ∧
      getF u (tileBase k) (F.TSQ_CTX_STATE_FPC.at (8 * n)) = pcOf s k n ∧
      getF u (tileBase k) (F.TSQ_CTX_STATE_FCODE.at (8 * n)) = 0x94 ∧
      getF u (tileBase k) F.TSQ_ERR_LOOP_OVF = 1 ∧ (ctxOf u k n).loops = (ctxOf s k n).loops ∧
      look 0 (tile u k).tokens 0x94 = look 0 (tile s k).tokens 0x94 + 1 ∧
      (∀ j, j < 16 → getG u k n j = getG s k n j) ∧ MemoryKept s u

/-- IFENCE with no store into the instruction buffer outstanding goes on with an empty prefetch buffer, no earlier than 3 tc after it; with stores outstanding it
holds its context until they are made (R42). RFENCE with no row move outstanding goes on; else it holds its context (R56).
No general register, no memory and no register but TSQ.CTX_STATE(n) and TSQ.ISSUE_CNT changes. Rests on the model's choice of log entry 15. -/
def FencesWait : Prop :=
  ∀ (s : State) (t : TileId) (n : Fin 8) (i : TInsn), Issues s t n i →
    let k := tileNo t
    (i.op = .ifence → ∃ u, exec (.ifence t n) s = .next u ∧
      ((tile s k).stores = [] → (ctxOf u k n).pre = [] ∧ (ctxOf u k n).hold = .none ∧ s.tc + 3 ≤ (ctxOf u k n).resume) ∧
      ((tile s k).stores ≠ [] → (ctxOf u k n).hold = .ifence (tile s k).stores ∧ why u k n = 4) ∧
      CountsIssue s u k n ∧ IssueRegs s u k n none [] ∧ OnlyTile s u k ∧
      { tile u k with p := (tile s k).p, issueTc := (tile s k).issueTc, ctx := (tile s k).ctx } = tile s k) ∧
    (i.op = .rfence → ∃ u, exec (.rfence t n) s = .next u ∧
      ((ctxOf s k n).rowsOut = 0 → (ctxOf u k n).hold = .none) ∧
      ((ctxOf s k n).rowsOut ≠ 0 → (ctxOf u k n).hold = .rfence ∧ why u k n = 4) ∧
      CountsIssue s u k n ∧ IssueRegs s u k n none [] ∧ OnlyTile s u k ∧
      { tile u k with p := (tile s k).p, issueTc := (tile s k).issueTc, ctx := (tile s k).ctx } = tile s k)

/-- BEATEND records its context as done for the beat of its parity, empties its loop stack and places it in DONE; the beat's phase
may pass to TAIL. YIELD holds its context until each other context that was ready has issued, and no longer than 8 tc; with no
other context ready it holds nothing (R57). Rests on the model's choice of log entry 15. -/
def BeatControl : Prop :=
  ∀ (s : State) (t : TileId) (n : Fin 8) (i : TInsn), Issues s t n i →
    let k := tileNo t
    (i.op = .beatend → ∃ u, exec (.beatend t n) s = .next u ∧
      look false (tile u k).ended (8 * bpOf s k n + n) = true ∧
      (∀ j, j ≠ 8 * bpOf s k n + n → look false (tile u k).ended j = look false (tile s k).ended j) ∧
      ctxState u k n = 2 ∧ (ctxOf u k n).loops = [] ∧
      CountsIssue s u k n ∧ IssueRegs s u k n none [tileBase k + 0x10] ∧ OnlyTile s u k ∧
      { tile u k with p := (tile s k).p, issueTc := (tile s k).issueTc, ctx := (tile s k).ctx, ended := (tile s k).ended } = tile s k) ∧
    (i.op = .yield → ∃ u, exec (.yield t n) s = .next u ∧
      (let l := (List.range 8).filter fun j => j != n.val && ready s k j
       if l = [] then (ctxOf u k n).hold = .none else (ctxOf u k n).hold = .yield l (s.tc + 8) ∧ why u k n = 7) ∧
      ctxState u k n = 1 ∧ CountsIssue s u k n ∧ IssueRegs s u k n none [] ∧ OnlyTile s u k ∧
      { tile u k with p := (tile s k).p, issueTc := (tile s k).issueTc, ctx := (tile s k).ctx } = tile s k)

/-- A poisoned register used as a branch condition, a jump target, a LOOP count, a row address or CSRW data raises 0x11: one more
token of it, POISON_USED set, the work of the context's parity in the cluster tainted, the engine's vote on the open step FAIL; and
the instruction is executed and counted as issued all the same (R38). A conditional branch goes where its value says. -/
def PoisonedUseIsReported : Prop :=
  ∀ (s : State) (t : TileId) (n : Fin 8) (i : TInsn) (c : Instr) (x : Nat),
    (c, i.op, x) ∈ [(Instr.beqz t n, TOp.beqz, i.a.toNat), (.bnez t n, .bnez, i.a.toNat), (.bltz t n, .bltz, i.a.toNat),
      (.bgez t n, .bgez, i.a.toNat), (.jr t n, .jr, i.a.toNat), (.rldq t n, .rldq, i.a.toNat), (.rstq t n, .rstq, i.a.toNat),
      (.rldg t n, .rldg, i.a.toNat), (.rstg t n, .rstg, i.a.toNat), (.rzero t n, .rzero, i.a.toNat),
      (.ifill t n, .ifill, i.a.toNat), (.csrw t n, .csrw, i.b.toNat)] →
    Issues s t n i → gPoison s (tileNo t) n x = true →
    let k := tileNo t
    ∃ u, exec c s = .next u ∧
      look 0 (tile u k).tokens 0x11 = look 0 (tile s k).tokens 0x11 + 1 ∧ getF u (tileBase k) F.TSQ_ERR_POISON_USED = 1 ∧
      look false (cluster u (tileCluster k)).taint (bpOf s k n) = true ∧ u.stepFail = true ∧
      (i.op ∈ [TOp.beqz, .bnez, .bltz, .bgez] → branchTaken i.op (getG s k n x) = true → pcOf u k n = i.low.toNat % 512) ∧
      (i.op = .jr → pcOf u k n = (getG s k n x).toNat % 512) ∧
      CountsIssue s u k n ∧ MemoryKept s u ∧ OtherTilesKept s u k

/-- An instruction that R43 calls illegal faults its context with condition 0x90, and one fetched with wrong parity faults it with
0x96, whichever tile instruction's step it is: FAULT, FPC the PC, the code in FCODE, its bit set in TSQ.ERR, one more token of the
code; nothing is counted as issued. A parity fault also taints the cluster's beat (R226). -/
def BadInstructionFaultsItsContext : Prop :=
  ∀ (s : State) (t : TileId) (n : Fin 8) (c : Instr),
    (c ∈ [Instr.add t n, .mul t n, .qpop t n, .br t n, .loop t n, .nop t n, .arm t n, .wait t n, .rldq t n, .rstg t n, .sendq t n,
          .liss t n, .vadd t n, .scvt t n, .csrr t n, .csrw t n, .rfence t n, .beatend t n]) →
    let k := tileNo t
    issuer s k = some n.val → ((fetch s k n).bad = true ∨ TInsn.ofWord (fetch s k n).insn = none) →
    let code := if (fetch s k n).bad then 0x96 else 0x90
    ∃ u, exec c s = .next u ∧
      ctxState u k n = 3 ∧ pcOf u k n = pcOf s k n ∧
      getF u (tileBase k) (F.TSQ_CTX_STATE_FPC.at (8 * n)) = pcOf s k n ∧
      getF u (tileBase k) (F.TSQ_CTX_STATE_FCODE.at (8 * n)) = code ∧
      (if code = 0x96 then getF u (tileBase k) F.TSQ_ERR_IB_PARITY = 1 else getF u (tileBase k) F.TSQ_ERR_ILLEGAL = 1) ∧
      look 0 (tile u k).tokens code = look 0 (tile s k).tokens code + 1 ∧
      (code = 0x96 → look false (cluster u (tileCluster k)).taint (bpOf s k n) = true ∧ u.stepFail = true) ∧
      getF u (tileBase k) F.TSQ_ISSUE_CNT_ISSUED = getF s (tileBase k) F.TSQ_ISSUE_CNT_ISSUED ∧
      (∀ j, j < 16 → getG u k n j = getG s k n j ∧ gPoison u k n j = gPoison s k n j) ∧ MemoryKept s u

/-! ### Event counters (R48, R58, R59) -/

/-- Address of TSQ.CTR(c). -/
def ctrAddr (k c : Nat) : Nat := tileBase k + 0x100 + 8 * c

/-- ARM sets THRESH to IMM, CTX to bits 18:16 and ARMED; DISARM clears ARMED; SIGNAL adds IMM events to what reaches its counter
in this tc; CTRRD copies COUNT to D, clean. -/
def CounterInstructions : Prop :=
  ∀ (s : State) (t : TileId) (n : Fin 8) (i : TInsn), Issues s t n i →
    let k := tileNo t
    let b := tileBase k
    let c := i.fld 32 4
    (i.op = .arm → ∃ u, exec (.arm t n) s = .next u ∧
      getF u b (ctrF F.TSQ_CTR_THRESH c) = i.low.toNat % 65536 ∧ getF u b (ctrF F.TSQ_CTR_CTX c) = i.low.toNat / 65536 % 8 ∧
      getF u b (ctrF F.TSQ_CTR_ARMED c) = 1 ∧ getF u b (ctrF F.TSQ_CTR_COUNT c) = getF s b (ctrF F.TSQ_CTR_COUNT c) ∧
      getF u b (ctrF F.TSQ_CTR_OVF c) = getF s b (ctrF F.TSQ_CTR_OVF c) ∧
      CountsIssue s u k n ∧ IssueRegs s u k n none [ctrAddr k c] ∧ OnlyTile s u k ∧
      { tile u k with p := (tile s k).p, issueTc := (tile s k).issueTc, ctx := (tile s k).ctx } = tile s k) ∧
    (i.op = .disarm → ∃ u, exec (.disarm t n) s = .next u ∧
      getF u b (ctrF F.TSQ_CTR_ARMED c) = 0 ∧ getF u b (ctrF F.TSQ_CTR_COUNT c) = getF s b (ctrF F.TSQ_CTR_COUNT c) ∧
      getF u b (ctrF F.TSQ_CTR_THRESH c) = getF s b (ctrF F.TSQ_CTR_THRESH c) ∧
      CountsIssue s u k n ∧ IssueRegs s u k n none [ctrAddr k c] ∧ OnlyTile s u k ∧
      { tile u k with p := (tile s k).p, issueTc := (tile s k).issueTc, ctx := (tile s k).ctx } = tile s k) ∧
    (i.op = .signal → ∃ u, exec (.signal t n) s = .next u ∧
      look 0 (tile u k).arrivals c = look 0 (tile s k).arrivals c + i.low.toNat % 65536 ∧
      (∀ j, j ≠ c → look 0 (tile u k).arrivals j = look 0 (tile s k).arrivals j) ∧
      CountsIssue s u k n ∧ IssueRegs s u k n none [] ∧ OnlyTile s u k ∧
      { tile u k with p := (tile s k).p, issueTc := (tile s k).issueTc, ctx := (tile s k).ctx, arrivals := (tile s k).arrivals } = tile s k) ∧
    (i.op = .ctrrd → ∃ u, exec (.ctrrd t n) s = .next u ∧
      getG u k n i.d.toNat = BitVec.ofNat 64 (getF s b (ctrF F.TSQ_CTR_COUNT c)) ∧ gPoison u k n i.d.toNat = false ∧
      CountsIssue s u k n ∧ IssueRegs s u k n (some i.d.toNat) [] ∧ OnlyTile s u k ∧
      { tile u k with p := (tile s k).p, issueTc := (tile s k).issueTc, ctx := (tile s k).ctx } = tile s k)

/-- WAIT takes its amount off COUNT where COUNT covers it, and goes on; else it holds its context under WHY 3. Rests on the model's choice of log entry 15. -/
def WaitTakesItsAmount : Prop :=
  ∀ (s : State) (t : TileId) (n : Fin 8) (i : TInsn), Issues s t n i → i.op = .wait →
    let k := tileNo t
    let b := tileBase k
    let c := i.fld 32 4
    let v := i.low.toNat % 65536
    ∃ u, exec (.wait t n) s = .next u ∧
      (if v ≤ getF s b (ctrF F.TSQ_CTR_COUNT c) then
         getF u b (ctrF F.TSQ_CTR_COUNT c) = getF s b (ctrF F.TSQ_CTR_COUNT c) - v ∧ (ctxOf u k n).hold = .none
       else getF u b (ctrF F.TSQ_CTR_COUNT c) = getF s b (ctrF F.TSQ_CTR_COUNT c) ∧
         (ctxOf u k n).hold = .wait c v ∧ why u k n = 3) ∧
      getF u b (ctrF F.TSQ_CTR_ARMED c) = getF s b (ctrF F.TSQ_CTR_ARMED c) ∧
      CountsIssue s u k n ∧ IssueRegs s u k n none [ctrAddr k c] ∧ OnlyTile s u k ∧
      { tile u k with p := (tile s k).p, issueTc := (tile s k).issueTc, ctx := (tile s k).ctx } = tile s k

/-- A tc of a counter without a level source, of a LIVE or FROZEN tile in which no WAIT is blocked: the events that arrived are
added to COUNT, which stops at 0xFFFF; where it would pass it OVF is set, and 0x91 reported once, when OVF changes. In a LIVE
tile an armed counter whose count then reaches THRESH, and whose context is IDLE or DONE, loses THRESH and starts the context at its
ENTRY with the tile's parity. Rests on the model's choice of log entry 22. -/
def CounterCountsItsEvents : Prop :=
  ∀ (s : State) (t : TileId) (c : Fin 16),
    let k := tileNo t
    let b := tileBase k
    let e := look 0 (tile s k).arrivals c
    let count := getF s b (ctrF F.TSQ_CTR_COUNT c)
    let now := min 0xFFFF (count + e)
    let n := getF s b (ctrF F.TSQ_CTR_CTX c)
    let th := getF s b (ctrF F.TSQ_CTR_THRESH c)
    (life s k = .live ∨ life s k = .frozen) → clockOn s k = true → levelSample s k c = none → (∀ j, j < 8 → ∀ x v, (ctxOf s k j).hold ≠ .wait x v) →
    let starts := life s k = .live ∧ getF s b (ctrF F.TSQ_CTR_ARMED c) = 1 ∧ th ≤ now ∧ (ctxState s k n = 0 ∨ ctxState s k n = 2)
    ∃ u, exec (.counterEvent t c) s = .next u ∧
      look 0 (tile u k).arrivals c = 0 ∧
      (0xFFFF < count + e → getF u b (ctrF F.TSQ_CTR_OVF c) = 1) ∧
      look 0 (tile u k).tokens 0x91 = look 0 (tile s k).tokens 0x91 +
        (if 0xFFFF < count + e ∧ getF s b (ctrF F.TSQ_CTR_OVF c) = 0 then 1 else 0) ∧
      (starts → getF u b (ctrF F.TSQ_CTR_COUNT c) = now - th ∧ ctxState u k n = 1 ∧
        pcOf u k n = getF s b (F.TSQ_CTX_CTL_ENTRY.at (8 * n)) ∧ bpOf u k n = getF s b F.TSQ_BEAT_PARITY ∧
        s.tc + 1 ≤ (ctxOf u k n).resume) ∧
      (¬starts → getF u b (ctrF F.TSQ_CTR_COUNT c) = now ∧ ∀ j, j < 8 → rd u (ctxStateAddr k j) = rd s (ctxStateAddr k j)) ∧
      getF u b (ctrF F.TSQ_CTR_ARMED c) = getF s b (ctrF F.TSQ_CTR_ARMED c) ∧
      (∀ j i, j < 8 → i < 16 → getG u k j i = getG s k j i) ∧ MemoryKept s u ∧ OtherTilesKept s u k

/-! ### Row moves and sends (R49 to R51, R170) -/

/-- The effective row address in register `x`: (A + PP * STRIDE * BP) mod 8,192 (R49). -/
def moveAddr (s : State) (k n : Nat) (i : TInsn) (x : Nat) : Nat :=
  ((getG s k n x).toNat + (if i.flag 39 then getF s (tileBase k) F.TSQ_PP_STRIDE * bpOf s k n else 0)) % 8192

/-- The whole flits at the head of a queue: a partly popped flit is passed over (R63). -/
def wholeFlits (s : State) (k q : Nat) : List Slot := (queueOf s k q).dropWhile fun f => f.popped != 0

/-- What a row move asks of the crossbar (Table 02.5); `id` is the tile's next number. -/
def moveKind (s : State) (k n : Nat) (i : TInsn) : XKind :=
  let q := i.fld 32 3
  let bp := bpOf s k n
  let id := (tile s k).nextId
  match i.op with
  | .rldq => .read (.rldq n q id bp)
  | .rstq => .write (rowOfFlits (((wholeFlits s k q).take 16).map fun f => f.data.getD 0))
      (((wholeFlits s k q).take 16).any fun f => f.poison) (.store n bp)
  | .rldg => .read (.rldg n i.d.toNat (i.low.toNat % 64) bp)
  | .rstg => .part (i.low.toNat % 64) (getG s k n i.b.toNat) (gPoison s k n i.b.toNat) (.store n bp)
  | .rcpy => .read (.rcpy n (moveAddr s k n i i.b.toNat) bp)
  | .rzero => .write 0 false (.store n bp)
  | _ => .read (.ifill n (i.low.toNat % 8) id)

/-- RLDQ, RSTQ, RLDG, RSTG, RCPY, RZERO and IFILL, their address registers clean: one request with the effective row address joins
the sequencer's requests, to be presented from the next tc on, and counts as outstanding, a store also as one of its parity; RLDQ reserves 16 flits of Q, RSTQ frees the 16
it stores, RLDG and RSTG hold their context (WHY 4), IFILL is a store an IFENCE waits for; A is one more where PI is 1, and every other general register,
queue, register and byte of memory is as before (the row itself is read or written when its slice grants the request). Rests on the model's choice of log entry 11. -/
def RowMovesAskForTheirRow : Prop :=
  ∀ (s : State) (t : TileId) (n : Fin 8) (i : TInsn) (c : Instr),
    (c, i.op) ∈ [(Instr.rldq t n, TOp.rldq), (.rstq t n, .rstq), (.rldg t n, .rldg), (.rstg t n, .rstg), (.rcpy t n, .rcpy),
                 (.rzero t n, .rzero), (.ifill t n, .ifill)] →
    Issues s t n i →
    let k := tileNo t
    let q := i.fld 32 3
    let a := i.a.toNat
    let bp := bpOf s k n
    let id := (tile s k).nextId
    gPoison s k n a = false → (i.op = .rcpy → gPoison s k n i.b.toNat = false) →
    ∃ u, exec c s = .next u ∧
      reqsOf u k 0 = reqsOf s k 0 ++ [{ row := moveAddr s k n i a, kind := moveKind s k n i, bp, from_ := s.tc + 1 }] ∧
      (∀ r, r ≠ 0 → reqsOf u k r = reqsOf s k r) ∧
      (ctxOf u k n).rowsOut = (ctxOf s k n).rowsOut + 1 ∧
      queueOf u k q = (if i.op = .rldq then queueOf s k q ++ (List.range 16).map fun j => { id := id + j }
        else if i.op = .rstq then (wholeFlits s k q).drop 16 else queueOf s k q) ∧
      (∀ j, j ≠ q → queueOf u k j = queueOf s k j) ∧
      look 0 (tile u k).storesOut (8 * bp + n) = look 0 (tile s k).storesOut (8 * bp + n) +
        (if i.op ∈ [TOp.rstq, .rstg, .rcpy, .rzero] then 1 else 0) ∧
      (tile u k).stores = (tile s k).stores ++ (if i.op = .ifill then [id] else []) ∧
      (ctxOf u k n).hold = (if i.op ∈ [TOp.rldg, .rstg] then .row else .none) ∧
      getG u k n a = (if i.flag 40 then getG s k n a + 1 else getG s k n a) ∧ gPoison u k n a = false ∧
      CountsIssue s u k n ∧ IssueRegs s u k n (some a) [] ∧ OnlyTile s u k

/-- SENDQ, SENDROW and SENDG with a destination that R170 allows and clean registers for it: the send joins the send queue behind the
others, with its destination, rectangle, PORT, TAG, LEN and CLASS, its context and parity; SENDROW also asks for the row D addresses,
and D is one more where PI is 1; SENDG takes its flit from g(D)..g(D+3), with their poison marks. Rests on the model's choice of log entry 19. -/
def SendsJoinTheSendQueue : Prop :=
  ∀ (s : State) (t : TileId) (n : Fin 8) (i : TInsn) (c : Instr) (kind : Nat),
    (c, i.op, kind) ∈ [(Instr.sendq t n, TOp.sendq, 0), (.sendrow t n, .sendrow, 1), (.sendg t n, .sendg, 2)] →
    Issues s t n i →
    let k := tileNo t
    let d := i.d.toNat
    let dest := (getG s k n i.a.toNat).toNat % 2 ^ 23
    let cls := i.fld 10 2
    let id := (tile s k).nextId
    gPoison s k n i.a.toNat = false → (cls = 1 → gPoison s k n i.b.toNat = false) → (i.op = .sendrow → gPoison s k n d = false) →
    destOk cls dest (getG s k n i.b.toNat) = true →
    ∃ u, exec c s = .next u ∧
      (tile u k).sendq = (tile s k).sendq ++
        [{ id, n, bp := bpOf s k n, dest, rect := if cls = 1 then some (getG s k n i.b.toNat).toNat else none, port := i.fld 32 4,
           tag := i.fld 16 16, len := i.fld 12 4, cls, kind, srcQ := i.fld 0 3,
           payload := if i.op = .sendg then
               [(getG s k n (d + 3) ++ getG s k n (d + 2) ++ getG s k n (d + 1) ++ getG s k n d,
                 gPoison s k n d || gPoison s k n (d + 1) || gPoison s k n (d + 2) || gPoison s k n (d + 3))]
             else [] }] ∧
      (if i.op = .sendrow then
         reqsOf u k 0 = reqsOf s k 0 ++ [{ row := moveAddr s k n i d, kind := .read (.sendrow n id), bp := bpOf s k n,
                                             from_ := s.tc + 1 }] ∧
         (ctxOf u k n).rowsOut = (ctxOf s k n).rowsOut + 1 ∧
         getG u k n d = (if i.flag 40 then getG s k n d + 1 else getG s k n d)
       else (tile u k).reqs = (tile s k).reqs ∧ getG u k n d = getG s k n d) ∧
      gPoison u k n d = gPoison s k n d ∧
      CountsIssue s u k n ∧ IssueRegs s u k n (some d) [] ∧ OnlyTile s u k

/-- A send whose destination or rectangle R170 does not allow, its registers clean, faults its context with 0xE1 and sends nothing. -/
def BadDestinationFaultsTheSend : Prop :=
  ∀ (s : State) (t : TileId) (n : Fin 8) (i : TInsn) (c : Instr),
    (c, i.op) ∈ [(Instr.sendq t n, TOp.sendq), (.sendrow t n, .sendrow), (.sendg t n, .sendg)] →
    Issues s t n i →
    let k := tileNo t
    let cls := i.fld 10 2
    gPoison s k n i.a.toNat = false → (cls = 1 → gPoison s k n i.b.toNat = false) → (i.op = .sendrow → gPoison s k n i.d.toNat = false) →
    destOk cls ((getG s k n i.a.toNat).toNat % 2 ^ 23) (getG s k n i.b.toNat) = false →
    ∃ u, exec c s = .next u ∧
      ctxState u k n = 3 ∧ getF u (tileBase k) (F.TSQ_CTX_STATE_FPC.at (8 * n)) = pcOf s k n ∧
      getF u (tileBase k) (F.TSQ_CTX_STATE_FCODE.at (8 * n)) = 0xE1 ∧ getF u (tileBase k) F.MSH_ERR_BAD_DEST = 1 ∧
      (tile u k).sendq = (tile s k).sendq ∧ (tile u k).reqs = (tile s k).reqs ∧
      look 0 (tile u k).tokens 0xE1 = look 0 (tile s k).tokens 0xE1 + 1 ∧
      (∀ j, j < 16 → getG u k n j = getG s k n j) ∧ MemoryKept s u

/-! ### Vector, lattice and sparse instructions as they issue (R52, R53, R81, R130) -/

/-- A broadcast operand: bits 31:0 of the general register a selector 0b1xxxx names, with its tag, as it stands at issue. -/
def broadcastOf (s : State) (k n x : Nat) : BitVec 32 × Bool :=
  if 16 ≤ x then ((getG s k n (x - 16)).extractLsb' 0 32, gPoison s k n (x - 16)) else (0, false)

/-- The fifteen vector instructions: each joins the vector unit's issue queue with the fields of Table 02.6 and the broadcast operands
as they stand, and changes no register, queue or memory. Rests on the model's choice of log entry 17. -/
def VectorInstructionsJoinTheirQueue : Prop :=
  ∀ (s : State) (t : TileId) (n : Fin 8) (i : TInsn) (c : Instr) (op : Nat),
    (c, i.op, op) ∈ [(Instr.vadd t n, TOp.vadd, 0), (.vsub t n, .vsub, 1), (.vmul t n, .vmul, 2), (.vfma t n, .vfma, 3),
      (.vmax t n, .vmax, 4), (.vmin t n, .vmin, 5), (.vmov t n, .vmov, 6), (.vrcp t n, .vrcp, 7), (.vrsq t n, .vrsq, 8),
      (.vexp2 t n, .vexp2, 9), (.vlog2 t n, .vlog2, 10), (.vcvt t n, .vcvt, 11), (.vrsum t n, .vrsum, 12),
      (.vrmax t n, .vrmax, 13), (.viadd t n, .viadd, 14)] →
    Issues s t n i →
    let k := tileNo t
    ∃ u, exec c s = .next u ∧
      (tile u k).vq = (tile s k).vq ++
        [{ n, op, vd := i.d.toNat, fmt := i.fld 36 4, dir := i.flag 35, rep := i.fld 32 3, sa := i.fld 25 5, sb := i.fld 20 5,
           sc := i.fld 15 5, dq := i.flag 14,
           g := [broadcastOf s k n (i.fld 25 5), broadcastOf s k n (i.fld 20 5), broadcastOf s k n (i.fld 15 5)], issued := s.tc }] ∧
      CountsIssue s u k n ∧ IssueRegs s u k n none [] ∧ OnlyTile s u k ∧
      { tile u k with p := (tile s k).p, issueTc := (tile s k).issueTc, ctx := (tile s k).ctx, vq := (tile s k).vq } = tile s k

/-- LWLD, LISS and LDRAIN that pass R81's checks, their address registers clean: each joins the lattice's issue queue with the two words
of its descriptor as they stand and the row addresses formed from A and B. One that fails a range or validity check of R81, the zero
field of Table 03.3 kept, faults its context with 0xA0 and joins no queue. Rests on the model's choice of log entry 132. -/
def LatticeInstructionsJoinTheirQueue : Prop :=
  ∀ (s : State) (t : TileId) (n : Fin 8) (i : TInsn) (c : Instr) (op : Nat),
    (c, i.op, op) ∈ [(Instr.liss t n, TOp.liss, 0), (.lwld t n, .lwld, 1), (.ldrain t n, .ldrain, 2)] →
    Issues s t n i →
    let k := tileNo t
    let b := tileBase k
    let x := i.low.toNat % 256
    let lo := rd s (b + 0x1400 + 16 * (x % 64))
    let hi := rd s (b + 0x1408 + 16 * (x % 64))
    (x < 64 → dV lo = true → latticeZero i.op i lo = true) →
    (latticeOk i.op i lo = true → (i.op = .ldrain ∨ gPoison s k n i.a.toNat = false) →
      ((i.op = .liss ∧ isMulti lo = false) ∨ gPoison s k n i.b.toNat = false) → ∃ u, exec c s = .next u ∧
      (tile u k).lat.queue = (tile s k).lat.queue ++
        [{ id := (tile s k).nextId, op, n, bp := bpOf s k n, a := moveAddr s k n i i.a.toNat, b := moveAddr s k n i i.b.toNat,
           aq := i.flag 41, ce := i.flag 36, c := i.fld 32 4, acc0 := i.fld 24 7, bank := i.fld 23 1, set := i.fld 22 1,
           part := i.fld 19 3, qn := i.fld 16 3, lane := i.fld 14 2, descNo := x, lo, hi, issued := s.tc }] ∧
      { (tile u k).lat with queue := (tile s k).lat.queue } = (tile s k).lat ∧
      CountsIssue s u k n ∧ IssueRegs s u k n none [] ∧ OnlyTile s u k) ∧
    (latticeOk i.op i lo = false → ∃ u, exec c s = .next u ∧
      ctxState u k n = 3 ∧ getF u b (F.TSQ_CTX_STATE_FCODE.at (8 * n)) = 0xA0 ∧ getF u b F.LAT_ERR_ILLEGAL = 1 ∧
      (tile u k).lat = (tile s k).lat ∧ look 0 (tile u k).tokens 0xA0 = look 0 (tile s k).tokens 0xA0 + 1 ∧ MemoryKept s u)

/-- SCVT, SMATCH, STOPK, SFETCH and SVERIFY with a valid descriptor that R130 calls legal for the operation and clean registers: each
joins the sparse unit's issue queue with its descriptor as it stands and the row addresses formed from A, B and D. With a descriptor
that is not valid, or that R130 calls illegal for the operation, the context faults with 0xC2 and nothing joins the queue. Rests on the model's choice of log entry 38. -/
def SparseInstructionsJoinTheirQueue : Prop :=
  ∀ (s : State) (t : TileId) (n : Fin 8) (i : TInsn) (c : Instr) (op : Nat),
    (c, i.op, op) ∈ [(Instr.scvt t n, TOp.scvt, 0), (.smatch t n, .smatch, 1), (.stopk t n, .stopk, 2), (.sfetch t n, .sfetch, 3),
      (.sverify t n, .sverify, 4)] →
    Issues s t n i →
    let k := tileNo t
    let b := tileBase k
    let x := i.low.toNat % 256
    let d := rd s (b + 0x2400 + 8 * (x % 32))
    (x < 32 → bit d 63 = true → spuLegal op d = true → spuPartOk op d (i.fld 19 3) = true → (dUnused op d = true → i.d = 0) →
      (op = 3 → zMove d = false → i.fld 16 3 = 0) →
      gPoison s k n i.a.toNat = false → (op ≠ 0 → gPoison s k n i.b.toNat = false) →
      (dUnused op d = false → gPoison s k n i.d.toNat = false) →
      ∃ u, exec c s = .next u ∧
        (tile u k).spu.queue = (tile s k).spu.queue ++
          [{ op, n, bp := bpOf s k n, a := moveAddr s k n i i.a.toNat, b := moveAddr s k n i i.b.toNat,
             d := moveAddr s k n i i.d.toNat, ce := i.flag 36, c := i.fld 32 4, part := i.fld 19 3, qn := i.fld 16 3, descNo := x,
             desc := d }] ∧
        (tile u k).spu.cur = (tile s k).spu.cur ∧
        CountsIssue s u k n ∧ IssueRegs s u k n none [] ∧ OnlyTile s u k) ∧
    ((32 ≤ x ∨ bit d 63 = false ∨ spuLegal op d = false ∨ spuPartOk op d (i.fld 19 3) = false ∨ (dUnused op d = true ∧ i.d ≠ 0)) →
      ∃ u, exec c s = .next u ∧
      ctxState u k n = 3 ∧ getF u b (F.TSQ_CTX_STATE_FCODE.at (8 * n)) = 0xC2 ∧ getF u b F.SPU_ERR_ILLEGAL = 1 ∧
      (tile u k).spu = (tile s k).spu ∧ look 0 (tile u k).tokens 0xC2 = look 0 (tile s k).tokens 0xC2 + 1 ∧ MemoryKept s u)

/-! ### The vector unit (R53, R54) -/

/-- VECTOR_BEGIN takes the head instruction of the issue queue, with nothing running and its operands and room there, and runs its
first repetition; VECTOR_REPETITION runs the next one of the running instruction. Each puts one result on its way: to register VD,
one further, mod 8, per repetition, or to two flits of queue VD that it reserves; poisoned when an operand is, and due at the latency
of Table 02.7. A repetition runs no earlier than 1 tc after the one before it, and the first no earlier than 1 tc after its issue. Of VIADD and VMOV with
register operands each lane is the lane's sum mod 2^32, or the lane unchanged. Rests on the model's choice of log entry 17. -/
def VectorRepetitionsRun : Prop :=
  ∀ (s : State) (t : TileId) (c : Instr) (i : VInsn) (j : Nat),
    let k := tileNo t
    ((c = .vectorBegin t ∧ (tile s k).vrun = none ∧ (tile s k).vq.head? = some i ∧ j = 0) ∨
      (c = .vectorRepetition t ∧ (tile s k).vrun = some (i, j))) →
    clockOn s k = true → repReady s k i j = true →
    let first := if c = .vectorBegin t then max (tile s k).vecTc (i.issued + 1) else (tile s k).vecTc
    let a := look 0 (tile s k).vreg ((i.sa + j) % 8)
    let b := look 0 (tile s k).vreg ((i.sb + j) % 8)
    ∃ u e, exec c s = .next u ∧
      (tile u k).vq = (if c = .vectorBegin t then (tile s k).vq.tail else (tile s k).vq) ∧
      (tile u k).vrun = (if j < i.rep then some (i, j + 1) else none) ∧
      (tile u k).vres = (tile s k).vres ++ [e] ∧ e.toQ = i.dq ∧ e.dst = (if i.dq then i.vd else (i.vd + j) % 8) ∧
      e.due = u.tc + (if i.op ∈ [7, 8, 9, 10] then 8 else if i.op ∈ [12, 13] then 6 else 4) ∧ (tile u k).vecTc = u.tc + 1 ∧
      (i.dq = true → ∃ x l, e.ids = [x, x + 1] ∧ queueOf u k i.vd = l ++ [{ id := x }, { id := x + 1 }]) ∧
      (i.op = 6 → i.sa < 8 → e.v = a ∧ e.poison = look false (tile s k).vpoison ((i.sa + j) % 8)) ∧
      (i.op = 14 → i.sa < 8 → i.sb < 8 →
        (∀ l, l < 16 → e.v.extractLsb' (32 * l) 32 = a.extractLsb' (32 * l) 32 + b.extractLsb' (32 * l) 32) ∧
        e.poison = (look false (tile s k).vpoison ((i.sa + j) % 8) || look false (tile s k).vpoison ((i.sb + j) % 8))) ∧
      (tile u k).vreg = (tile s k).vreg ∧ RegsKept s u [] ∧ OnlyTileAt s u k first

/-- VECTOR_WRITEBACK takes the result on its way that is due first, the oldest of those, no earlier than it is due: into its register with its poison mark, every other vector register as before,
or into the two flits it reserved, with the mark. Rests on the model's choice of log entry 18. -/
def VectorResultIsWrittenBack : Prop :=
  ∀ (s : State) (t : TileId) (e : VRes) (l r : List VRes),
    let k := tileNo t
    (tile s k).vres = l ++ e :: r → (∀ x ∈ l, e.due < x.due) → (∀ x ∈ r, e.due ≤ x.due) → clockOn s k = true →
    e.flush = false → e.invalid = false → e.overflow = false → e.cvtNan = false → e.sat = 0 →
    ∃ u, exec (.vectorWriteback t) s = .next u ∧
      (tile u k).vres = l ++ r ∧
      (e.toQ = false → look 0 (tile u k).vreg e.dst = e.v ∧ look false (tile u k).vpoison e.dst = e.poison ∧
        (∀ j, j ≠ e.dst → look 0 (tile u k).vreg j = look 0 (tile s k).vreg j ∧
          look false (tile u k).vpoison j = look false (tile s k).vpoison j) ∧ (tile u k).q = (tile s k).q) ∧
      (∀ x y, e.toQ = true → e.ids = [x, y] → x ≠ y → queueOf u k e.dst = (queueOf s k e.dst).map fun f =>
        if f.id = x ∧ f.data = none then { f with data := some (e.v.extractLsb' 0 256), poison := e.poison, at_ := u.tc }
        else if f.id = y ∧ f.data = none then { f with data := some (e.v.extractLsb' 256 256), poison := e.poison, at_ := u.tc } else f) ∧
      (e.toQ = true → (tile u k).vreg = (tile s k).vreg ∧ ∀ j, j ≠ e.dst → queueOf u k j = queueOf s k j) ∧
      RegsKept s u [] ∧ OnlyTileAt s u k e.due

/-! ### Writes of tile and cluster registers that do something -/

/-- IFILL_GO stores NROWS, SLOT and BASE and, with GO while no fill runs and 1 to 8 rows, sets BUSY and asks for NROWS rows from BASE up
(R40); with BUSY set, GO asks for nothing. -/
def IfillGoAsksForItsRows : Prop :=
  ∀ (s : State) (t : TileId) (v : Word),
    let k := tileNo t
    let b := tileBase k
    let n := v.toNat / 2 ^ 26 % 16
    let base := v.toNat % 8192
    ∃ u, exec (.ifillGo t v) s = .next u ∧
      getF u b F.TSQ_IFILL_NROWS = n ∧ getF u b F.TSQ_IFILL_SLOT = v.toNat / 2 ^ 13 % 8 ∧ getF u b F.TSQ_IFILL_BASE = base ∧
      (v.getLsbD 30 = true → getF s b F.TSQ_IFILL_BUSY = 0 → 1 ≤ n → n ≤ 8 →
        getF u b F.TSQ_IFILL_BUSY = 1 ∧
        reqsOf u k 0 = reqsOf s k 0 ++
          (List.range n).map fun j => { row := (base + j) % 8192, kind := .read (.fill j), bp := getF s b F.TSQ_BEAT_PARITY,
                                           from_ := s.tc + 1 }) ∧
      ((v.getLsbD 30 = false ∨ getF s b F.TSQ_IFILL_BUSY = 1) → reqsOf u k 0 = reqsOf s k 0) ∧
      (∀ r, r ≠ 0 → reqsOf u k r = reqsOf s k r) ∧ RegsKept s u [b + 0x28] ∧ OnlyTile s u k

/-- IFILL_ROW_WRITE of a clean row puts its next 8 instructions into their positions, their parity good, and leaves every other position
of the buffer as it is; no earlier than the tc after the last 8. The eighth such write of a row ends it: a row-move IFILL's store
is made, and the last row of a fill by TSQ.IFILL clears BUSY. A position that an IB_DATA write of this tc has reached keeps that
write (said here where there is none). Rests on the model's choice of log entry 24. -/
def FilledRowEntersTheBuffer : Prop :=
  ∀ (s : State) (t : TileId) (f : FillRow) (r : List FillRow),
    let k := tileNo t
    (tile s k).fills = f :: r → f.poison = false → f.slot < 8 → f.done ∈ [0, 8, 16, 24, 32, 40, 48, 56] → clockOn s k = true →
    (tile s k).ibWrote = [] →
    let first := 64 * f.slot + f.done
    ∃ u, exec (.ifillRowWrite t) s = .next u ∧
      (tile u k).fills = (if f.done = 56 then r else { f with done := f.done + 8 } :: r) ∧
      (∀ j, j < 8 → look {} (tile u k).ib (first + j) = { insn := f.row.extractLsb' (64 * (f.done + j)) 64, bad := false }) ∧
      (∀ pc, pc < first ∨ first + 8 ≤ pc → look {} (tile u k).ib pc = look {} (tile s k).ib pc) ∧
      (f.done = 56 → f.fromReg = true → (tile s k).fillLeft = 1 → getF u (tileBase k) F.TSQ_IFILL_BUSY = 0) ∧
      (f.done = 56 → f.fromReg = false → ∀ x ∈ (tile u k).stores, x ≠ f.id) ∧
      (f.done < 56 → rd u (tileBase k + 0x28) = rd s (tileBase k + 0x28) ∧ (tile u k).stores = (tile s k).stores) ∧
      (∀ n i, n < 8 → i < 16 → getG u k n i = getG s k n i) ∧ RegsKept s u [tileBase k + 0x28] ∧ OnlyTileAt s u k (tile s k).fillTc

/-- IB_DATA_WRITE and IB_DATA_READ write and read the instruction at INDEX, which moves on by one, mod 512 (R41); COUNTER_WRITE replaces
COUNT, THRESH and the RW fields and clears OVF where a 1 is written (R59); SR_CNT_WRITE, VCNT_WRITE set their counts (R114, R141);
LAT_DESC_WRITE and SPU_DESC_WRITE store a descriptor, its V as the hardware computes it (R81, R130); TALLY_INJ_ARRAY and TALLY_INJ_DRAIN
arm an injection (R94); PARITY_INJECT stores a place and arms it (R156). Every other register and all memory is as before. -/
def UnitRegisterWrites : Prop :=
  ∀ (s : State) (t : TileId) (v : Word),
    let k := tileNo t
    let b := tileBase k
    let x := getF s b F.TSQ_IB_ADDR_INDEX
    (∃ u, exec (.ibDataWrite t v) s = .next u ∧ look {} (tile u k).ib x = { insn := v, bad := false } ∧
      (∀ j, j ≠ x → look {} (tile u k).ib j = look {} (tile s k).ib j) ∧ getF u b F.TSQ_IB_ADDR_INDEX = (x + 1) % 512 ∧
      RegsKept s u [b + 0x30] ∧ OnlyTile s u k) ∧
    (∃ u, exec (.ibDataRead t) s = .next u ∧ u.rdata = (look {} (tile s k).ib x).insn ∧ getF u b F.TSQ_IB_ADDR_INDEX = (x + 1) % 512 ∧
      RegsKept s u [b + 0x30] ∧ { u with csr := s.csr, rdata := s.rdata } = s ∧ MemoryKept s u) ∧
    (∀ c : Fin 16, ∃ u, exec (.counterWrite t c v) s = .next u ∧
      getF u b (ctrF F.TSQ_CTR_COUNT c) = v.toNat % 65536 ∧ getF u b (ctrF F.TSQ_CTR_THRESH c) = v.toNat / 65536 % 65536 ∧
      getF u b (ctrF F.TSQ_CTR_OVF c) = (if v.getLsbD 39 then 0 else getF s b (ctrF F.TSQ_CTR_OVF c)) ∧
      RegsKept s u [ctrAddr k c] ∧ OnlyRegs s u ∧ MemoryKept s u) ∧
    (∃ u, exec (.srCntWrite t v) s = .next u ∧ getF u b F.LAT_SR_CNT_CNT = v.toNat % 2 ^ F.LAT_SR_CNT_CNT.w ∧
      RegsKept s u [b + F.LAT_SR_CNT_CNT.off] ∧ OnlyRegs s u ∧ MemoryKept s u) ∧
    (∃ u, exec (.vcntWrite t v) s = .next u ∧ getF u b F.SPU_VCNT_CNT = v.toNat % 2 ^ F.SPU_VCNT_CNT.w ∧
      RegsKept s u [b + F.SPU_VCNT_CNT.off] ∧ OnlyRegs s u ∧ MemoryKept s u) ∧
    (∀ d : Fin 64, ∃ u, exec (.latDescWrite t d v) s = .next u ∧
      (let w := rd u (b + 0x1400 + 16 * d)
       w % 2 ^ 28 = v.toNat % 2 ^ 28 ∧ w / 2 ^ 32 = v.toNat / 2 ^ 32 % 2 ^ 13 ∧ w / 2 ^ 28 % 16 = (if latDescV w then 2 else 0)) ∧
      RegsKept s u [b + 0x1400 + 16 * d] ∧ OnlyRegs s u ∧ MemoryKept s u) ∧
    (∀ d : Fin 32, ∃ u, exec (.spuDescWrite t d v) s = .next u ∧
      (let w := rd u (b + 0x2400 + 8 * d)
       w % 2 ^ 15 = v.toNat % 2 ^ 15 ∧ w / 2 ^ 16 % 2 ^ 37 = v.toNat / 2 ^ 16 % 2 ^ 37 ∧ w / 2 ^ 53 = (if spuDescV w then 2 ^ 10 else 0)) ∧
      RegsKept s u [b + 0x2400 + 8 * d] ∧ OnlyRegs s u ∧ MemoryKept s u) ∧
    (∃ u, exec (.tallyInjArray t) s = .next u ∧ (tile u k).lat = { (tile s k).lat with injArray := true } ∧
      RegsKept s u [] ∧ OnlyTile s u k) ∧
    (∃ u, exec (.tallyInjDrain t) s = .next u ∧ (tile u k).lat = { (tile s k).lat with injDrain := true } ∧
      RegsKept s u [] ∧ OnlyTile s u k) ∧
    (∀ c : ClusterId, ∃ u, exec (.parityInject c v) s = .next u ∧
      getF u (cluBase (clusterNo c)) F.CLU_PAR_INJ_ROW = v.toNat % 8192 ∧
      getF u (cluBase (clusterNo c)) F.CLU_PAR_INJ_WORD = v.toNat / 65536 % 128 ∧
      getF u (cluBase (clusterNo c)) F.CLU_PAR_INJ_ARMED =
        (if v.getLsbD 63 then 1 else getF s (cluBase (clusterNo c)) F.CLU_PAR_INJ_ARMED) ∧
      RegsKept s u [cluBase (clusterNo c) + 0x48] ∧ OnlyRegs s u ∧ MemoryKept s u)

/-- QCFG_WRITE with EN: where the range leaves the 256 flits or overlaps another enabled queue, nothing is stored, EN reads 0, QCFG_OVERLAP
is set and 0x95 reported (R61); else BASE, DEPTH and EN are stored. A write that leaves EN at 0 empties the queue. Rests on the model's choice of log entry 26. -/
def QueueRangeIsChecked : Prop :=
  ∀ (s : State) (t : TileId) (q : Fin 8) (v : Word),
    let k := tileNo t
    let b := tileBase k
    let base := v.toNat % 256
    let depth := v.toNat / 65536 % 512
    let qb (j : Nat) := getF s b (F.TSQ_QCFG_BASE.at (8 * j))
    let qd (j : Nat) := getF s b (F.TSQ_QCFG_DEPTH.at (8 * j))
    let bad := 256 < base + depth ∨ ∃ j, j < 8 ∧ j ≠ q.val ∧ getF s b (F.TSQ_QCFG_EN.at (8 * j)) = 1 ∧
      base < qb j + qd j ∧ qb j < base + depth
    (tile s k).eject = none →
    ∃ u, exec (.qcfgWrite t q v) s = .next u ∧
      (v.getLsbD 31 = true → bad → qb q = getF u b (F.TSQ_QCFG_BASE.at (8 * q)) ∧ qd q = getF u b (F.TSQ_QCFG_DEPTH.at (8 * q)) ∧
        getF u b (F.TSQ_QCFG_EN.at (8 * q)) = 0 ∧ getF u b F.TSQ_ERR_QCFG_OVERLAP = 1 ∧
        look 0 (tile u k).tokens 0x95 = look 0 (tile s k).tokens 0x95 + 1) ∧
      (v.getLsbD 31 = true → ¬bad → getF u b (F.TSQ_QCFG_BASE.at (8 * q)) = base ∧
        getF u b (F.TSQ_QCFG_DEPTH.at (8 * q)) = depth ∧ getF u b (F.TSQ_QCFG_EN.at (8 * q)) = 1 ∧ RegsKept s u [b + 0x200 + 8 * q]) ∧
      (v.getLsbD 31 = false → getF u b (F.TSQ_QCFG_BASE.at (8 * q)) = base ∧ getF u b (F.TSQ_QCFG_DEPTH.at (8 * q)) = depth ∧
        getF u b (F.TSQ_QCFG_EN.at (8 * q)) = 0 ∧ RegsKept s u [b + 0x200 + 8 * q]) ∧
      (getF s b (F.TSQ_QCFG_EN.at (8 * q)) = 1 → getF u b (F.TSQ_QCFG_EN.at (8 * q)) = 0 → queueOf u k q = []) ∧
      (∀ j, j ≠ q.val → queueOf u k j = queueOf s k j) ∧ MemoryKept s u ∧ OtherTilesKept s u k

/-- CONTEXT_RESET stores ENTRY; with RESET, a context in FAULT or in a FROZEN tile goes to IDLE with an empty loop stack and prefetch
buffer, its general registers kept, and any other context is left as it is (R68). Rests on the model's choice of log entry 129. -/
def ContextResetActsInFaultOrFrozen : Prop :=
  ∀ (s : State) (t : TileId) (n : Fin 8) (v : Word),
    let k := tileNo t
    ∃ u, exec (.contextReset t n v) s = .next u ∧
      getF u (tileBase k) (F.TSQ_CTX_CTL_ENTRY.at (8 * n)) = v.toNat % 512 ∧
      (v.getLsbD 31 = true → (ctxState s k n = 3 ∨ life s k = .frozen) →
        ctxState u k n = 0 ∧ (ctxOf u k n).loops = [] ∧ (ctxOf u k n).pre = []) ∧
      ((v.getLsbD 31 = false ∨ (ctxState s k n ≠ 3 ∧ life s k ≠ .frozen)) →
        ctxState u k n = ctxState s k n ∧ (ctxOf u k n) = (ctxOf s k n)) ∧
      (∀ j i, j < 8 → i < 16 → getG u k j i = getG s k j i) ∧
      RegsKept s u [tileBase k + 0x80 + 8 * n, ctxStateAddr k n] ∧ OnlyTile s u k

/-! ### The lattice (R73 to R92, R229, R395) -/

/-- LATTICE_DISPATCH takes the head entry of the issue queue, no earlier than the tc after its issue: an LWLD to a free loader, which asks
for its row A and, where its format has one, its side section, both as one paired request; a LISS behind those whose reads are all asked
for, whose feed asks for rows while one of its two buffers is free; an LDRAIN to a free drain, where it waits while an earlier
LISS of its bank has not completed (said of that case), its seed and count taken, SR_CNT one more for a stochastic RMODE. Rests on the model's choices of log entries 4, 30 and 133. -/
def LatticeDispatchTakesTheHead : Prop :=
  ∀ (s : State) (x : LaneRead) (e : LEnt) (r : List LEnt),
    let k := tileNo x.tile
    let b := tileBase k
    let l := (tile s k).lat
    l.queue = e :: r → clockOn s k = true →
    (e.op = 1 → l.loader = none → ∃ u, exec (.latticeDispatch x) s = .next u ∧
      (tile u k).lat = { l with queue := r, loader := some { e, since := u.tc } } ∧
      reqsOf u k 1 = reqsOf s k 1 ++
        (if e.aq then [] else [{ row := e.a % 8192, kind := .read (.lat e.id 1002), bp := e.bp, from_ := u.tc + 1 }]) ++
        (if readsSide e.lo then
          [{ row := e.b % 8192, kind := .read (.lat e.id 1000), bp := e.bp, from_ := u.tc + 1, paired := !e.aq }] else []) ∧
      RegsKept s u [] ∧ OnlyTileAt s u k (e.issued + 1)) ∧
    (e.op = 0 → (∀ o ∈ l.liss, lissReads o.e ≤ o.asked ∧ o.e.id ≠ e.id) →
      (isMulti e.lo = true ∨ (setRecord l e).1 = 0 ∨ setRecord l e = (1, dWfmt e.lo, dS24 e.lo)) →
      ∃ u o, exec (.latticeDispatch x) s = .next u ∧
      (tile u k).lat = { l with queue := r, liss := l.liss ++ [o] } ∧ o.e = e ∧ o.zeroSet = false ∧ o.since = u.tc ∧
      o.asked = min (2 - buffersHeld l) (lissReads e) ∧
      (isMulti e.lo = false → actScaled e.lo = false → reqsOf u k 2 = reqsOf s k 2 ++ (List.range o.asked).map fun j =>
        { row := (e.a + j % actRows e.lo) % 8192, kind := .read (.lat e.id j), bp := e.bp, from_ := u.tc + 1 }) ∧
      RegsKept s u [] ∧ OnlyTileAt s u k (e.issued + 1)) ∧
    (2 ≤ e.op → l.drain = none → (l.liss.any fun o => o.e.bank == e.bank && decide (o.e.id < e.id)) = true →
      ∃ u, exec (.latticeDispatch x) s = .next u ∧
      (tile u k).lat = { l with queue := r, drain := some {
        e, seed := getF s b F.LAT_SR_SEED_SEED, cnt := getF s b F.LAT_SR_CNT_CNT, since := u.tc } } ∧
      getF u b F.LAT_SR_CNT_CNT = (getF s b F.LAT_SR_CNT_CNT + (if dRmode e.lo = 2 then 1 else 0)) % 2 ^ 20 ∧
      RegsKept s u [b + 0x1060] ∧ OnlyTileAt s u k (e.issued + 1))

/-- The weight bytes of an LWLD that are at hand, as a number, and their poison mark: of its PART of row A, or whole flits of its queue. -/
def weightsAtHand (s : State) (k : Nat) (o : LOp) : Option (Nat × Bool) :=
  let nb := weightBytes (dWfmt o.e.lo)
  if o.e.aq then
    let l := (wholeFlits s k o.e.qn).take (nb / 32)
    if nb / 32 ≤ qWhole s k o.e.qn then some ((rowOfFlits (l.map fun f => f.data.getD 0)).toNat, l.any fun f => f.poison) else none
  else (rowOf o 1002).map fun r => (r.1.toNat / 2 ^ (8 * nb * o.e.part) % 2 ^ (8 * nb), r.2)

/-- LWLD_COMPLETE with its weights at hand and no earlier LISS in need of the set, no earlier than 2 tc after the last of them came: the set named takes the weight bytes of its PART, its side
section where the format has one, its format and the poison mark of what was read; the other set is as it was; the loader is free, and
the counter gets its event where CE is 1 (R73 to R76, R84). -/
def WeightsEnterTheirSet : Prop :=
  ∀ (s : State) (t : TileId) (o : LOp) (d : Nat) (side : Row) (p q : Bool),
    let k := tileNo t
    let l := (tile s k).lat
    let e := o.e
    l.loader = some o → weightsAtHand s k o = some (d, p) → (readsSide e.lo = true → rowOf o 1000 = some (side, q)) →
    (readsSide e.lo = false → q = false) → setInUse l e.id e.set = false → e.set < 2 → clockOn s k = true →
    ∃ u w, exec (.lwldComplete t) s = .next u ∧ u.tc = max s.tc (loadDue s k o) ∧
      (if e.set = 0 then (tile u k).lat.set0 = w ∧ (tile u k).lat.set1 = l.set1
        else (tile u k).lat.set1 = w ∧ (tile u k).lat.set0 = l.set0) ∧
      w.kind = 1 ∧ w.fmt = dWfmt e.lo ∧ w.s24 = dS24 e.lo ∧ w.poison = (p || q) ∧
      w.data = BitVec.ofNat 4096 d ∧
      (readsSide e.lo = true → w.side.toNat = side.toNat / 2 ^ (512 * e.part) % 2 ^ 512) ∧
      (tile u k).lat.loader = none ∧ (tile u k).lat.acc = l.acc ∧ (tile u k).lat.queue = l.queue ∧
      look 0 (tile u k).arrivals e.c = look 0 (tile s k).arrivals e.c + (if e.ce then 1 else 0) ∧
      look 0 (tile u k).tokens 0x11 = look 0 (tile s k).tokens 0x11 + (if p || q then 1 else 0) ∧
      MemoryKept s u ∧ OtherTilesKept s u k

/-- VECTOR_ENTRY of a vector that is at hand enters it, the array not full, in the first tc from now on in which its data and set are ready,
no repeat holds the array and the array takes no other, where the ramp and the power actuator admit it in that tc: it stands behind the others, with its
activation bits, its operation, its place in it and the poison of its data or set; its result is due 6 tc later; LAT.ARRAY_CNT counts it
(R77, R86, R87). Rests on the model's choice of log entry 4. -/
def VectorEntersTheArray : Prop :=
  ∀ (s : State) (t : TileId) (x : Entry),
    let k := tileNo t
    let b := tileBase k
    let l := (tile s k).lat
    let r := readySince s k x.o
    let e := max (max s.tc (max r l.heldTc)) (field s (tileField k)).didtUntil
    vectorReady s k = some x → l.inArray.length < 6 → admits s k (rampWith s k r e) e = true →
    ∃ u v, exec (.vectorEntry t) s = .next u ∧ u.tc = e ∧
      (tile u k).lat.inArray = l.inArray ++ [v] ∧ v.op = x.o.e.id ∧ v.m = x.o.next ∧ v.pass = x.o.pass ∧
      v.act = BitVec.ofNat 512 x.act ∧ v.scale = x.scale ∧ (x.poison = true → v.poison = true) ∧ v.due = e + 6 ∧
      getF u b F.LAT_ARRAY_CNT_VECTORS = (getF s b F.LAT_ARRAY_CNT_VECTORS + 1) % 2 ^ 48 ∧
      (tile u k).lat.lastVec = e ∧ (tile u k).lat.entryTc = e + 1 ∧
      (tile u k).lat.acc = l.acc ∧ (tile u k).lat.tally = l.tally ∧ MemoryKept s u ∧ OtherTilesKept s u k

/-- ARRAY_RESULT of a clean INT8 vector with a weight set that an LWLD loaded, no fault in the columns: accumulator lane
LANE * 8 + n of row ACC0 + m, n in 0..7, becomes the sum over 16 elements of activation times weight as signed numbers, mod 2^32, where
ACCUM is 0, and that plus what it held where ACCUM is 1; every other lane of every bank is as it was, and the vector has left the array
(R71, R79, R91). -/
def ColumnSumsEnterTheAccumulators : Prop :=
  ∀ (s : State) (t : TileId) (v : LVec) (r : List LVec) (o : LOp),
    let k := tileNo t
    let l := (tile s k).lat
    let row := o.e.acc0 + v.m
    let y (n : Nat) : Int := (((List.range 16).map fun j =>
      (v.act.extractLsb' (8 * j) 8).toInt * (v.wset.data.extractLsb' (128 * n + 8 * j) 8).toInt)).sum
    l.inArray = v :: r → (l.liss.find? fun o => o.e.id == v.op) = some o →
    dWfmt o.e.lo = 0 → dAfmt o.e.lo = 0 → dMode o.e.lo = 0 → v.pass = 0 → v.wset.kind = 1 → v.wset.s24 = false → v.poison = false →
    clockOn s k = true →
    ∃ u, exec (.arrayResult t [] []) s = .next u ∧ u.tc = max s.tc v.due ∧
      (tile u k).lat.inArray = r ∧
      (∀ n, n < 8 → accAt (tile u k).lat o.e.bank row (8 * o.e.lane + n) =
        (if dAccum o.e.lo then accAt l o.e.bank row (8 * o.e.lane + n) else 0) + BitVec.ofInt 32 (y n)) ∧
      (∀ key, (∀ n, n < 8 → key ≠ accKey o.e.bank row (8 * o.e.lane + n)) →
        look 0 (tile u k).lat.acc key = look 0 l.acc key) ∧
      MemoryKept s u ∧ OtherTilesKept s u k

/-- LATTICE_REPEAT of one failed check whose vector was the last of its operation, made for the only group of its path, and passing this
time: after 8 tc and one for the vector, the failure is taken off the list, LAT.REPEAT_CNT counts the repeat, saturating, and the vector is not left in the array (R229). Rests on the model's choice of log entry 33. -/
def RepeatPutsTheVectorBack : Prop :=
  ∀ (s : State) (t : TileId) (f : Failed) (o : LOp) (g : Nat),
    let k := tileNo t
    let b := tileBase k
    let l := (tile s k).lat
    l.failed = [f] → l.inArray = [] → (l.liss.find? fun o => o.e.id == f.vec.op) = some o →
    (l.history.filter fun v => v.op == f.vec.op && notBefore f.vec v) = [f.vec] → opGroups o = [(0, g)] → f.group = g →
    groupCheck o f.vec 0 (vectorSums o f.vec []) false = .pass → clockOn s k = true →
    ∃ u, exec (.latticeRepeat t []) s = .next u ∧ u.tc = s.tc + 9 ∧
      (tile u k).lat.failed = [] ∧ (tile u k).lat.inArray = [] ∧
      getF u b F.LAT_REPEAT_CNT_REPEATS = min (2 ^ 32 - 1) (getF s b F.LAT_REPEAT_CNT_REPEATS + 1) ∧
      getF u b F.LAT_REPEAT_CNT_FAILED = getF s b F.LAT_REPEAT_CNT_FAILED ∧ MemoryKept s u ∧ OtherTilesKept s u k

/-- LISS_COMPLETE takes the oldest LISS off once its vectors are through and checked (said where no drain waits), LDRAIN_COMPLETE ends a
drain whose writes are made, each with an event for its counter where CE is 1; DRAIN_FLIT_WRITE puts the next flit of a drain into its queue
where a flit is free (said of a flit after which no scale row is read); LOAD_FLOOR_VECTOR counts a dummy vector where the floor is on, the
tile LIVE, nothing else wants the array and ramp and power admit one (R83 to R87). Rests on the model's choices of log entries 4, 30 and 35. -/
def LatticeOperationsEnd : Prop :=
  ∀ (s : State) (t : TileId) (o : LOp) (f : Flit × Bool),
    let k := tileNo t
    let b := tileBase k
    let l := (tile s k).lat
    let q := o.e.qn
    clockOn s k = true →
    (∀ r x, l.liss = o :: r → x.tile = t → l.drain = none → passCount o.e.lo ≤ o.pass → (∀ v ∈ l.inArray, v.op ≠ o.e.id) →
      (∀ x ∈ l.failed, x.vec.op ≠ o.e.id) → ∃ u, exec (.lissComplete x) s = .next u ∧
      (tile u k).lat = { l with liss := r } ∧
      look 0 (tile u k).arrivals o.e.c = look 0 (tile s k).arrivals o.e.c + (if o.e.ce then 1 else 0) ∧
      RegsKept s u [] ∧ OnlyTileAt s u k o.due) ∧
    (l.drain = some o → o.started = true → o.writes = 0 → o.flits = [] →
      ∃ u, exec (.ldrainComplete t) s = .next u ∧
      (tile u k).lat = { l with drain := none } ∧
      look 0 (tile u k).arrivals o.e.c = look 0 (tile s k).arrivals o.e.c + (if o.e.ce then 1 else 0) ∧
      RegsKept s u [] ∧ OnlyTileAt s u k o.due) ∧
    (∀ r, l.drain = some o → o.flits = f :: r → 1 ≤ qFree s k q → (r ≠ [] ∨ dOfmt o.e.lo ∉ [7, 8, 9]) →
      ∃ u, exec (.drainFlitWrite t) s = .next u ∧
      queueOf u k q = queueOf s k q ++ [{ id := (tile s k).nextId, data := some f.1, poison := f.2, at_ := u.tc }] ∧
      (∀ j, j ≠ q → queueOf u k j = queueOf s k j) ∧
      (tile u k).lat = { l with drain := some { o with flits := r, due := if r.isEmpty then u.tc else u.tc + 1 } } ∧
      RegsKept s u [] ∧ OnlyTileAt s u k o.due) ∧
    (∀ x, x.tile = t → x.fault = false → l.injArray = false →
      life s k = .live → getF s 0 F.PWR_STATUS_FLOOR_ON = 1 → vectorReady s k = none → l.failed = [] → recordWaits s k = false →
      let e0 := max s.tc l.entryTc
      let e := max e0 (field s (tileField k)).didtUntil
      admits s k (rampWith s k e0 e) e = true → ∃ u, exec (.loadFloorVector x) s = .next u ∧
      getF u b F.LAT_FLOOR_CNT_FLOOR = (getF s b F.LAT_FLOOR_CNT_FLOOR + 1) % 2 ^ 48 ∧
      { (tile u k).lat with rampAt := l.rampAt } = { l with floorAt := some e, lastVec := e, entryTc := e + 1 } ∧
      RegsKept s u [b + 0x1048] ∧ OnlyTileAt s u k e)

/-- An LDRAIN of an MX format reads its scale row B + OSCL once its last flit is written, and, when the row is delivered to it, asks to write the row
back: its bytes from byte 0 on, one per block of 32 elements, are the scales, its other bytes and its poison mark those of the read
(R85; the write itself is R150's). Rests on the model's choice of log entry 30. -/
def ScaleRowIsWritten : Prop :=
  (∀ (s : State) (t : TileId) (o : LOp) (f : Flit × Bool),
    let k := tileNo t
    (tile s k).lat.drain = some o → o.flits = [f] → dOfmt o.e.lo ∈ [7, 8, 9] → 1 ≤ qFree s k o.e.qn → clockOn s k = true →
    ∃ u, exec (.drainFlitWrite t) s = .next u ∧
      reqsOf u k 3 = reqsOf s k 3 ++
        [{ row := (o.e.b + dOscl o.e.hi) % 8192, kind := .read (.lat o.e.id 3001), bp := o.e.bp, from_ := u.tc + 1 }] ∧
      (tile u k).lat.drain = some { o with flits := [], writes := o.writes + 1, due := u.tc } ∧ RegsKept s u [] ∧ OnlyTileAt s u k o.due) ∧
  (∀ (s : State) (c : ClusterId) (a : RdAcc) (l : List RdAcc) (t id : Nat) (o : LOp) (sc : Row),
    let m := clusterNo c
    let k := clusterTile m t
    let n := (dM o.e.lo * dLanes o.e.lo + 31) / 32
    (cluster s m).reads = a :: l → a.dests = [(t, .lat id 3001)] → a.badWords = [] → t < 16 →
    (tile s k).lat.drain = some o → rowOf o 3000 = some (sc, false) →
    ∃ u w, exec (.rowDataDelivery c []) s = .next u ∧ (cluster u m).reads = l ∧
      reqsOf u k 3 = reqsOf s k 3 ++
        [{ row := (o.e.b + dOscl o.e.hi) % 8192, kind := .write w a.poison .drain, bp := o.e.bp, from_ := u.tc + 1 }] ∧
      (∀ i, i < 512 → w.extractLsb' (8 * i) 8 = (if i < n then sc.extractLsb' (8 * i) 8 else a.data.extractLsb' (8 * i) 8)) ∧
      (tile u k).lat.drain = some { o with due := u.tc + 2 } ∧ RegsKept s u [] ∧ MemoryKept s u)

/-! ### Replay records (R232 to R236) -/

/-- REPLAY_RECORD_MOVE moves the oldest record not yet moved of a cluster with a buddy, and the field counts it; REPLAY_SERVICE, at the
buddy, serves a record that awaits it, and counts it: its array takes no vector for 8 tc, or its drain engine is busy for 4; REPLAY_OUTCOME takes the oldest served record off: one the buddy agreed with counts
as transient, one it did not counts as a disagreement and raises 0x21 once (R233 to R235). -/
def ReplayRecordsAreServed : Prop :=
  (∀ (s : State) (c d : ClusterId) (r : RRec) (l : List RRec),
    let n := clusterNo c
    (cluster s n).records = r :: l → r.moved = false → buddyOf s n = some (clusterNo d) →
    ∃ u, exec (.replayRecordMove c) s = .next u ∧ (cluster u n).records = { r with moved := true } :: l ∧
      getF u (fieldBase (clusterField n)) F.FLD_RPL_STAT_RECORDS =
        min (2 ^ 32 - 1) (getF s (fieldBase (clusterField n)) F.FLD_RPL_STAT_RECORDS + 1) ∧
      RegsKept s u [fieldBase (clusterField n) + 0x408] ∧ OnlyCluster s u n) ∧
  (∀ (s : State) (c d : ClusterId) (t : Fin 16) (fault : Bool) (r : RRec) (l : List RRec),
    let n := clusterNo c
    let m := clusterNo d
    (originalsOf s m = [n]) → (cluster s n).records = r :: l → awaitsService s n r = true → r.tile = t.val →
    (if r.drain then (tile s (clusterTile m t)).lat.drain = none else vectorReady s (clusterTile m t) = none) →
    ∃ u, exec (.replayService d t fault) s = .next u ∧
      (cluster u n).records = { r with served := true, agreed := recordAgrees r fault } :: l ∧
      getF u (cluBase m) F.CLU_RPL_CNT_SERVED = min 0xFFFF (getF s (cluBase m) F.CLU_RPL_CNT_SERVED + 1) ∧
      (let k := clusterTile m t
       let l := (tile s k).lat
       (tile u k).lat = (if r.drain then { l with drainTc := max s.tc l.drainTc + 4 }
         else { l with entryTc := max s.tc l.entryTc + 8, heldTc := max l.heldTc (max s.tc l.entryTc + 8) }) ∧ OtherTilesKept s u k) ∧
      RegsKept s u [cluBase m + 0x68] ∧ { u with csr := s.csr, tiles := s.tiles, clusters := s.clusters } = s ∧
      OtherClustersKept s u n ∧ MemoryKept s u) ∧
  (∀ (s : State) (c : ClusterId) (r : RRec) (l : List RRec),
    let n := clusterNo c
    let b := cluBase n
    (cluster s n).records = r :: l → r.served = true → r.tile < 16 →
    ∃ u, exec (.replayOutcome c) s = .next u ∧ (cluster u n).records = l ∧
      (r.agreed = true →
        getF u b F.CLU_RPL_CNT_TRANSIENT = min 0xFFFF (getF s b F.CLU_RPL_CNT_TRANSIENT + 1) ∧
        getF u b F.CLU_RPL_CNT_DISAGREE = getF s b F.CLU_RPL_CNT_DISAGREE) ∧
      (r.agreed = false →
        getF u b F.CLU_RPL_CNT_DISAGREE = min 0xFFFF (getF s b F.CLU_RPL_CNT_DISAGREE + 1) ∧
        look 0 (tile u (clusterTile n r.tile)).tokens 0x21 = look 0 (tile s (clusterTile n r.tile)).tokens 0x21 + 1) ∧
      MemoryKept s u)

/-- REPLAY_FORCE of a field that awaits the pulse of beat n leaves no record of beat n - 2 or an earlier one unserved in a cluster with a
buddy, and no demand error of that beat's parity whose targeted read was not made awaits it any longer (R233, R236). Rests on the model's choices of log entries 4 and 154. -/
def ForcedReplayServesEveryRecord : Prop :=
  ∀ (s : State) (f : FieldId) (n : Nat), (field s f).nextNo = some n → s.beats.running = true → ∃ u, exec (.replayForce f) s = .next u ∧
    (∀ c d : ClusterId, clusterField (clusterNo c) = f.val → buddyOf s (clusterNo c) = some (clusterNo d) →
      ∀ r ∈ (cluster u (clusterNo c)).records, r.moved = true → r.no + 2 ≤ n → r.served = true) ∧
    (∀ c : ClusterId, clusterField (clusterNo c) = f.val → ∀ e ∈ (cluster u (clusterNo c)).scrubWait, e.2 ≠ 1 - (field s f).par) ∧
    MemoryKept s u

/-! ### Cluster memory (R149 to R162) -/

/-- SLICE_GRANT, the crossbar running, the slice free and a request presented to it: one is granted, and ACCESSES counts it. It is the one that
the first tile from P_s on with a request for the slice, and in it the first requestor from its pointer on, presents, and P_s passes it. A whole-row
write puts its 512 bytes into the row, with its poison mark and good parity where no injection is armed; a partial write puts its 8 bytes at
its word and can only set the mark; every other byte of scratch reads as before. A read takes the row as it stands, due 5 tc later. Firn is
untouched (R150 to R154). Rests on the model's choice of log entry 27. -/
def GrantedRequestReadsOrWritesItsRow : Prop :=
  ∀ (s : State) (c : ClusterId) (sl : Fin 16),
    let n := clusterNo c
    crossbarRuns s n = true → look 0 (cluster s n).sliceTc sl ≤ s.tc →
    (∀ t0 r0 : Nat, t0 < 16 → r0 < 7 → (headFor s (clusterTile n t0) r0 sl).isSome = true →
      ∃ u t r, exec (.sliceGrant c sl) s = .next u ∧ granted s n sl = some (t, r) ∧ u.tc = s.tc ∧
        look 0 (cluster u n).ps sl = (t + 1) % 16 ∧ look 0 (cluster u n).sliceTc sl = s.tc + 1 ∧
        getF u (cluBase n) (F.CLU_XBAR_CNT_ACCESSES.at (8 * sl)) =
          min (2 ^ F.CLU_XBAR_CNT_ACCESSES.w - 1) (getF s (cluBase n) (F.CLU_XBAR_CNT_ACCESSES.at (8 * sl)) + 1)) ∧
    (∀ (t r : Nat) (x : XReq), granted s n sl = some (t, r) → headFor s (clusterTile n t) r sl = some x → x.row < 8192 →
      let base := 512 * rowKey n x.row
      ∃ u, exec (.sliceGrant c sl) s = .next u ∧
      (∀ row p d, x.kind = .write row p d →
        (∀ i, i < 512 → Mem.read u.scratch (base + i) = row.extractLsb' (8 * i) 8) ∧
        (∀ a, a < base ∨ base + 512 ≤ a → Mem.read u.scratch a = Mem.read s.scratch a) ∧ rowPoisoned u n x.row = p ∧
        (getF s (cluBase n) F.CLU_PAR_INJ_ARMED = 0 → rowBad u n x.row = [])) ∧
      (∀ w v p d, x.kind = .part w v p d → w < 64 →
        (∀ i, i < 8 → Mem.read u.scratch (base + 8 * w + i) = v.extractLsb' (8 * i) 8) ∧
        (∀ a, a < base + 8 * w ∨ base + 8 * w + 8 ≤ a → Mem.read u.scratch a = Mem.read s.scratch a) ∧
        rowPoisoned u n x.row = (rowPoisoned s n x.row || p)) ∧
      (∀ d, x.kind = .read d → (∃ a, (cluster u n).reads = (cluster s n).reads ++ [a] ∧ a.row = x.row ∧ a.data = readRow s n x.row ∧
          a.poison = rowPoisoned s n x.row ∧ a.badWords = rowBad s n x.row ∧ a.due = s.tc + 5 ∧ (t, d) ∈ a.dests) ∧
        ∀ a, Mem.read u.scratch a = Mem.read s.scratch a) ∧
      (∀ a, Mem.read u.firn a = Mem.read s.firn a))

/-- ROW_DATA_DELIVERY without a parity error takes the oldest granted read to its requestor, no earlier than 5 tc after its grant, with the row's poison mark: of RLDG the word
named enters D and the context goes on; of RLDQ the 16 flits enter the places reserved (R154). With a wrong word, in a cluster whose
TGT_EN is 0, the data arrives marked poisoned, 0x10 is raised at the tile once and PAR_CNT.DEMAND counts it (R157). Rests on the model's choice of log entry 28. -/
def ReadRowReachesItsRequestor : Prop :=
  ∀ (s : State) (c : ClusterId) (a : RdAcc) (l : List RdAcc) (t n d w bp : Nat),
    let m := clusterNo c
    let k := clusterTile m t
    (cluster s m).reads = a :: l → a.dests = [(t, .rldg n d w bp)] → t < 16 → n < 8 → d < 16 → w < 64 → a.tile = t →
    (∀ g, badOf a.badWords g = [] → ∃ u, exec (.rowDataDelivery c g) s = .next u ∧ u.tc = max s.tc a.due ∧ (cluster u m).reads = l ∧
      getG u k n d = a.data.extractLsb' (64 * w) 64 ∧ gPoison u k n d = a.poison ∧ (ctxOf u k n).hold = .none ∧
      (ctxOf u k n).rowsOut = (ctxOf s k n).rowsOut - 1 ∧
      (∀ j, j < 16 → j ≠ d → getG u k n j = getG s k n j) ∧ RegsKept s u [gAddr k n d, gpoiAddr k n] ∧ MemoryKept s u) ∧
    (∀ g, badOf a.badWords g ≠ [] → getF s (cluBase m) F.CLU_SCRUB_CFG_TGT_EN = 0 → ∃ u, exec (.rowDataDelivery c g) s = .next u ∧
      (cluster u m).reads = l ∧ getG u k n d = a.data.extractLsb' (64 * w) 64 ∧ gPoison u k n d = true ∧
      look 0 (tile u k).tokens 0x10 = look 0 (tile s k).tokens 0x10 + 1 ∧
      getF u (cluBase m) F.CLU_PAR_CNT_DEMAND = min (2 ^ 32 - 1) (getF s (cluBase m) F.CLU_PAR_CNT_DEMAND + 1) ∧ MemoryKept s u)

/-- SCRUB_READ, the scrubber running and enabled, INTERVAL (at least 16) passed since the last, its row's slice idle and no targeted row to read: it reads
row NEXT and moves NEXT on by one, mod 8,192; a row with a wrong word and a clear mark is marked poisoned, counted and reported with 0xD0, a
sound row changes nothing else. TARGETED_SCRUB_READ takes the oldest targeted row, its slice idle, off the list and marks it likewise where it is
wrong. SCRUB_PASS_LATE of a pass longer than twice 8,192 intervals raises 0xD1 once (R159 to R162). Only poison marks change: every byte of memory
reads as before. Rests on the model's choices of log entries 4, 28 and 151. -/
def ScrubberMarksBadRows : Prop :=
  ∀ (s : State) (c : ClusterId) (g : List (Fin 128)),
    let n := clusterNo c
    let b := cluBase n
    let row := getF s b F.CLU_SCRUB_STAT_NEXT
    let bad := badOf (rowBad s n row) g
    scrubRuns s n = true →
    (getF s b F.CLU_SCRUB_CFG_EN = 1 → max (cluster s n).scrubAt s.power.scrubFrom + max 16 (getF s b F.CLU_SCRUB_CFG_INTERVAL) ≤ s.tc →
      (cluster s n).scrubTc ≤ s.tc → sliceIdle s n row = true → (∀ e ∈ (cluster s n).targeted, sliceIdle s n e.1 = false) →
      ∃ u, exec (.scrubRead c g) s = .next u ∧ u.tc = s.tc ∧
      getF u b F.CLU_SCRUB_STAT_NEXT = (row + 1) % 8192 ∧ (cluster u n).scrubAt = s.tc ∧
      (bad = [] → u.poisonRow = s.poisonRow ∧ RegsKept s u [b + 0x20] ∧ (∀ k, tile u k = tile s k)) ∧
      (bad ≠ [] → rowPoisoned s n row = false → rowPoisoned u n row = true ∧
        look 0 (tile u (clusterTile n (row / 512))).tokens 0xD0 = look 0 (tile s (clusterTile n (row / 512))).tokens 0xD0 + 1 ∧
        getF u b F.CLU_PAR_CNT_SCRUB = min (2 ^ 32 - 1) (getF s b F.CLU_PAR_CNT_SCRUB + 1)) ∧ MemoryKept s u) ∧
    (∀ e l, (cluster s n).targeted = e :: l → e.1 < 8192 → sliceIdle s n e.1 = true → (cluster s n).scrubTc ≤ s.tc →
      ∃ u, exec (.targetedScrubRead c g) s = .next u ∧ u.tc = s.tc ∧ (cluster u n).targeted = l ∧
      (badOf (rowBad s n e.1) g = [] → rowPoisoned u n e.1 = rowPoisoned s n e.1) ∧
      (badOf (rowBad s n e.1) g ≠ [] → rowPoisoned u n e.1 = true) ∧ MemoryKept s u) ∧
    (getF s b F.CLU_SCRUB_CFG_EN = 1 → (cluster s n).scrubRaised = false → 2 * 8192 * max 16 (getF s b F.CLU_SCRUB_CFG_INTERVAL) < passTime s n →
      ∃ u, exec (.scrubPassLate c) s = .next u ∧
      (cluster u n).scrubRaised = true ∧
      look 0 (tile u (clusterTile n 0)).tokens 0xD1 = look 0 (tile s (clusterTile n 0)).tokens 0xD1 + 1 ∧
      getF u b F.CLU_ERR_SCRUB_LATE = 1 ∧ OtherTilesKept s u (clusterTile n 0) ∧ MemoryKept s u)

/-! ### The mesh (R51, R62, R170 to R182) -/

/-- Addresses of MSH.FLIT_CNT(d) and of the four MSH.TAG_CNT of tile number `k`. -/
def flitCntAddr (k d : Nat) : Nat := tileBase k + F.MSH_FLIT_CNT_FLITS.off + 8 * d
def tagCntAddrs (k : Nat) : List Nat := (List.range 4).map fun i => tileBase k + F.MSH_TAG_CNT_MSGS.off + 8 * i

/-- MESSAGE_INJECTION, the cluster's crossbar running and room in the local input: the head send's header enters it with destination,
source, PORT, TAG, LEN and CLASS of the send, the age of now and odd parity, a multicast's rectangle behind it; the send is counted.
PAYLOAD_FLIT_INJECT then takes its payload flits in, from queue SRCQ for SENDQ, as read for SENDROW and SENDG, with their poison marks;
flit LEN + 1 ends the send. -/
def SendsEnterTheRouter : Prop :=
  ∀ (s : State) (t : TileId) (e : SendEnt) (r : List SendEnt),
    let k := tileNo t
    let q := inqOf s k 4
    (tile s k).sendq = e :: r →
    (e.headerOut = false → q.length + (if e.rect.isSome then 2 else 1) ≤ 8 → crossbarRuns s (tileCluster k) = true →
      ∃ u h, exec (.messageInjection t) s = .next u ∧
        inqOf u k 4 = q ++ { data := h, kind := 0 } :: (e.rect.map fun x => ({ data := rectFlit x, kind := 1 } : MFlit)).toList ∧
        hDest h = e.dest % 2 ^ 23 ∧ hSrc h = tileW k * 2 ^ 21 + tileY k * 2 ^ 11 + tileX k ∧ hPort h = e.port % 16 ∧
        hTag h = e.tag % 2 ^ 16 ∧ msgLen h = e.len % 16 ∧ hClass h = e.cls % 4 ∧ hAge h = ageNow s (tileField k) % 256 ∧
        ones h.toNat 81 % 2 = 1 ∧ ones (rectFlit (e.rect.getD 0)).toNat 43 % 2 = 1 ∧
        (tile u k).sendq = { e with headerOut := true } :: r ∧
        getF u (tileBase k) F.MSH_INJ_CNT_MSGS =
          min (2 ^ F.MSH_INJ_CNT_MSGS.w - 1) (getF s (tileBase k) F.MSH_INJ_CNT_MSGS + 1) ∧
        RegsKept s u ((tileBase k + F.MSH_INJ_CNT_MSGS.off) :: tagCntAddrs k) ∧ OnlyTile s u k) ∧
    (∀ f p, e.headerOut = true → q.length < 8 → e.kind ≠ 0 → e.payload[e.sent]? = some (f, p) →
      ∃ u, exec (.payloadFlitInject t) s = .next u ∧
        inqOf u k 4 = q ++ [{ data := f, kind := if e.sent = e.len then 3 else 2, poison := p }] ∧
        (tile u k).sendq = (if e.sent = e.len then r else { e with sent := e.sent + 1 } :: r) ∧
        (tile u k).q = (tile s k).q ∧ RegsKept s u [] ∧ OnlyTile s u k) ∧
    (∀ x l f, e.headerOut = true → q.length < 8 → e.kind = 0 → queueOf s k e.srcQ = x :: l → x.popped = 0 → x.data = some f →
      ∃ u, exec (.payloadFlitInject t) s = .next u ∧
        inqOf u k 4 = q ++ [{ data := f, kind := if e.sent = e.len then 3 else 2, poison := x.poison }] ∧
        (tile u k).sendq = (if e.sent = e.len then r else { e with sent := e.sent + 1 } :: r) ∧
        queueOf u k e.srcQ = l ∧ (∀ j, j ≠ e.srcQ → queueOf u k j = queueOf s k j) ∧ RegsKept s u [] ∧ OnlyTile s u k)

/-- ROUTER_GRANT of a free output to the one message that has waited longest of those that want it, all its outputs this one: the header leaves
on the output's link and the message holds it; a message that holds the output sends its next flit, and its last flit frees it (R173, R177).
FLIT_ARRIVAL takes the oldest flit of a link with a good CRC into the input; one with a bad CRC is sent again up to three times, on the hinge counted by the receiving wing, and a payload
flit is accepted poisoned, with 0x13, at the fourth (R182). Rests on the model's choices of log entries 42 and 43. -/
def FlitsCrossRoutersAndLinks : Prop :=
  (∀ (s : State) (t : TileId) (d : Fin 5) (i : Nat) (f : MFlit) (r : List MFlit),
    let k := tileNo t
    d ≠ 4 → i < 5 → inqOf s k i = f :: r → linkRoom s k d = true →
    ((f.kind = 0 ∧ look none (tile s k).outHold d = none ∧ wormOf s k i = none ∧ outputs s k i = some [d.val] ∧
        ∀ j, j < 5 → j ≠ i → j ∈ wanting s k d → waitOf s k j < waitOf s k i) ∨
      (look none (tile s k).outHold d = some i ∧ ∃ w, wormOf s k i = some w ∧ w.outs = [d.val] ∧ d.val ∈ w.granted)) →
    ∃ u, exec (.routerGrant t d) s = .next u ∧
      linkOf u k d = linkOf s k d ++ [{ f with tries := 0 }] ∧ inqOf u k i = r ∧
      look none (tile u k).outHold d = (if f.kind = 3 then none else some i) ∧
      (∀ j, j ≠ d.val → linkOf u k j = linkOf s k j) ∧ (∀ j, j ≠ i → inqOf u k j = inqOf s k j) ∧
      RegsKept s u [flitCntAddr k d] ∧ OnlyTile s u k) ∧
  (∀ (s : State) (t : TileId) (d : Fin 4) (n : Nat) (f : MFlit) (r : List MFlit),
    let k := tileNo t
    let o := (d.val + 2) % 4
    neighbour k d = some n → linkOf s n o = f :: r → (inqOf s k d).length < 8 → wormOf s k (8 + d) = none →
    (∃ u, exec (.flitArrival t d false false) s = .next u ∧ inqOf u k d = inqOf s k d ++ [{ f with tries := 0 }] ∧ linkOf u n o = r ∧
      (∀ j, j ≠ k → j ≠ n → tile u j = tile s j) ∧ RegsKept s u [] ∧ MemoryKept s u) ∧
    (∀ p, f.tries < 3 → ∃ u, exec (.flitArrival t d true p) s = .next u ∧ inqOf u k d = inqOf s k d ∧
      linkOf u n o = { f with tries := f.tries + 1 } :: r ∧
      (∀ j, j ≠ n → tile u j = tile s j) ∧
      (crossesHinge n o = false → RegsKept s u [tileBase k + F.MSH_CRC_CNT_RETRIES.off]) ∧
      (crossesHinge n o = true → getF u (wingBase (tileW k)) F.HNG_ERR_CRC =
        min (2 ^ F.HNG_ERR_CRC.w - 1) (getF s (wingBase (tileW k)) F.HNG_ERR_CRC + 1)) ∧ MemoryKept s u) ∧
    (∀ p, 3 ≤ f.tries → 2 ≤ f.kind → ∃ u, exec (.flitArrival t d true p) s = .next u ∧
      inqOf u k d = inqOf s k d ++ [{ f with poison := true, tries := 0 }] ∧ linkOf u n o = r ∧
      look 0 (tile u k).tokens 0x13 = look 0 (tile s k).tokens 0x13 + 1 ∧ MemoryKept s u))

/-! ### The hinge and the rime network (R184 to R190) -/

/-- A hinge lane that training ends well is ACTIVE, of calibration age 0, and counts the training; a group's idle spare visits the next of its active
lanes in lane order, INTERVAL ms after its last visit, and carries it, and the lane enters CAL; an active lane that fails is FAILED, 0xE3 raised, and an idle spare of its group carries it (R184 to R186). Rests on the model's choices of log entries 45 and 140. -/
def HingeLanesTrainAndFail : Prop :=
  ∀ (s : State) (w : Fin 2) (l : Fin 1386),
    let b := wingBase w
    l.val < 1344 →
    (laneState s w l = 1 → ∃ u, exec (.hingeLaneTrained w l true) s = .next u ∧ laneState u w l = 2 ∧
      getF u (wingBase (1 - w)) (laneF F.HNG_LANE_RX_STATE l) = 2 ∧ calAge u w l = 0 ∧
      getF u b (laneF F.HNG_LANE_TRAINS l) =
        min (2 ^ F.HNG_LANE_TRAINS.w - 1) (getF s b (laneF F.HNG_LANE_TRAINS l) + 1) ∧
      (∀ j, j < 1386 → j ≠ l.val → laneState u w j = laneState s w j) ∧ MemoryKept s u) ∧
    (∀ g : Fin 42, laneTurn s w g = some l.val → getF s b F.HNG_CAL_CFG_EN = 1 → laneState s w (spareOf l) = 4 →
      getF s 0 F.PWR_DVFS_BUSY = 0 → ∃ u, exec (.hingeCalVisit w g l) s = .next u ∧ u.tc = max s.tc (visitTime s w g) ∧
      look 0 u.hinge.visits (64 * w + g) = u.tc ∧ look 0 u.hinge.turn (64 * w + g) = (l + 1) % 32 ∧ laneState u w l = 3 ∧
      laneState u w (spareOf l) = 5 ∧ lanePartner u w (spareOf l) = l ∧
      (∀ j, j < 1386 → j ≠ l.val → j ≠ spareOf l → laneState u w j = laneState s w j) ∧
      { u with csr := s.csr, hinge := s.hinge, tc := s.tc } = s ∧ MemoryKept s u) ∧
    (laneState s w l = 2 → laneState s w (spareOf l) = 4 → ∃ u, exec (.hingeLaneFail w l) s = .next u ∧ laneState u w l = 6 ∧
      laneState u w (spareOf l) = 5 ∧ lanePartner u w (spareOf l) = l ∧ getF u b F.HNG_ERR_LANE_FAIL = 1 ∧
      getF u 0 (F.EVC_SRC_STAT_LAST_CODE.at (8 * (256 + w.val))) = 0xE3 ∧
      (∀ j, j < 1386 → j ≠ l.val → j ≠ spareOf l → laneState u w j = laneState s w j) ∧ MemoryKept s u)

/-- TOKEN_ARRIVAL moves all of a tile's tokens of a code into the hub's count of it, marks the code seen and is the field's latest condition;
a detail record goes on to its node, which holds 4, and to the hub, which holds 512, oldest first; a command is repeated three times, 2 us apart,
and then raises 0xE5 (R188 to R190). REPORT_RECORD_READ takes the hub's oldest record off (R14). Memory is unchanged. Rests on the model's choices of log entries 4, 46, 138 and 153. -/
def ReportsReachTheirHub : Prop :=
  (∀ (s : State) (t : TileId) (code : Fin 256),
    let k := tileNo t
    let f := tileField k
    let n := look 0 (tile s k).tokens code
    n ≠ 0 → ∃ u, exec (.tokenArrival t code) s = .next u ∧ look 0 (tile u k).tokens code = 0 ∧
      getF u (fieldBase f) (F.RIM_CODE_CNT_COUNT.at (8 * code)) = min (2 ^ F.RIM_CODE_CNT_COUNT.w - 1)
        (getF s (fieldBase f) (F.RIM_CODE_CNT_COUNT.at (8 * code)) + n) ∧
      bit (getF u (fieldBase f) (F.RIM_SUMMARY_SEEN.at (8 * (code / 64)))) (code % 64) = true ∧
      getF u 0 (F.EVC_SRC_STAT_LAST_CODE.at (8 * f)) = code ∧ getF u 0 F.MBX_MIRROR_LAST_CODE = code ∧ OnlyTile s u k) ∧
  (∀ (s : State) (t : TileId) (r : Rec) (l : List Rec),
    let k := tileNo t
    let c := tileCluster k
    let f := tileField k
    ((tile s k).details = r :: l → (cluster s c).details.length < 4 → ∃ u, exec (.detailRecordForward t false) s = .next u ∧
      (tile u k).details = l ∧ (cluster u c).details = (cluster s c).details ++ [r] ∧ RegsKept s u [] ∧ MemoryKept s u) ∧
    ((cluster s c).details = r :: l → (field s f).details.length < 512 → ∃ u, exec (.detailRecordForward t true) s = .next u ∧
      (cluster u c).details = l ∧ (field u f).details = (field s f).details ++ [r] ∧ RegsKept s u [] ∧ MemoryKept s u)) ∧
  (∀ (s : State) (f : FieldId),
    let next := (field s f).repeatAt + 2500
    (((field s f).repeats = 0 ∨ next < s.tc) → ∃ u, exec (.rimeCommandRetry f) s = .next u ∧ (field u f).repeats = 1 ∧
      (field u f).repeatAt = s.tc ∧ RegsKept s u [] ∧ OnlyField s u f) ∧
    (1 ≤ (field s f).repeats → (field s f).repeats < 3 → s.tc ≤ next → ∃ u, exec (.rimeCommandRetry f) s = .next u ∧
      u.tc = next ∧ (field u f).repeats = (field s f).repeats + 1 ∧ (field u f).repeatAt = next ∧
      RegsKept s u [] ∧ { u with csr := s.csr, fields := s.fields, tc := s.tc } = s ∧ OtherFieldsKept s u f ∧ MemoryKept s u) ∧
    (3 ≤ (field s f).repeats → s.tc ≤ next → ∃ u, exec (.rimeCommandRetry f) s = .next u ∧ u.tc = next ∧ (field u f).repeats = 0 ∧
      getF u (fieldBase f) F.RIM_ERR_NOACK = 1 ∧
      getF u (fieldBase f) (F.RIM_CODE_CNT_COUNT.at (8 * 0xE5)) = min (2 ^ F.RIM_CODE_CNT_COUNT.w - 1)
        (getF s (fieldBase f) (F.RIM_CODE_CNT_COUNT.at (8 * 0xE5)) + 1) ∧ MemoryKept s u) ∧
    (∀ r l, (field s f).details = r :: l → ∃ u, exec (.reportRecordRead f) s = .next u ∧ (field u f).details = l ∧
      u.rdata.toNat = recLo r ∧ rd u (fieldBase f + F.RIM_REP_HI_REC_HI.off) = r.detail % 2 ^ 64 ∧
      RegsKept s u [fieldBase f + F.RIM_REP_HI_REC_HI.off] ∧ MemoryKept s u))

/-! ### Configuration (R204 to R215) -/

/-- CONFIG_ROW_ARRIVAL of a full load writes the next row of its tile into its slice, with the bytes and the mark that the firn's read gives: of a sound row
in an aligned image the image's own bytes and mark; the header of bank 0 starts the check once the count of rows is right, and fails it with 0x34
otherwise. CONFIG_CHECK_DONE of a tile whose banks and data rows are as R204 and R209 ask and are read without a parity error verifies it and counts it
(said of a load with more tiles left). ECLOSION of a verified, released tile other than its cluster's first, its bank 0 without records and rows, makes it
LIVE with its TSQ state as at reset. Rests on the model's choices of log entries 49, 50, 52 and 53. -/
def ConfigurationLoads : Prop :=
  (∀ (s : State) (t : TileId) (x : RowArrival) (l : Load) (src : Nat),
    let k := tileNo t
    let c := tileCluster k
    let row := x.row.val
    let base := 512 * rowKey c (512 * tileT k + row)
    let v := (firnRead s src x.corr x.uncorr).2.1
    s.load = some l → l.running = true → life s k = .instar → (tile s k).headerSeen = none → (tile s k).tries < 3 →
    (tile s k).verified = false → (rowsFor s l k)[(tile s k).rowsSeen]? = some row → rowSource s l.base k row = some src →
    ∃ u, exec (.configRowArrival t x) s = .next u ∧
      rowPoisoned u c (512 * tileT k + row) = (firnRead s src x.corr x.uncorr).2.2 ∧
      (∀ i, i < 512 → Mem.read u.scratch (base + i) = v.extractLsb' (8 * i) 8) ∧
      (∀ a, (a < base ∨ base + 512 ≤ a) → Mem.read u.scratch a = Mem.read s.scratch a) ∧
      (x.uncorr = 0 → ∀ a, Mem.read u.firn a = Mem.read s.firn a) ∧
      (x.uncorr = 0 → src % 512 = 0 → frnState s (stackOf src) ≠ 3 → rowPoisoned u c (512 * tileT k + row) = firnPoisoned s src ∧
        ∀ i, i < 512 → Mem.read u.scratch (base + i) = Mem.read s.firn (src + i)) ∧
      (row ≠ 480 → (tile u k).rowsSeen = (tile s k).rowsSeen + 1 ∧ (tile u k).headerSeen = none) ∧
      (row = 480 → bits v.toNat 144 16 = (tile s k).rowsSeen + 1 → (tile u k).headerSeen = some 0) ∧
      (row = 480 → bits v.toNat 144 16 ≠ (tile s k).rowsSeen + 1 → (tile u k).headerSeen = none ∧
        (tile u k).tries = (tile s k).tries + 1 ∧ look 0 (tile u k).tokens 0x34 = look 0 (tile s k).tokens 0x34 + 1)) ∧
  (∀ (s : State) (t : TileId) (l : Load) (b : Nat),
    let k := tileNo t
    let data := dataRows s l.base k
    s.load = some l → 1 < l.left → life s k = .instar → (tile s k).headerSeen = some b → (tile s k).failedCheck = false →
    (∀ r, r < 512 → rowBad s (tileCluster k) (512 * tileT k + r) = []) →
    (∀ e ∈ namedBanks s k, bankGood s k e.1 e.2 = true) → hdr s k 480 16 2 = data.length →
    hdr s k 480 20 4 = crc32c (data.flatMap (sliceBytes s k)) →
    ∃ u, exec (.configCheckDone t) s = .next u ∧ u.tc = max s.tc (tile s k).checkTc ∧ (tile u k).verified = true ∧ (tile u k).headerSeen = none ∧
      getF u (fieldBase (tileField k)) F.FLD_CFG_STAT_VERIFIED = min (2 ^ F.FLD_CFG_STAT_VERIFIED.w - 1)
        (getF s (fieldBase (tileField k)) F.FLD_CFG_STAT_VERIFIED + 1) ∧
      u.load = some { l with left := l.left - 1, verified := l.verified + 1 } ∧ MemoryKept s u) ∧
  (∀ (s : State) (t : TileId) (l : Load),
    let k := tileNo t
    s.load = some l → l.calve = false → life s k = .instar → (tile s k).verified = true → released s k = true → 0 < tileT k →
    (∀ j, j < tileT k → life s (clusterTile (tileCluster k) j) ≠ .instar) →
    bankNrec s k 480 = 0 → bankNirows s k 480 = 0 →
    ∃ u, exec (.eclosion t) s = .next u ∧ life u k = .live ∧
      getF u (tileBase k) F.TSQ_CFG_IMAGE_TAG = bankTag s k 480 ∧ getF u (tileBase k) F.TSQ_CFG_BANK = 0 ∧
      (∀ n, n < 8 → ctxState u k n = 0) ∧ (∀ q, (queueOf u k q) = []) ∧ (tile u k).verified = false ∧ MemoryKept s u)

/-- EXCHANGE_RUN at a tile that waits for an exchange, its beat before done and nothing suspect, and a bank whose check fails: 0x34, the bank no longer
valid, the tile FROZEN with its configuration as it was; with a good bank without records or rows, read without a parity error, the tile is on it and has
opened the beat, at the beat's open and the time that the exchange takes (R214, R215). Rests on the model's choices of log entries 4 and 153. -/
def ExchangeTakesOrKeeps : Prop :=
  ∀ (s : State) (t : TileId) (x : Exch) (e : OpenBeat),
    let k := tileNo t
    let b := tileBase k
    let r := bankBase s k x.bank
    s.exch = some x → (tile s k).exchWait = true → seenOf s k ≤ tailsOf s k → suspect s (tileCluster k) 0 = false →
    suspect s (tileCluster k) 1 = false → (lat s k).failed = [] → beatAt s (tileField k) (seenOf s k) = some e →
    backed s (tileCluster k) = true → x.bank < 4 → (∀ i, i < 512 → rowBad s (tileCluster k) (512 * tileT k + i) = []) →
    (bankGood s k x.bank r = false → ∃ u, exec (.exchangeRun t) s = .next u ∧ life u k = .frozen ∧ (tile u k).exchWait = false ∧
      getF u b (F.TSQ_CFGB_VALID.at (8 * x.bank)) = 0 ∧ look 0 (tile u k).tokens 0x34 = look 0 (tile s k).tokens 0x34 + 1 ∧
      (tile u k).ib = (tile s k).ib ∧ getF u b F.TSQ_CFG_BANK = getF s b F.TSQ_CFG_BANK ∧ u.exch = some x ∧ MemoryKept s u) ∧
    (bankGood s k x.bank r = true → bankNrec s k r = 0 → bankNirows s k r = 0 → 1 < x.left →
      (∀ j ∈ x.done, tileCluster j = tileCluster k → bankNrec s j (bankBase s j x.bank) = 0) →
      getF s b F.TSQ_BEATCFG_START_MASK = 0 → ∃ u, exec (.exchangeRun t) s = .next u ∧ (tile u k).exchWait = false ∧
      u.tc = max s.tc (e.openTc + exchangeTime s k r) ∧ life u k = .live ∧
      getF u b F.TSQ_CFG_BANK = x.bank ∧ getF u b (F.TSQ_CFGB_VALID.at (8 * x.bank)) = 1 ∧
      getF u b F.TSQ_CFG_EXCH_CNT = (getF s b F.TSQ_CFG_EXCH_CNT + 1) % 2 ^ F.TSQ_CFG_EXCH_CNT.w ∧
      (∀ n, n < 8 → ctxState u k n = 0) ∧ (tile u k).seen = seenOf s k + 1 ∧
      u.exch = some { x with left := x.left - 1, done := k :: x.done } ∧ ∀ a, Mem.read u.scratch a = Mem.read s.scratch a)

/-! ### Beats (R65, R66, R193 to R203, R238, R396) -/

/-- BEAT_TICK falls at its time, outside a restart and not at the root: the number rises by one after the first, the tick stands at its time, the next is due
a period on, FAB.TICK shows it, and each port that sends ticks has one TICK frame more, with the number and the period (R288, R396). OPEN_PULSE
falls 500 tc before the scheduled open, at most one beat open: the field's parity flips, the next beat number follows, and the open beats gain one of the
new parity that opens as scheduled (R195, R199). Rests on the model's choice of log entry 4. -/
def TicksAndPulses : Prop :=
  (∀ s : State, s.beats.running = true → s.dom.restart = none → isRoot s = false →
    ∃ u, exec .beatTick s = .next u ∧ u.tc = max s.tc s.beats.due ∧
      u.beats.no = (if s.beats.ticked then s.beats.no + 1 else s.beats.no) ∧ u.beats.ticked = true ∧ u.beats.at_ = s.beats.due ∧
      u.beats.due = s.beats.due + s.beats.period * freq u / 1000 ∧ u.beats.period = s.beats.period ∧
      getF u 0 F.FAB_TICK_BEAT = u.beats.no % 2 ^ F.FAB_TICK_BEAT.w ∧
      (∃ l, u.dom.out = s.dom.out ++ l ∧ l.map Prod.fst = tickPorts s ∧ ∀ x ∈ l, x.2.op = 3 ∧
        bits x.2.operand.toNat 0 32 = u.beats.no % 2 ^ 32 ∧ bits x.2.operand.toNat 32 24 = s.beats.period % 2 ^ 24) ∧
      (∀ k, tile u k = tile s k) ∧ MemoryKept s u) ∧
  (∀ (s : State) (f : FieldId) (n : Nat),
    let v := field s f
    v.nextNo = some n → mayOpen s f n = true → v.beats.length ≤ 1 → ∃ u, exec (.openPulse f) s = .next u ∧
      u.tc = max s.tc (pulseTc s f n) ∧
      (field u f).par = 1 - v.par ∧ (field u f).pulses = v.pulses + 1 ∧ (field u f).nextNo = some (n + 1) ∧ (field u f).ramp = false ∧
      (∃ e, (field u f).beats = v.beats ++ [e] ∧ e.no = n ∧ e.parity = 1 - v.par ∧ e.openTc = openTc s f n ∧ e.ramp = v.ramp ∧
        e.opened = false) ∧
      RegsKept s u [] ∧ OtherFieldsKept s u f ∧ (∀ k, tile u k = tile s k) ∧ MemoryKept s u)

/-- FIELD_SEAL of a field whose oldest open beat is tail-done everywhere and free of suspicion: it is the last SEALED beat, SEALED_NO counts it, and TAIL_TIME has its
time; with a freeze waiting for it, no beat left and no THAW waiting the field is then FROZEN; a pulse that waited for it, within the stretch limit, goes
out at once, and STRETCHED and STRETCH_CNT tell it. SEAL_LATE past the stretch raises 0x31 and withholds the field's beats; in a domain the engine will vote FAIL with 0x31, and outside one every LIVE field is FROZEN. FREEZE_TIMEOUT past the limit forces a LIVE
field FROZEN with 0x33, its open beats given up (R198, R199, R203). Rests on the model's choice of log entry 56. -/
def BeatsSealOrStop : Prop :=
  (∀ (s : State) (f : FieldId) (e : OpenBeat) (r : List OpenBeat),
    let b := fieldBase f
    let v := field s f
    v.beats = e :: r → sealable s f v.seals e.parity = true → sealOverdue s f = false → ∃ u, exec (.fieldSeal f) s = .next u ∧
      (field u f).seals = v.seals + 1 ∧ (field u f).lastSealed = some e.no ∧
      getF u b F.FLD_BEAT_STAT_SEALED_NO = (getF s b F.FLD_BEAT_STAT_SEALED_NO + 1) % 2 ^ F.FLD_BEAT_STAT_SEALED_NO.w ∧
      getF u b F.FLD_TAIL_TIME_SEAL_AT = (s.tc - e.openTc) % 2 ^ F.FLD_TAIL_TIME_SEAL_AT.w ∧
      (v.freezeReq ≠ none → r = [] → waiters s (· == .thaw) = [] → s.dom.thawWait = false → (look {} u.lifeF f).st = .frozen) ∧
      (∀ n, r ≠ [] → v.nextNo = some n → mayOpen s f n = true → pulseTc s f n < s.tc →
        (∃ x, (field u f).beats = r ++ [x] ∧ x.no = n ∧ x.openTc = s.tc + 500) ∧ (field u f).nextNo = some (n + 1) ∧
        getF u b F.FLD_BEAT_ERR_STRETCHED = 1 ∧
        getF u b F.FLD_BEAT_ERR_STRETCH_CNT = min (2 ^ F.FLD_BEAT_ERR_STRETCH_CNT.w - 1) (getF s b F.FLD_BEAT_ERR_STRETCH_CNT + 1)) ∧
      MemoryKept s u) ∧
  (∀ (s : State) (f : FieldId) (n : Nat),
    let v := field s f
    v.nextNo = some n → 2 ≤ v.beats.length → mayOpen s f n = true →
    pulseTc s f n + nsTc s (getF s (fieldBase f) F.FLD_BEAT_WIN_STRETCH) < s.tc → waiters s (· == .thaw) = [] → s.dom.thawWait = false →
    ∃ u, exec (.sealLate f) s = .next u ∧ (field u f).withheld = true ∧ getF u (fieldBase f) F.FLD_BEAT_ERR_SEAL_LATE = 1 ∧
      (joined s = true → u.dom.fail = 0x31 ∧ u.stepFail = true ∧ u.lifeF = s.lifeF) ∧
      (joined s = false → ∀ g, g < 168 → (look {} s.lifeF g).st = .live → (look {} u.lifeF g).st = .frozen) ∧ MemoryKept s u) ∧
  (∀ (s : State) (f : FieldId) (a : Nat),
    (field s f).freezeReq = some a → (look {} s.lifeF f).st = .live → a + usTc s (getF s (fieldBase f) F.FLD_FREEZE_CFG_LIMIT) < s.tc →
    waiters s (· == .thaw) = [] → s.dom.thawWait = false → ∃ u, exec (.freezeTimeout f) s = .next u ∧
      (look {} u.lifeF f).st = .frozen ∧ (field u f).forced = true ∧ (field u f).timedOut = true ∧ (field u f).beats = [] ∧ u.stepFail = true ∧
      getF u (fieldBase f) F.FLD_BEAT_ERR_FREEZE_TO = 1 ∧ MemoryKept s u)

/-- STEP_CHECKPOINT of a joined engine whose running step is SEALED in every LIVE field, nothing being voted, frozen, calved or tainted, the mesh empty, and
scratch either left out or without a parity error: the checkpoint goes to the other slot, the step awaits its vote, the next step runs from the barrier on, and every field is LIVE again; scratch is as before (R238). Rests on the model's choices of log entries 61, 79 and 178. -/
def StepIsCheckpointed : Prop :=
  ∀ (s : State) (st : Nat), s.dom.running = some st → joined s = true → stepSealed s = true → s.dom.voting = none → s.dom.rolled = false →
    jitorUp s = true → s.stepFail = false → s.dep.calves = [] → s.dep.stuck = false → waiters s (· == .thaw) = [] → s.dom.thawWait = false →
    getF s 0 F.PWR_DIN_FRZ_ACT = 0 → meshBusy s = false → (getF s 0 F.FAB_POLICY_SCRATCH = 0 ∨ s.badPar = []) →
    (∀ f, f < 168 → (look {} s.lifeF f).st = .live ∧ (field s f).freezeReq = none ∧ (field s f).started = true) →
    ∃ u, exec .stepCheckpoint s = .next u ∧ u.dom.voting = some st ∧ u.dom.slot = 1 - s.dom.slot ∧ (1 - s.dom.slot, st) ∈ u.dom.slots ∧
      u.dom.running = some (st + 1) ∧ u.dom.first = some (barrierBeat s) ∧ u.dom.atCkpt = false ∧
      (∀ f, f < 168 → (look {} u.lifeF f).st = .live ∧ (field u f).nextNo = some (barrierBeat s) ∧ (field u f).ramp = true) ∧
      ∀ a, Mem.read u.scratch a = Mem.read s.scratch a

/-! ### Self-tests and calving (R23 to R25, R244, R245, R392) -/

/-- SELFTEST_DONE of a field in SELFTEST records its run: duration, clusters failed and passed of rows 0 to 23, one run more. SPARE_SELFTEST_DONE, a calving in its
first phase: with no spare failed it enters phase 2; a failed in-row spare gets its P record, and where calving may run the hub moves on to another way.
SHIFT_TABLE_UPDATE in phase 2 by the in-row spare, where calving may run and the rows that move hold no flit: the column hole of the row moves to the
retired cluster, which is marked bad with the spares that failed, MAP_SEQ counts the one change, the tiles of the clusters that moved are to be reloaded
in phase 3. Rests on the model's choices of log entries 63, 65, 157 and 161. -/
def SparesTakeOver : Prop :=
  (∀ (s : State) (f : FieldId) (l : List PhysId) (ms : BitVec 16),
    let b := fieldBase f
    let n := (l.filter fun p => decide (p.pcy.val < 24)).length
    (look {} s.lifeF f).st = .selftest → (field s f).tested = false → n ≤ 600 → ∃ u, exec (.selftestDone f l ms) s = .next u ∧
      (field u f).tested = true ∧ getF u b F.FLD_ST_STAT_DURATION = ms.toNat ∧ getF u b F.FLD_ST_STAT_FAILED = n ∧
      getF u b F.FLD_ST_STAT_PASSED = 600 - n ∧
      getF u b F.FLD_ST_STAT_RUNS = min (2 ^ F.FLD_ST_STAT_RUNS.w - 1) (getF s b F.FLD_ST_STAT_RUNS + 1) ∧ MemoryKept s u) ∧
  (∀ (s : State) (f : FieldId) (r : CalveReq) (l : List CalveReq) (failed : List PhysId),
    let b := fieldBase f
    let way := getF s b F.FLD_CALVE_STAT_WAY
    s.dep.calves = r :: l → r.field = f.val → calvePhase s f = 1 → jitorUp s = true → r.pcx < 25 → r.pcy < 25 →
    (failed = [] → ∃ u, exec (.spareSelftestDone f failed) s = .next u ∧ calvePhase u f = 2 ∧
      RegsKept s u [b + F.FLD_CALVE_STAT_PHASE.off] ∧ OnlyRegs s u ∧ MemoryKept s u) ∧
    (∀ q ∈ failed, way = 0 → q.pcx.val = colHole s f r.pcy → q.pcy.val = r.pcy → bit (colBad s f r.pcy) (colHole s f r.pcy) = false → r.failed = [] →
      ∃ u, exec (.spareSelftestDone f failed) s = .next u ∧
        (∃ e ∈ u.dep.log.ring, e.field = f ∧ e.pcx = colHole s f r.pcy ∧ e.pcy = r.pcy ∧ e.code = 0x22 ∧ e.outcome = 2 ∧ e.seq = s.dep.log.seq) ∧
        (calveGate s = true → (∀ g, g < 168 → g ≠ f.val → calvePhase s g = 0) → getF u b F.FLD_CALVE_STAT_WAY ≠ 0))) ∧
  (∀ (s : State) (f : FieldId) (r : CalveReq) (l : List CalveReq) (base c : Nat),
    let b := fieldBase f
    let m := movedClusters s (retire s r 0) f
    s.dep.calves = r :: l → r.field = f.val → calvePhase s f = 2 → calveGate s = true → r.pcx < 25 → r.pcy < 25 →
    getF s b F.FLD_CALVE_STAT_WAY = 0 → rowsEmpty s f m = true → s.beats.image = some base → c ∈ m → backed (retire s r 0) c = true →
    ∃ u, exec (.shiftTableUpdate f) s = .next u ∧ colHole u f r.pcy = r.pcx ∧ bit (colBad u f r.pcy) r.pcx = true ∧
      (∀ p ∈ r.failed, p.1 < 25 → p.2 < 25 → bit (colBad u f p.2) p.1 = true) ∧
      getF u b F.FLD_SHIFT_ROW_MAP_SEQ = (getF s b F.FLD_SHIFT_ROW_MAP_SEQ + 1) % 2 ^ F.FLD_SHIFT_ROW_MAP_SEQ.w ∧ calvePhase u f = 3 ∧
      (∃ x, u.load = some x ∧ x.base = base ∧ x.calve = true ∧ x.left = 16 * (m.filter fun d => backed u d).length) ∧
      ∀ a, Mem.read u.firn a = Mem.read s.firn a)

/-! ### Edge streams (R258 to R269) -/

/-- A write of STR.CFG(n) with EN to a stream that is off (STREAM_ENABLE): the fields are stored; where R269 refuses the stream, judged on those
fields, EN stays 0 and 0xF1 is the wing's latest stream condition, else EN is 1. One that clears EN of a stream that is on (STREAM_DISABLE) drops
what its banks hold and changes no field else (R269). Memory is unchanged. Rests on the model's choice of log entry 70. -/
def StreamsAreEnabledAndDisabled : Prop :=
  ∀ (s : State) (n : Fin 65536) (v : Word),
    let b := strBase n
    let a := b + F.STR_CFG_EN.off
    let s0 := plainWrite s a (v &&& ~~~(BitVec.ofNat 64 (2 ^ 63)))
    (strOn s n = false → ∃ u, exec (.streamEnable n v) s = .next u ∧
      (∀ x : Fld, x ∈ [F.STR_CFG_KIND, F.STR_CFG_MODE, F.STR_CFG_ANCHOR, F.STR_CFG_BANKROWS, F.STR_CFG_BUFBASE] →
        getF u b x = bits v.toNat x.lo x.w) ∧
      strOn u n = !(strRefused s0 n) ∧
      (strRefused s0 n = true → getF u 0 (F.EVC_SRC_STAT_LAST_CODE.at (8 * (258 + strWing n))) = 0xF1 ∧ u.streams = s.streams) ∧
      (∀ m, m ≠ n.val → strm u m = strm s m) ∧ MemoryKept s u) ∧
    (strOn s n = true → ∃ u, exec (.streamDisable n v) s = .next u ∧ strOn u n = false ∧ strm u n = { out := breakOff (strm s n), link := (strm s n).link, key := (strm s n).key } ∧
      rd u a = rd s a - 2 ^ 63 ∧ RegsKept s u [a] ∧ (∀ m, m ≠ n.val → strm u m = strm s m) ∧ MemoryKept s u)

/-- STREAM_FLIT_MOVE, the stream running: the producer's side of a row that has come takes its next flit into the bank being filled, with the row's
mark (said of a flit that is not the row's last); the consumer's side of KIND 1, 2 or 4, its edge link granted, takes the bank's head flit into the router
at the link's end, behind a header at the start of a row; a pointer that does not match empties both banks and raises 0x2A (R261, R265). BANK_SWAP of a
full bank, the other empty, hands it over; BANK_TIMEOUT hands a short bank over, counts it and raises FLUSHED; DEADLINE_MISS counts and raises
the miss once for its bank (R261, R262, R266). Memory is unchanged. Rests on the model's choices of log entries 4, 71, 72 and 164. -/
def StreamsMoveTheirFlits : Prop :=
  ∀ (s : State) (n : Fin 65536),
    let b := strBase n
    let v := strm s n
    let k := (edgeOf s n).1
    let d := (edgeOf s n).2
    strRuns s n = true →
    (∀ r rest x p, strKind s n ∈ [1, 4, 5, 6] → v.fin = false → v.prod.length < bankFlits s n → v.rowAt ≠ 15 → v.rows = r :: rest →
      r.data = some (x, p) → ∃ u e, exec (.streamFlitMove n true false) s = .next u ∧ (strm u n).prod = v.prod ++ [e] ∧
        u.tc = max s.tc v.inTc ∧ e.data = rowFlit x v.rowAt ∧ e.poison = p ∧ (strm u n).cons = v.cons ∧ (strm u n).rows = v.rows ∧
        (p = true → getF u b F.STR_STAT_POISON = 1) ∧ MemoryKept s u) ∧
    (∀ f rest, strKind s n ∈ [1, 2, 4] → v.out = [] → v.cons = f :: rest → linkGranted s n = true → (inqOf s k d).length + 2 ≤ 8 →
      ∃ u h, exec (.streamFlitMove n false false) s = .next u ∧ (strm u n).cons = rest ∧ (strm u n).sent = (v.sent + 1) % 16 ∧
        inqOf u k d = inqOf s k d ++ (if v.sent = 0 then [h] else []) ++
          [{ data := f.data, kind := if v.sent = 15 then 3 else 2, poison := f.poison }] ∧
        (v.sent = 0 → h.kind = 0 ∧ hDest h.data = strF s n F.STR_TILE_DEST ∧ hPort h.data = strF s n F.STR_TILE_PORT ∧ msgLen h.data = 15) ∧
        MemoryKept s u) ∧
    (∀ side, ∃ u, exec (.streamFlitMove n side true) s = .next u ∧ (strm u n).prod = [] ∧ (strm u n).cons = [] ∧
      getF u b F.STR_STAT_PTR = 1 ∧
      getF u 0 (F.EVC_SRC_STAT_LAST_CODE.at (8 * (258 + strWing n))) = 0x2A ∧
      getF u b F.STR_STAT_PTR_RESETS = min (2 ^ F.STR_STAT_PTR_RESETS.w - 1) (getF s b F.STR_STAT_PTR_RESETS + 1) ∧ MemoryKept s u) ∧
    (v.cons = [] → v.prod ≠ [] → (v.fin = true ∨ bankFlits s n ≤ v.prod.length) → ∃ u, exec (.bankSwap n) s = .next u ∧
      (strm u n).cons = v.prod ∧ (strm u n).prod = [] ∧ (strm u n).pbank = 1 - v.pbank ∧ MemoryKept s u) ∧
    (v.cons = [] → v.prod ≠ [] → v.prod.length < bankFlits s n → v.fin = false → strF s n F.STR_SCHED_TIMEOUT ≠ 0 →
      max v.empty v.first + 16 * strF s n F.STR_SCHED_TIMEOUT ≤ s.tc → ∃ u, exec (.bankTimeout n) s = .next u ∧
      (strm u n).cons = v.prod ∧ (strm u n).prod = [] ∧ getF u b F.STR_STAT_FLUSHED = 1 ∧
      getF u b F.STR_STAT_FLUSHES = min (2 ^ F.STR_STAT_FLUSHES.w - 1) (getF s b F.STR_STAT_FLUSHES + 1) ∧ MemoryKept s u) ∧
    (v.cons ≠ [] → v.missed = false → strF s n F.STR_SCHED_DEADLINE ≠ 0 → v.base + strF s n F.STR_SCHED_DEADLINE < s.tc →
      ∃ u, exec (.deadlineMiss n) s = .next u ∧ strm u n = { v with missed := true } ∧ getF u b F.STR_STAT_DL_MISS = 1 ∧
      getF u b F.STR_STAT_MISSES = min (2 ^ F.STR_STAT_MISSES.w - 1) (getF s b F.STR_STAT_MISSES + 1) ∧ MemoryKept s u)

/-! ### Firn and the host's window (R251 to R257, R360) -/

/-- FIRN_READ_DONE of a ready stack's oldest transaction, a read: the row it is for takes the granule's bytes and mark; uncorrectable, it is
poisoned, as the granule then is, counted and reported with 0x12. FIRN_WRITE_DONE of the oldest, a write: the granule's 512 bytes and its
mark are as written, every other byte as before. PATROL_READ of a sound granule, the engine not parked, only counts a read; of an uncorrectable one it
poisons the granule (R253 to R255). Rests on the model's choice of log entry 69. -/
def FirnAnswersItsTransactions : Prop :=
  ∀ (s : State) (st : Fin 32),
    let b := frnBase st
    frnState s st = 2 →
    (∀ n key a rest, firnPending s st = .read n key a :: rest → stackOf a = st →
      (∀ corr, ∃ u, exec (.firnReadDone st corr 0) s = .next u ∧
        (strm u n).rows.take (strm s n).rows.length = (strm s n).rows.map (fun r =>
          if r.key = key ∧ r.data = none then { r with data := some (firnRow s a, firnPoisoned s a) } else r) ∧ MemoryKept s u) ∧
      (∀ corr uncorr, uncorr ≠ 0 → ∃ u, exec (.firnReadDone st corr uncorr) s = .next u ∧
        (∀ r ∈ (strm u n).rows.take (strm s n).rows.length, r.key = key → r.data.isSome = true) ∧ firnPoisoned u a = true ∧
        getF u b F.FRN_ECC_CNT_UNCORR = min (2 ^ F.FRN_ECC_CNT_UNCORR.w - 1) (getF s b F.FRN_ECC_CNT_UNCORR + 1) ∧
        getF u 0 (F.EVC_SRC_STAT_LAST_CODE.at (8 * (224 + st.val))) = 0x12 ∧
        (∀ x, x / 512 ≠ a / 512 → Mem.read u.firn x = Mem.read s.firn x) ∧ ∀ x, Mem.read u.scratch x = Mem.read s.scratch x)) ∧
    (∀ a v p rest, firnPending s st = .write a v p :: rest → stackOf a = st → ∃ u, exec (.firnWriteDone st) s = .next u ∧
      (firnPending u st).take rest.length = rest ∧ firnPoisoned u a = p ∧ (∀ i, i < 512 → Mem.read u.firn (a / 512 * 512 + i) = v.extractLsb' (8 * i) 8) ∧
      (∀ x, x / 512 ≠ a / 512 → Mem.read u.firn x = Mem.read s.firn x) ∧
      getF u b F.FRN_BW_CNT_WRITES = min (2 ^ F.FRN_BW_CNT_WRITES.w - 1) (getF s b F.FRN_BW_CNT_WRITES + 1) ∧
      ∀ x, Mem.read u.scratch x = Mem.read s.scratch x) ∧
    (∀ g : Fin 134217728, firnPending s st = [] → getF s b F.FRN_CFG_PATROL_H ≠ 0 → getF s 0 F.PWR_STATUS_STATE < 4 →
      (∃ u, exec (.patrolRead st g 0 0) s = .next u ∧
        getF u b F.FRN_BW_CNT_READS = min (2 ^ F.FRN_BW_CNT_READS.w - 1) (getF s b F.FRN_BW_CNT_READS + 1) ∧
        RegsKept s u [b + F.FRN_BW_CNT_READS.off] ∧ OnlyRegs s u ∧ MemoryKept s u) ∧
      ∀ corr uncorr, uncorr ≠ 0 → ∃ u, exec (.patrolRead st g corr uncorr) s = .next u ∧ firnPoisoned u (granuleAddr st g) = true ∧
        ∀ x, Mem.read u.scratch x = Mem.read s.scratch x)

/-- BAR4_READ, the firn available, no transaction waiting on its granules and every one in a ready stack, answers the bytes from WIN_BASE + OFFSET on; before that it
answers the recovery buffer's. BAR4_WRITE puts its bytes there and leaves every other byte of firn and all of scratch as before; before that it
puts them into the recovery buffer, as far as they fit (R257, R360). Rests on the model's choice of log entry 163. -/
def HostReadsAndWritesFirn : Prop :=
  ∀ (s : State) (off : Fin 17179869184),
    let a := barAddr s off
    s.steward.on = true →
    (∀ (len : Fin 513) (corr : List Nat),
      (firnAvailable s = true → firnTurn s (granulesOf a len) = true → (∀ g ∈ granulesOf a len, frnState s (stackOf g) = 2) →
        ∃ u, exec (.bar4Read off len corr []) s = .next u ∧ u.bus.length = len ∧
          (∀ i (h : i < len.val), u.bus[i]? = some (Mem.read s.firn (a + i))) ∧ MemoryKept s u) ∧
      (firnAvailable s = false → ∃ u, exec (.bar4Read off len corr []) s = .next u ∧ u.bus.length = len ∧
          (∀ i (h : i < len.val), u.bus[i]? = some (Mem.read s.steward.recovery (off + i))) ∧ { u with bus := s.bus } = s)) ∧
    (∀ (data : List Byte) (corr : List Nat),
      (firnAvailable s = true → firnTurn s (granulesOf a data.length) = true →
        (∀ g ∈ granulesOf a data.length, frnState s (stackOf g) = 2) → ∃ u, exec (.bar4Write off data corr []) s = .next u ∧
          (∀ i (h : i < data.length), Mem.read u.firn (a + i) = data[i]) ∧
          (∀ x, (x < a ∨ a + data.length ≤ x) → Mem.read u.firn x = Mem.read s.firn x) ∧
          ∀ x, Mem.read u.scratch x = Mem.read s.scratch x) ∧
      (firnAvailable s = false → off.val + data.length ≤ 16777216 → ∃ u, exec (.bar4Write off data corr []) s = .next u ∧
        (∀ i (h : i < data.length), Mem.read u.steward.recovery (off + i) = data[i]) ∧
        (∀ x, (x < off.val ∨ off.val + data.length ≤ x) → Mem.read u.steward.recovery x = Mem.read s.steward.recovery x) ∧ MemoryKept s u))

/-! ### Fabric ports (R271 to R287) -/

/-- A frame that comes to an UP port and that R276, R277 and R284 let through. -/
def frameGood (s : State) (p : Nat) (f : Frame) : Prop :=
  portUp s p = true ∧ destOurs s p f = true ∧ typeOurs s p f = true ∧ (getF s (fab p) F.FAB_MACSEC_EN = 0 ∨ icvGood s p f = true) ∧
    frameBad s f = false

/-! ### The tick domain (R227, R287 to R297, R333) -/

/-- The condition last raised behind an EVC source (EVC.SRC_STAT(n).LAST_CODE). -/
def lastCode (s : State) (n : Nat) : Nat := getF s 0 (F.EVC_SRC_STAT_LAST_CODE.at (8 * n))

/-- Exactly one Driftline frame other than DATA has left since, at a port, with an operation and an operand, where that port is UP; none where it is
not. -/
def sentOne (s u : State) (p op operand : Nat) : Prop :=
  (portUp s p = true → ∃ fr, u.dom.out = s.dom.out ++ [(p, fr)] ∧ fr.op.toNat = op ∧ fr.operand.toNat = operand) ∧
    (portUp s p = false → u.dom.out = s.dom.out)

/-- A good TICK at the tick port of a joined engine: its period is the domain's, its tick is noted; of a running train whose last tick it is it sets the
tick's time DELAY and 200 ns back, and of one that has made other ticks, or none, the tick is still to be made, then; of a train that does not run the
next tick is the one after it (R288, R289). At another port it is only counted. TICK_MISSING counts a tick whose frame has not come in time, with 0x48 the first time. -/
def TicksAlignTheEngine : Prop :=
  (∀ (s : State) (p : Fin 32) (f : Frame),
    let o := f.operand.toNat
    let n := wideBeat s.beats.no (bits o 0 32)
    let t := s.tc - nsTc s (getF s 0 F.FAB_TICK_DELAY + 200)
    frameGood s p f → f.op = 3 →
    (joined s = true → getF s 0 F.FAB_DOM_TICKPORT = p.val → ∃ u, exec (.tick p f) s = .next u ∧
      u.dom.period = bits o 32 24 ∧ u.dom.tickFor = some n ∧ u.beats.period = bits o 32 24 ∧
      (s.beats.running = false → nextTick u = n + 1 ∧ u.beats.ticked = false ∧ u.beats.due = t + nsTc s (bits o 32 24)) ∧
      (s.beats.running = true → s.beats.ticked = true → s.beats.no = n → u.beats.no = n ∧ u.beats.ticked = true ∧ u.beats.at_ = t ∧
        u.beats.due = t + nsTc s (bits o 32 24)) ∧
      (s.beats.running = true → s.beats.ticked = false ∨ s.beats.no ≠ n → nextTick u = n ∧ u.beats.due = t) ∧
      (∀ k, tile u k = tile s k) ∧ MemoryKept s u) ∧
    (joined s = false ∨ getF s 0 F.FAB_DOM_TICKPORT ≠ p.val → ∃ u, exec (.tick p f) s = .next u ∧
      RegsKept s u [fab p + F.FAB_CNT_RX.off] ∧ OnlyRegs s u ∧ MemoryKept s u)) ∧
  (∀ s : State, joined s = true → isRoot s = false → s.beats.running = true → s.beats.ticked = true → s.dom.tickFor ≠ some s.beats.no →
    s.beats.at_ + nsTc s (getF s 0 F.FAB_TICK_DELAY + 200) < s.tc → ∃ u, exec .tickMissing s = .next u ∧
      getF u 0 F.FAB_TICK_MISSED = min (2 ^ F.FAB_TICK_MISSED.w - 1) (getF s 0 F.FAB_TICK_MISSED + 1) ∧
      u.dom.tickFor = some s.beats.no ∧ (s.dom.tickLost = none → lastCode u 322 = 0x48) ∧ u.beats = s.beats ∧ MemoryKept s u)

/-- Votes: TAINT_VOTE of an engine outside a domain only takes the taint off, and in one votes FAIL with 0x24 for the running step; VOTE_SEND of an
engine whose step is checkpointed, its children's OK votes all there and no replica asked for, sends OK up; a VOTE of the epoch is held, and before
formation nothing else follows; a FAIL for an open step goes on up at once (R227, R293). (Each FAIL or OK said of an engine that is not the
root and has voted nothing yet.) VOTE_TIMEOUT at the root raises 0x46, raises the epoch, and rolls back (R294). Rests on the model's choices of log entries 77, 79 and 169. -/
def VotesGoUp : Prop :=
  (∀ s : State, s.stepFail = true →
    (joined s = false → ∃ u, exec .taintVote s = .next u ∧ u.stepFail = false ∧ u.dom = s.dom ∧ RegsKept s u [] ∧ MemoryKept s u) ∧
    (∀ st, joined s = true → s.dom.running = some st → s.dom.fail = 0 → isRoot s = false → s.dom.own = [] → s.dom.sent = [] →
      ∃ u, exec .taintVote s = .next u ∧ u.stepFail = false ∧ u.dom.own = [(st, 0x24)] ∧ u.dom.sent = [(st, 0x24)] ∧
        sentOne s u (parentPort s) 4 ((st + 0x24 * 2 ^ 48) % 2 ^ 64) ∧ MemoryKept s u)) ∧
  (∀ (s : State) (st : Nat), joined s = true → isRoot s = false → s.dom.fail = 0 → s.dom.voting = some st → (slotOf s st).isSome = true →
    getF s 0 F.FAB_POLICY_REPLICA = 0xFFFF → s.dom.own = [] → s.dom.sent = [] → (∀ v ∈ s.dom.votes, v.step = st → v.result = 0) →
    childrenOk s st = true → ∃ u, exec .voteSend s = .next u ∧ u.dom.own = [(st, 0)] ∧ u.dom.sent = [(st, 0)] ∧
      (getF s 0 F.FAB_STEP_ID = st → getF s 0 F.FAB_STEP_STATE = 0 → getF u 0 F.FAB_STEP_STATE = 1) ∧
      sentOne s u (parentPort s) 4 (st % 2 ^ 64) ∧ MemoryKept s u) ∧
  (∀ (s : State) (p : Fin 32) (f : Frame),
    let o := f.operand.toNat
    let v : VoteRec := { from_ := f.srcId.toNat, step := bits o 0 48, result := knownCode (bits o 48 8) }
    frameGood s p f → f.op = 4 → joined s = true → isRoot s = false → f.epoch.toNat = getF s 0 F.FAB_DOM_EPOCH →
    (getF s 0 F.FAB_DOM_PHASE < 4 → ∃ u, exec (.vote p f) s = .next u ∧ v ∈ u.dom.votes ∧ u.dom.out = s.dom.out ∧
      (∀ w ∈ s.dom.votes, (w.from_ ≠ v.from_ ∨ w.step ≠ v.step) → w ∈ u.dom.votes) ∧
      RegsKept s u [fab p + F.FAB_CNT_RX.off] ∧ MemoryKept s u) ∧
    (4 ≤ getF s 0 F.FAB_DOM_PHASE → getF s 0 F.FAB_COMMITTED_ID < v.step → v.result ≠ 0 → s.dom.own = [] → s.dom.sent = [] →
      ∃ u, exec (.vote p f) s = .next u ∧ v ∈ u.dom.votes ∧ u.dom.sent = [(v.step, v.result)] ∧
        sentOne s u (parentPort s) 4 (v.step + v.result * 2 ^ 48) ∧ MemoryKept s u)) ∧
  (∀ (s : State) (t : Nat), isRoot s = true → s.dom.firstVote = some t → t + usTc s (1000 * getF s 0 F.FAB_POLICY_VOTE_TO) ≤ s.tc →
    ∃ u, exec .voteTimeout s = .next u ∧ lastCode u 322 = 0x46 ∧ getF u 0 F.FAB_DOM_EPOCH = (getF s 0 F.FAB_DOM_EPOCH + 1) % 65536 ∧
      getF u 0 F.FAB_COMMITTED_ID = getF s 0 F.FAB_COMMITTED_ID ∧ u.dom.rolled = true ∧ u.dom.votes = [] ∧
      u.dom.opens = some (getF s 0 F.FAB_COMMITTED_ID + 1))

/-- Good ORDER frames at a joined engine: COMMIT commits its step; ROLLBACK takes the frame's epoch, gives every open step up and freezes every LIVE field
until its RESTART; RESTART names the tick it waits for; FREEZE freezes the LIVE fields with nothing open and asks the others for it; THAW, unless a calving
bars it, lets every FROZEN field go on, a started one at the next barrier; FORMED ends formation with the epoch, and the step after the committed one is next to open. LOST is noted, and
goes on up (R294, R297). (FREEZE and ROLLBACK said where no THAW waits.) Rests on the model's choices of log entries 79, 155 and 169. -/
def OrdersAreObeyed : Prop :=
  ∀ (s : State) (p : Fin 32) (f : Frame),
    let o := f.operand.toNat
    let n := bits o 4 48
    frameGood s p f → joined s = true →
    (f.op = 5 → bits o 0 4 = 0 → ∃ u, exec (.orderCommit p f) s = .next u ∧ getF u 0 F.FAB_COMMITTED_ID = n ∧
      (getF s 0 F.FAB_STEP_ID = n → getF u 0 F.FAB_STEP_STATE = 2) ∧ (s.dom.voting = some n → u.dom.voting = none) ∧
      (∀ v ∈ u.dom.votes, n < v.step) ∧ MemoryKept s u) ∧
    (f.op = 5 → bits o 0 4 = 1 → waiters s (· == .thaw) = [] → s.dom.thawWait = false → ∃ u, exec (.orderRollback p f) s = .next u ∧
      getF u 0 F.FAB_DOM_EPOCH = f.epoch.toNat ∧ getF u 0 F.FAB_COMMITTED_ID = n ∧ u.dom.rolled = true ∧ u.dom.running = none ∧
      u.dom.voting = none ∧ u.dom.votes = [] ∧ u.dom.opens = some (n + 1) ∧ u.stepFail = false ∧
      ∀ g, g < 168 → (look {} s.lifeF g).st = .live → (look {} u.lifeF g).st = .frozen) ∧
    (f.op = 5 → bits o 0 4 = 2 → s.dom.rolled = true → ∃ u, exec (.orderRestart p f) s = .next u ∧ u.dom.restart = some n ∧
      (∀ k, tile u k = tile s k) ∧ MemoryKept s u) ∧
    (f.op = 5 → bits o 0 4 = 3 → s.dom.rolled = false → waiters s (· == .thaw) = [] → s.dom.thawWait = false →
      ∃ u, exec (.orderFreeze p f) s = .next u ∧ (∀ g, g < 168 → (look {} s.lifeF g).st = .live → (field s g).freezeReq = none →
        ((field s g).beats = [] → (look {} u.lifeF g).st = .frozen) ∧
        ((field s g).beats ≠ [] → (look {} u.lifeF g).st = .live ∧ (field u g).freezeReq = some s.tc)) ∧ MemoryKept s u) ∧
    (f.op = 5 → bits o 0 4 = 4 → s.dom.rolled = false → getF s 0 F.PWR_DIN_FRZ_ACT = 0 → s.clocks.realigned = true →
      getF s 0 F.CLK_STATUS_SAFE = 0 → mustStay s = false → freezing s = false → ∃ u, exec (.orderThaw p f) s = .next u ∧
      (∀ g, g < 168 → (look {} s.lifeF g).st = .frozen → (look {} u.lifeF g).st = .live ∧
        ((field s g).started = true → (field u g).nextNo = some (barrierBeat s) ∧ (field u g).ramp = true)) ∧ MemoryKept s u) ∧
    (f.op = 5 → bits o 0 4 = 5 → getF s 0 F.FAB_DOM_PHASE ≠ 4 → ∃ u, exec (.orderFormed p f) s = .next u ∧
      getF u 0 F.FAB_DOM_PHASE = 4 ∧ getF u 0 F.FAB_DOM_EPOCH = f.epoch.toNat ∧
      u.dom.opens = some (getF s 0 F.FAB_COMMITTED_ID + 1) ∧ MemoryKept s u) ∧
    (f.op = 6 → isRoot s = false → ∃ u, exec (.lost p f) s = .next u ∧ bits o 0 16 ∈ u.dom.lost ∧
      sentOne s u (parentPort s) 6 (bits o 0 16 + knownCode (bits o 16 8) * 2 ^ 16) ∧
      MemoryKept s u)

/-- FORMATION_PHASE of a joined, ready engine that is not the root: with its tick port UP it is in phase 1; a TICK period known, its reference source qualified and a
depth of at most 32, in phase 2, with half the smallest round trip, or the delay named where none was measured, and the depth in FAB.TICK and its train
running; a greater depth raises 0x47; all children's votes for step 0 there, in phase
3, its own sent up (R290, R292). JOIN_TIMEOUT 60 s after ready ends the join with 0x47. Rests on the model's choices of log entries 78, 169 and 171. -/
def FormationProceeds : Prop :=
  ∀ s : State, joined s = true → engineReady s = true →
    (∀ (d : BitVec 16) (h : BitVec 8), s.dom.asked = none → isRoot s = false →
      (getF s 0 F.FAB_DOM_PHASE = 0 → portUp s (getF s 0 F.FAB_DOM_TICKPORT) = true → ∃ u, exec (.formationPhase d h) s = .next u ∧
        getF u 0 F.FAB_DOM_PHASE = 1 ∧ MemoryKept s u) ∧
      (getF s 0 F.FAB_DOM_PHASE = 1 → h.toNat ≤ 32 → s.dom.period ≠ 0 → srcQualified s (getF s 0 F.FAB_DOM_TICKPORT) = true →
        ∃ u, exec (.formationPhase d h) s = .next u ∧ getF u 0 F.FAB_DOM_PHASE = 2 ∧
        (rttMin s (getF s 0 F.FAB_DOM_TICKPORT) = none → getF u 0 F.FAB_TICK_DELAY = d.toNat) ∧
        (∀ r, rttMin s (getF s 0 F.FAB_DOM_TICKPORT) = some r → getF u 0 F.FAB_TICK_DELAY = r / 2 % 2 ^ F.FAB_TICK_DELAY.w) ∧ getF u 0 F.FAB_TICK_DEPTH = h.toNat ∧
        u.beats.running = true ∧ u.beats.period = s.dom.period ∧ MemoryKept s u) ∧
      (getF s 0 F.FAB_DOM_PHASE = 1 → 32 < h.toNat → ∃ u, exec (.formationPhase d h) s = .next u ∧ getF u 0 F.FAB_DOM_PHASE = 1 ∧
        lastCode u 322 = 0x47 ∧ OnlyRegs s u ∧ MemoryKept s u) ∧
      (getF s 0 F.FAB_DOM_PHASE = 2 → childrenOk s 0 = true → ∃ u, exec (.formationPhase d h) s = .next u ∧
        getF u 0 F.FAB_DOM_PHASE = 3 ∧ sentOne s u (parentPort s) 4 0 ∧ MemoryKept s u)) ∧
    (getF s 0 F.FAB_DOM_PHASE < 4 → s.dom.readyTc + usTc s 60000000 ≤ s.tc → waiters s (· == .join) ≠ [] →
      ∃ u, exec .joinTimeout s = .next u ∧ joined u = false ∧ lastCode u 322 = 0x47 ∧ waiters u (· == .join) = [] ∧ MemoryKept s u)

/-! ### Power and cooling (R299 to R321) -/

/-- The actuator of a power class: 0 compute, 1 memory, 2 links. -/
def actOf (k : Nat) : Fld := if k = 0 then F.PWR_ACT_F_COMP else if k = 1 then F.PWR_ACT_F_MEM else F.PWR_ACT_F_LINK

/-! ### The event concentrator (R367 to R377) -/

/-- Address of EVC.SRC_STAT(n). -/
def srcStatAddr (n : Nat) : Nat := 0x14000 + 8 * n

/-- All but the event concentrator's own state, its registers at the addresses of `l` apart, is as before. -/
def OnlyEvc (s u : State) (l : List Nat) : Prop := { u with csr := s.csr, evc := s.evc } = s ∧ RegsKept s u l ∧ MemoryKept s u

/-- EVC.STAT.ABSORBED after `k` more. -/
def absorbedBy (s : State) (k : Nat) : Nat := min 65535 (getF s 0 F.EVC_STAT_ABSORBED + k)

/-! ### Registers (R9, R12, R31, R341) -/

/-- Field registers that show what the hub does at the moment: RIM.STATE_CNT, RIM.AGE_CFG, RIM.REP_LO and RIM.REP_STAT; and
FLD.PWR_STAT, FLD.ENERGY and RIM.ERR, parts of which are free values (log entry 123). -/
def liveFieldOffsets : List Nat := [0x608, 0x610, 0x8000, 0x8008, 0x8018, 0x8028, 0x8030]

/-! ### The I3C target (R347) -/

/-- All but the bus, the I3C target and the pulses of the event concentrator's sources is as before. -/
def OnlyI3c (s u : State) : Prop := { u with bus := s.bus, i3c := s.i3c, evc := s.evc } = s ∧ MemoryKept s u

/-- With its clock: an address is assigned where none is (ENTDAA shows PID, BCR and DCR), RSTDAA takes it away, the GET codes answer their bytes, ENEC and DISEC set and clear event
enables, a one-byte write of 0..23 sets the read pointer and any other byte nothing, a read gives mirror bytes from the pointer on, wrapping after
byte 23; a directed code or private write pulses source 386. While gated the target answers as many zeros, with no other effect (R347, R336). Rests on the model's choices of log entries 115 and 116. -/
def I3cTargetAnswers : Prop :=
  ∀ s : State, s.steward.on = true →
    let pulsed := fun (u : State) => look 0 u.evc.pulses 386 = look 0 s.evc.pulses 386 + 1
    (i3cOn s = true →
      (s.i3c.addr = none → ∀ a : BitVec 7,
        (∃ u, exec (.entdaa a) s = .next u ∧ u.i3c = { s.i3c with addr := some a.toNat } ∧
          u.bus = (toBytes 6 Config.i3cPid.toNat).reverse ++ [Config.i3cBcr, Config.i3cDcr] ∧ u.evc = s.evc ∧ OnlyI3c s u) ∧
        (∃ u, exec (.setdasa a) s = .next u ∧ u.i3c = { s.i3c with addr := some a.toNat } ∧ pulsed u ∧ OnlyI3c s u)) ∧
      (∃ u, exec .rstdaa s = .next u ∧ u.i3c = { s.i3c with addr := none } ∧ u.evc = s.evc ∧ OnlyI3c s u) ∧
      (∀ e ∈ [(Instr.getpid, (toBytes 6 Config.i3cPid.toNat).reverse), (.getbcr, [Config.i3cBcr]), (.getdcr, [Config.i3cDcr]),
          (.getmxds, Config.i3cMxds)], ∃ u, exec e.1 s = .next u ∧ u.bus = e.2 ∧ u.i3c = s.i3c ∧ pulsed u ∧ OnlyI3c s u) ∧
      (∃ u, exec .getstatus s = .next u ∧ u.bus.length = 2 ∧ u.i3c = s.i3c ∧ pulsed u ∧ OnlyI3c s { u with free := s.free }) ∧
      (∀ e : Byte,
        (∃ u, exec (.enec e) s = .next u ∧ u.i3c = { s.i3c with events := s.i3c.events ||| e.toNat } ∧ pulsed u ∧ OnlyI3c s u) ∧
        (∃ u, exec (.disec e) s = .next u ∧ (∀ i, bit u.i3c.events i = (i < 8 && bit s.i3c.events i && !(bit e.toNat i))) ∧ pulsed u ∧ OnlyI3c s u) ∧
        (∃ u, exec (.i3cPrivateWrite e) s = .next u ∧ u.i3c = (if e.toNat < 24 then { s.i3c with ptr := e.toNat } else s.i3c) ∧ pulsed u ∧
          OnlyI3c s u)) ∧
      (∀ n : Fin 25, ∃ u, exec (.i3cPrivateRead n) s = .next u ∧ u.bus.length = n ∧ u.i3c = s.i3c ∧ u.evc = s.evc ∧
        (∀ j, j < n.val → u.bus[j]? = some (mirrorByte s ((s.i3c.ptr + j) % 24))) ∧ OnlyI3c s u)) ∧
    (i3cOn s = false →
      (∀ e ∈ [(Instr.rstdaa, 0), (.getpid, 6), (.getbcr, 1), (.getdcr, 1)], exec e.1 s = .next { s with bus := List.replicate e.2 0 }) ∧
      (∀ e : Byte, ∀ c ∈ [Instr.enec e, .disec e, .i3cPrivateWrite e], exec c s = .next { s with bus := [] }) ∧
      (∀ n : Fin 25, exec (.i3cPrivateRead n) s = .next { s with bus := List.replicate n.val 0 }))

/-! ### The TAP (R388 to R390) -/

/-- With 12 V, a TAP reset and IDCODE select the identification, IDCODE reading 0x1C2A01A7; SAMPLE/PRELOAD captures and preloads; opcodes from 7 on select the bypass. EXTEST, CLAMP,
HIGHZ, EXTEST_PULSE and EXTEST_TRAIN drive the pins only while ENGINE_RESET_N is low, else the bypass is selected. None changes the engine; without 12 V
nothing changes at all (R388 to R390). Rests on the model's choices of log entries 117 and 118. -/
def TapInstructionsAct : Prop :=
  ∀ s : State,
    let only := fun (u : State) (j : Jtag) => u = { s with jtag := j }
    let drives := [(Instr.extest, 0, TapDrive.extest), (.clamp, 3, .clamp), (.highz, 4, .highz), (.extestPulse, 5, .extestPulse),
      (.extestTrain, 6, .extestTrain)]
    (s.steward.aux = true →
      (∃ u, exec .tapReset s = .next u ∧ only u { s.jtag with ir := 2, drive := .none }) ∧
      (∃ u, exec .idcode s = .next u ∧ u.bus = [0xA7, 0x01, 0x2A, 0x1C] ∧ only { u with bus := s.bus } { s.jtag with ir := 2, drive := .none }) ∧
      (∀ p : BitVec 92, ∃ u, exec (.samplePreload p) s = .next u ∧ u.jtag.ir = 1 ∧ u.jtag.boundary = p ∧ u.jtag.drive = .none ∧
        only { u with free := s.free } u.jtag) ∧
      (∀ e : Byte, 7 ≤ e.toNat → ∃ u, exec (.bypass e) s = .next u ∧ only u { s.jtag with ir := e.toNat, drive := .none }) ∧
      (∀ d ∈ drives,
        (s.steward.resetLow = true → ∃ u, exec d.1 s = .next u ∧ only u { s.jtag with ir := d.2.1, drive := d.2.2 }) ∧
        (s.steward.resetLow = false → ∃ u, exec d.1 s = .next u ∧ only u { s.jtag with ir := 0xFF, drive := .none }))) ∧
    (s.steward.aux = false → ∀ c ∈ [Instr.tapReset, .idcode, .extest, .clamp, .highz, .extestPulse, .extestTrain], exec c s = .next s)

/-! ### Mailbox commands (R338 to R348) -/

/-- A picked-up slot holds the opcode, with zero bits zero, and it may run now (R341 to R343). -/
def Taken (s : State) (slot : Fin 34) (op : Nat) (masks : List Nat) : Prop :=
  pickedUp s slot = true ∧ reqOp s slot = op ∧ zerosOk s slot masks = true ∧ notNow s slot = false

/-- The slot's command is complete: its response echoes OPCODE and TAG and holds the code and the words, then zeros; it is no longer busy, waits for nothing, and of
a PCIe slot DONE is set (R340, R341). -/
def Answered (s u : State) (slot : Fin 34) (code : Nat) (ws : List Nat) : Prop :=
  respWord u slot 0 = reqWord s slot 0 % 2 ^ 32 + code * 2 ^ 32 ∧ (∀ i, i < 7 → respWord u slot (i + 1) = ws.getD i 0 % 2 ^ 64) ∧
    slotBusy u slot = false ∧ waiting u slot = none ∧ (slot.val < 32 → bit (getF u 0 F.MBX_DONE_DONE) slot = true)

/-- All but the response, the registers at the addresses of `l`, MBX.DONE and what a completion sends is as before. -/
def OnlyAnswers (s u : State) (l : List Nat) : Prop :=
  RegsKept s u (F.MBX_DONE_DONE.off :: l) ∧ MemoryKept s u ∧ u.lifeF = s.lifeF ∧ u.lifeT = s.lifeT ∧ u.tiles = s.tiles ∧
    u.clusters = s.clusters ∧ u.fields = s.fields ∧ u.streams = s.streams ∧ u.ports = s.ports

/-- A command to a slot, its opcode, the bits of its argument words that the command defines, and what else tells it from another command of that opcode. -/
def IsCommand (slot : Fin 34) (ok : Bool) (row : Instr × Nat × List Nat × (State → Prop)) : Prop :=
  let any := fun (_ : State) => True
  let full := 2 ^ 64 - 1
  let cap := fun (o : Nat) (s : State) => arg s slot 0 % 4 = o
  let calve := fun (o : Nat) (s : State) => arg s slot 0 % 256 = o
  row ∈ [(Instr.getInfo slot, 0x01, ([] : List Nat), any), (.getStatus slot, 0x02, [], any), (.csrRead slot, 0x10, [2 ^ 43 - 1], any),
   (.csrWrite slot, 0x11, [2 ^ 40 - 1, full, full], any), (.loadImage slot, 0x20, [2 ^ 41 - 1, 2 ^ 32 - 1], any), (.start slot, 0x21, [], any),
   (.freeze slot, 0x22, [], any), (.thaw slot, 0x23, [], any), (.exchange slot, 0x24, [3, 2 ^ 32 - 1], any),
   (.setPowerCap slot, 0x30, [capMask], cap 0), (.park slot, 0x30, [capMask], cap 1), (.resume slot, 0x30, [capMask], cap 2),
   (.setRamp slot, 0x31, [2 ^ 32 - 1], any), (.setFloor slot, 0x32, [2 ^ 9 - 1], any), (.storeSettings slot ok, 0x40, [1], any),
   (.calExport slot, 0x42, [full, 1], any), (.calImport slot ok, 0x43, [full, 0xFFFF000000000003], any), (.fwUpdate slot, 0x44, [full, full], any),
   (.calveRetire slot, 0x50, calveMask, calve 0), (.calveReinstate slot ok, 0x50, calveMask, calve 1),
   (.calveSetPolicy slot, 0x50, calveMask, calve 2), (.calveGetPolicy slot, 0x50, calveMask, calve 3),
   (.readHistory slot, 0x51, [0xFFFFFFFF03FFFF03, full, 2 ^ 32 - 1], any), (.cocoonOut slot, 0x60, [full, 1], any), (.cocoonIn slot, 0x61, [full], any),
   (.fabricJoin slot, 0x70, [2 ^ 36 - 1, 2 ^ 11 - 1, 2 ^ 32 - 1], any), (.commitPolicy slot, 0x71, [2 ^ 64 - 255, 2 ^ 41 - 1, 2 ^ 41 - 1], any),
   (.clockSelect slot, 0x80, [2 ^ 5 - 1], any), (.resetEngine slot, 0xF0, [0xFFFF000000000000], any)]

/-- Memory as before, and no register changed but MBX.DONE. -/
def OnlyWaits (s u : State) : Prop := RegsKept s u [F.MBX_DONE_DONE.off] ∧ MemoryKept s u

/-- The values of SET_POWER_CAP's word 0 lie in their ranges: CAP 30..88 and no lower than the floor, PRIO 0..5, FREQ 600..1400 and no lower than F_MIN, CURTAIL_CAP
30..88, RIDE_MS 0..60 (Table 12.10). -/
def CapInRange (s : State) (a : Nat) : Prop :=
  30 ≤ bits a 8 8 ∧ bits a 8 8 ≤ 88 ∧ bits a 16 3 ≤ 5 ∧ 600 ≤ bits a 20 12 ∧ bits a 20 12 ≤ 1400 ∧ 30 ≤ bits a 32 8 ∧ bits a 32 8 ≤ 88 ∧
    bits a 41 6 ≤ 60 ∧ getF s 0 F.PWR_FLOOR_KW ≤ bits a 8 8 ∧ getF s 0 F.PWR_DVFS_F_MIN ≤ bits a 20 12

/-- A power command out of range is refused with 0x69, marked in PWR.ERR, and changes no setting. -/
def RefusesPower (s : State) (slot : Fin 34) (c : Instr) : Prop :=
  ∃ u, exec c s = .next u ∧ Answered s u slot 0x69 [] ∧ getF u 0 F.PWR_ERR_REFUSED = 1 ∧ OnlyAnswers s u [F.PWR_ERR_REFUSED.off]

/-! ### Resets, the cold start and the steward (R345, R354, R358, R362 to R365) -/

/-- Everything is as after manufacture but NVS, the recovery buffer, what is waiting, and the count of resets, which reads `n`. -/
def AllReset (s u : State) (n : Nat) : Prop :=
  (∀ a, a ≠ F.MGT_RESET_COUNT.off → rd u a = (resetWord a).toNat) ∧ getF u 0 F.MGT_RESET_COUNT = n ∧ u.tiles = [] ∧ u.clusters = [] ∧ u.fields = [] ∧
    u.lifeT = [] ∧ u.lifeF = [] ∧ u.scratch = [] ∧ u.firn = [] ∧ u.streams = [] ∧ u.ports = [] ∧ u.steward.queue = [] ∧
    u.steward.nvs = s.steward.nvs ∧ u.dep.nvs = s.dep.nvs ∧ u.pending = s.pending ∧ u.tc = s.tc

/-- A reset of the running steward, or its watchdog's, abandons the commands in hand and leaves the engine's tiles, fields and memories; Jitor returns from a valid slot, answers each
abandoned slot with 0x87 and sends vector 33 to both functions (R364, R365; said with no event held and no calving waiting). A PCIe reset drops the link's MSI-X table and
pulses its source (Table 14.7). Rests on the model's choices of log entries 103 and 104. -/
def StewardResetsAndReturns : Prop :=
  ∀ s : State,
    (jitorUp s = true → ∀ c ∈ [(Instr.stewardReset, 3), (.watchdogExpiry, 4)], ∃ u, exec c.1 s = .next u ∧ jitorUp u = false ∧
      getF u 0 F.MBX_MIRROR_STEWARD_RESET = 1 ∧ getF u 0 F.MGT_RESET_COUNT = min 255 (getF s 0 F.MGT_RESET_COUNT + 1) ∧
      u.steward.abandoned = s.steward.queue ∧ u.steward.waits = [] ∧ u.steward.cause = c.2 ∧ getF u 0 F.THM_DEMAND_HELD = 1 ∧
      u.thermal.heldAt = some s.tc ∧ u.tiles = s.tiles ∧ u.clusters = s.clusters ∧ u.fields = s.fields ∧ u.lifeF = s.lifeF ∧
      RegsKept s u [F.MBX_MIRROR_JITOR_UP.off, F.MGT_RESET_COUNT.off, F.THM_DEMAND_HELD.off] ∧ MemoryKept s u) ∧
    (getF s 0 F.MBX_MIRROR_STEWARD_RESET = 1 → s.steward.on = true →
      (∀ b, s.steward.nvs.pick = some b → s.dep.held = [] → s.dep.calves = [] → ∃ u, exec .jitorReturn s = .next u ∧ jitorUp u = true ∧
        getF u 0 F.MBX_MIRROR_STEWARD_RESET = 0 ∧ u.steward.jitorSlot = b ∧ u.steward.abandoned = [] ∧
        (∀ slot : Fin 34, slot.val ∈ s.steward.abandoned → Answered s u slot 0x87 []) ∧ (0, 33) ∈ u.evc.msix ∧ (1, 33) ∈ u.evc.msix ∧
        u.tiles = s.tiles ∧ MemoryKept s u) ∧
      (s.steward.nvs.pick = none → ∃ u, exec .jitorReturn s = .next u ∧ u.steward.failed = true ∧ u.steward.romOnly = true ∧ u.tiles = s.tiles ∧
        RegsKept s u [] ∧ MemoryKept s u)) ∧
    (∀ link : Fin 2, ∃ u, exec (.pcieReset link) s = .next u ∧
      (∀ i, look 0 u.steward.msixTab i = if i / 4096 = link.val then 0 else look 0 s.steward.msixTab i) ∧
      look 0 u.evc.pulses (387 + link) = look 0 s.evc.pulses (387 + link) + 1 ∧ RegsKept s u [] ∧ MemoryKept s u ∧
      u.steward.queue = s.steward.queue ∧ u.tiles = s.tiles)

/-- While Jitor is up: HEART counts up, MGT.OPSEC rises by 10 s at each save, and the log, the seconds and what was held go to NVS. With the NVS clock gated they are held in RAM, and the
first write held raises 0x8A (R241, R346, R354). Rests on the model's choices of log entries 113 and 120. -/
def StewardKeepsItsRecords : Prop :=
  ∀ s : State, jitorUp s = true →
    let sec := (getF s 0 F.MGT_OPSEC_SECONDS + 10) % 2 ^ F.MGT_OPSEC_SECONDS.w
    let raises := fun (u : State) => u.steward.heldRaised = true ∧ (s.steward.heldRaised = false → getF u 0 F.MBX_MIRROR_LAST_CODE = 0x8A)
    (∃ u, exec .heartIncrement s = .next u ∧ getF u 0 F.MBX_MIRROR_HEART = (getF s 0 F.MBX_MIRROR_HEART + 1) % 256 ∧
      RegsKept s u [F.MBX_MIRROR_HEART.off] ∧ OnlyRegs s u ∧ MemoryKept s u) ∧
    (∃ u, exec .opsecSave s = .next u ∧ getF u 0 F.MGT_OPSEC_SECONDS = sec ∧ u.dep = s.dep ∧
      (nvsOn s = true → u.steward.nvs.opsec = sec ∧ u.steward.opsecHeld = none) ∧
      (nvsOn s = false → u.steward.nvs = s.steward.nvs ∧ u.steward.opsecHeld = some sec ∧ raises u) ∧
      RegsKept s u [F.MGT_OPSEC_SECONDS.off, F.MBX_MIRROR_LAST_CODE.off] ∧ MemoryKept s u) ∧
    (s.dep.calves = [] → ∃ u, exec .moraineFlush s = .next u ∧ u.dep.log = s.dep.log ∧ (nvsOn s = true → u.dep.nvs = s.dep.log) ∧
      (nvsOn s = false → u.dep.nvs = s.dep.nvs ∧ (s.dep.log ≠ s.dep.nvs → raises u)) ∧
      RegsKept s u [F.MBX_MIRROR_LAST_CODE.off] ∧ MemoryKept s u) ∧
    (nvsOn s = true → ∃ u, exec .nvsHeldFlush s = .next u ∧ u.dep.nvs = s.dep.log ∧ u.steward.opsecHeld = none ∧ u.steward.heldRaised = false ∧
      u.steward.nvs.opsec = s.steward.opsecHeld.getD s.steward.nvs.opsec ∧ RegsKept s u [] ∧ MemoryKept s u)

/-! ### Rules of the machine as a whole -/

/-- The form of State: memories and registers canonical; the busy slots are those in the steward's queue, once each. -/
def FormOk (s : State) : Prop :=
  Mem.wf s.scratch = true ∧ Mem.wf s.firn = true ∧ Mem.wf s.steward.recovery = true ∧ Sparse.wf resetWord s.csr = true ∧
    s.steward.queue.Nodup ∧ ∀ slot, slotBusy s slot = true ↔ slot ∈ s.steward.queue

end Sys2Proof.Claims

open Sys2Proof Sys2Proof.Machine Sys2Proof.Claims

/-- A step runs the front command on the state with the queue's rest, and an idle step passes one tc. -/
def Obligations.EveryStepRunsOneCommand : Prop :=
  StepRunsTheFrontCommand ∧ IdleStepPassesOneTileCycle

/-- After reset: no command waits, State has its form, every tile is DARK with its contexts IDLE and its general registers zero, clean; scratch and firn read zero; the registers named hold
the Reset values of their maps. Rests on the model's choice of log entry 126. -/
def Obligations.ResetState : Prop :=
  State.reset.pending = [] ∧ FormOk State.reset ∧
  (∀ t : TileId, let k := tileNo t
    life State.reset k = .dark ∧ (∀ n : Fin 8, ctxState State.reset k n = 0 ∧ ∀ i : Fin 16, getG State.reset k n i = 0 ∧ gPoison State.reset k n i = false) ∧
    getF State.reset (tileBase k) F.TSQ_CFGB_BASE = 480) ∧
  (∀ a, Mem.read State.reset.scratch a = 0 ∧ Mem.read State.reset.firn a = 0) ∧
  (∀ f : FieldId, getF State.reset (fieldBase f) F.FLD_BEAT_SKEW_SKEW = 64 ∧ getF State.reset (fieldBase f) F.FLD_FREEZE_CFG_LIMIT = 20000) ∧
  freq State.reset = 1250 ∧ getF State.reset 0 F.FAB_DOM_ID = 0xFFFF ∧ getF State.reset 0 F.FAB_POLICY_VOTE_TO = 5000 ∧ phase State.reset = 0 ∧
  (∀ c : Fin 4, getF State.reset 0 (coreF F.EVC_CORE_CTL_MASK c) = 1) ∧ rd State.reset F.MGT_CLK_EN_NVS.off = 0x7F

/-- Registers g0..g15 are general: each holds what is written to it, and no other changes. CALL writes its return PC into g15. A beat's opening leaves registers and tags; reset and
eclosion clear them to zero (said of a bank without records, which could write them). -/
def Obligations.RegistersAreGeneral : Prop :=
  ∀ (s : State) (t : TileId),
    let k := tileNo t
    (∀ (n : Fin 8) (i : Fin 16) (v : Word) (p : Bool), getG (setG s k n i v p) k n i = v ∧ gPoison (setG s k n i v p) k n i = p ∧
      ∀ (m : Fin 8) (j : Fin 16), (m, j) ≠ (n, i) → getG (setG s k n i v p) k m j = getG s k m j ∧
        gPoison (setG s k n i v p) k m j = gPoison s k m j) ∧
    (∀ (n : Fin 8) (i : TInsn), Issues s t n i → i.op = .call → ∃ u, exec (.call t n) s = .next u ∧
      getG u k n 15 = BitVec.ofNat 64 ((pcOf s k n + 1) % 512)) ∧
    (∃ u, exec (.beatOpen t) s = .next u ∧ ∀ (n : Fin 8) (i : Fin 16), getG u k n i = getG s k n i ∧ gPoison u k n i = gPoison s k n i) ∧
    (s.steward.aux = true → ∃ u, exec .engineReset s = .next u ∧ ∀ (n : Fin 8) (i : Fin 16), getG u k n i = 0 ∧ gPoison u k n i = false) ∧
    (life s k = .instar → (tile s k).verified = true → released s k = true →
      (∀ j, j < tileT k → life s (clusterTile (tileCluster k) j) ≠ .instar) → (∀ l, s.load = some l → l.calve = false) → bankNrec s k 480 = 0 →
      ∃ u, exec (.eclosion t) s = .next u ∧ ∀ (n : Fin 8) (i : Fin 16), getG u k n i = 0 ∧ gPoison u k n i = false)

/-- Logical cluster (lcx, lcy) of a field stands on physical row lcy, one further from the row hole on, and in that row on column lcx, one further from the row's column hole on. A tile keeps
its position (tx, ty) inside its cluster, and its physical position in the field is (4 pcx + tx, 4 pcy + ty). -/
def Obligations.ClustersStandOnPhysicalOnes : Prop :=
  ∀ (s : State) (f : FieldId) (x y : Fin 24),
    let rowHole := getF s (fieldBase f) F.FLD_SHIFT_ROW_HOLE
    let colHole := fun p => getF s (fieldBase f) (F.FLD_SHIFT_COL_HOLE.at (8 * p))
    let pcy := y.val + (if rowHole ≤ y.val then 1 else 0)
    let pcx := x.val + (if colHole pcy ≤ x.val then 1 else 0)
    physOf s (fieldCluster f x y) = (pcx, pcy) ∧
    ∀ tx ty : Fin 4,
      let k := clusterTile (fieldCluster f x y) (4 * ty + tx)
      tileCluster k = fieldCluster f x y ∧ tileT k = 4 * ty + tx ∧ physTile s k = (4 * pcx + tx, 4 * pcy + ty)

/-- The group priority of a source is PRIO >> s and its sub-priority PRIO & (2^s - 1), with s EVC.CFG.SPLIT. A source is eligible for a core only with a group priority above that of
every source in service there, and never with PRIO 0. -/
def Obligations.OnlyTheGroupPreempts : Prop :=
  ∀ (s : State) (n : Fin 1023),
    let split := getF s 0 F.EVC_CFG_SPLIT
    let prio := srcCfg s n F.EVC_SRC_PRIO
    split ≤ 7 ∧ prio < 256 ∧ groupPrio s n = prio >>> split ∧ subPrio s n = prio &&& (2 ^ split - 1) ∧
    ∀ c : Fin 4, (prio = 0 → eligible s c n = false) ∧
      (∀ m ∈ svcOf s c, groupPrio s n ≤ groupPrio s m → eligible s c n = false) ∧
      (offered s c n = true → inService s n = false → prio ≠ 0 → (svcOf s c).length < 16 → getF s 0 (coreF F.EVC_CORE_CTL_THRESH c) < groupPrio s n →
        (∀ m ∈ svcOf s c, groupPrio s m < groupPrio s n) → eligible s c n = true)

/-- The encoder and the decoder of tile instruction words agree: every legal instruction is read from its word, every word that is read as one is that instruction's word, and a word
with CLASS above 0xB is read as none. -/
def Obligations.InstructionWordsRoundTrip : Prop :=
  (∀ i : TInsn, i.legal = true → TInsn.ofWord i.encode = some i) ∧
  (∀ (w : Word) (i : TInsn), TInsn.ofWord w = some i → i.encode = w ∧ i.legal = true) ∧
  (∀ w : Word, 0xB * 2 ^ 60 + 2 ^ 60 ≤ w.toNat → TInsn.ofWord w = none)

/-- Every step keeps the form of State: scratch, firn, recovery buffer and registers in their canonical form, so that equal contents are equal data; a slot is busy exactly while it
stands in the steward's queue, and it stands there once. -/
def Obligations.EveryStepKeepsTheForm : Prop :=
  ∀ s u : State, FormOk s → step s = .next u → FormOk u

/-- Every command answers a next state in every state, but for the two that name an input above 900 V, which the spec gives no behaviour (R386) and which are faults. No command is
refused, none changes the queue, and none takes the clock back. Rests on the model's choices of log entries 1, 4 and 8. -/
def Obligations.EveryCommandAnswers : Prop :=
  ∀ (c : Instr) (s : State),
    (∃ u, exec c s = .next u ∧ u.pending = s.pending ∧ s.tc ≤ u.tc) ∨
    (exec c s = .fault .beyondRatings ∧
      ((∃ mv, c = .mainInputReturn mv ∧ 900000 < mv) ∨ (∃ r, c = .powerControlInterval r ∧ 900000 < r.vinMv)))

/-- ALU instructions write the results of Table 02.4, products 3 tc later, and nothing else. -/
def Obligations.AluResultIsWritten : Prop :=
  AluTwoOperandResultIsWritten ∧ AluOneOperandResultIsWritten ∧ ProductReachesItsRegister

/-- QPOP, QPEEK, QHDR and QDROP act on the head of their queue alone. -/
def Obligations.QueueInstructionsReadTheHead : Prop :=
  QueueWordIsRead ∧ QueueHeadIsDescribedAndDropped

/-- Branches, calls, loops, fences and beat control move the PC or hold the context, and write nothing else. -/
def Obligations.BranchesLoopsAndFences : Prop :=
  BranchGoesToItsTarget ∧ CallWritesItsReturnPc ∧ LoopsRepeatTheirBody ∧ FencesWait ∧ BeatControl

/-- What faults a context or reports a poisoned use, and what it leaves. -/
def Obligations.BadInstructionsFaultOrReport : Prop :=
  FifthNestedLoopFaults ∧ PoisonedUseIsReported ∧ BadInstructionFaultsItsContext ∧ BadDestinationFaultsTheSend

/-- Counter instructions, WAIT, and the events that a counter takes in a tc. -/
def Obligations.CountersCountAndStartContexts : Prop :=
  CounterInstructions ∧ WaitTakesItsAmount ∧ CounterCountsItsEvents

/-- CSRR sends a read of its local address on its way, due 2 tc later for a tile block and 8 for CLU, and holds its context (WHY 4);
CSRW sends a write of B so, and does not hold it. When the oldest access of its kind lands, no earlier than it is due, a CSRR's D holds
what a read of that address answers, clean, and its context is freed; a CSRW writes its address, whichever register stands there (of
an address that is no store into the instruction buffer; those are the writes of R40 and R41). Of TSQ.PP the value is said beside it. -/
def Obligations.CsrInstructionsReachTheirRegister : Prop :=
  (∀ (s : State) (t : TileId) (n : Fin 8) (i : TInsn), Issues s t n i →
    let k := tileNo t
    let addr := i.low.toNat % 2 ^ 15
    let due := s.tc + (if 2 ^ 14 ≤ addr then 8 else 2)
    (i.op = .csrr → ∃ u, exec (.csrr t n) s = .next u ∧
      (tile u k).acc = (tile s k).acc ++ [{ n, write := false, addr, v := 0, d := i.d.toNat, id := (tile s k).nextId, due }] ∧
      (ctxOf u k n).hold = .csr ∧ why u k n = 4 ∧ CountsIssue s u k n ∧ IssueRegs s u k n none [] ∧ OnlyTile s u k) ∧
    (i.op = .csrw → gPoison s k n i.b.toNat = false → ∃ u, exec (.csrw t n) s = .next u ∧
      (tile u k).acc = (tile s k).acc ++ [{ n, write := true, addr, v := getG s k n i.b.toNat, d := 0, id := (tile s k).nextId, due }] ∧
      (ctxOf u k n).hold = .none ∧ CountsIssue s u k n ∧ IssueRegs s u k n none [] ∧ OnlyTile s u k)) ∧
  (∀ (s : State) (t : TileId) (clu : Bool) (a : CsrAcc) (l r : List CsrAcc),
    let k := tileNo t
    (tile s k).acc = l ++ a :: r → (∀ x ∈ l, bit x.addr 14 ≠ clu) → bit a.addr 14 = clu → (∀ x ∈ l ++ r, x.id ≠ a.id) →
    clockOn s k = true → laterTile (waitTc s a.due) k a.addr = false →
    let v := noteReached (modTile (waitTc s a.due) k fun x => { x with acc := l ++ r }) k a.addr
    (a.write = true → a.addr ≠ 0x28 → a.addr ≠ 0x38 → exec (.csrAccessLand t clu) s = .next (localWrite v k a.addr a.v)) ∧
    (a.write = false → a.n < 8 → a.d < 16 → ∃ u, exec (.csrAccessLand t clu) s = .next u ∧
      getG u k a.n a.d = (localRead v k a.addr).2 ∧ gPoison u k a.n a.d = false ∧ (ctxOf u k a.n).hold = .none ∧
      (tile u k).acc = l ++ r ∧ u.tc = max s.tc a.due ∧ MemoryKept s u) ∧
    (a.addr = 0x20 → a.write = true → ∃ u, exec (.csrAccessLand t clu) s = .next u ∧
      getF u (tileBase k) F.TSQ_PP_STRIDE = a.v.toNat % 2 ^ 13 ∧ (tile u k).acc = l ++ r ∧
      RegsKept s u [tileBase k + 0x20] ∧ OnlyTileAt s u k a.due) ∧
    (a.addr = 0x20 → a.write = false → a.n < 8 → a.d < 16 → ∃ u, exec (.csrAccessLand t clu) s = .next u ∧
      getG u k a.n a.d = BitVec.ofNat 64 (getF s (tileBase k) F.TSQ_PP_STRIDE) ∧
      RegsKept s u [gAddr k a.n a.d, gpoiAddr k a.n] ∧ OnlyTileAt s u k a.due))

/-- Row moves ask for their row and sends join the send queue, with their frames. -/
def Obligations.RowMovesAndSendsLeave : Prop :=
  RowMovesAskForTheirRow ∧ SendsJoinTheSendQueue

/-- Vector, lattice and sparse instructions join their unit's issue queue, or fault. -/
def Obligations.UnitInstructionsJoinTheirQueue : Prop :=
  VectorInstructionsJoinTheirQueue ∧ LatticeInstructionsJoinTheirQueue ∧ SparseInstructionsJoinTheirQueue

/-- The vector unit takes an instruction, runs its repetitions and writes their results back. -/
def Obligations.VectorUnitRunsItsRepetitions : Prop :=
  VectorRepetitionsRun ∧ VectorResultIsWrittenBack

/-- A fill asks for its rows, and a row's instructions enter the buffer, eight at a time. -/
def Obligations.FilledRowsEnterTheBuffer : Prop :=
  IfillGoAsksForItsRows ∧ FilledRowEntersTheBuffer

/-- Writes of tile and cluster registers that do something: descriptors, counts, queues, contexts. -/
def Obligations.TileRegisterWritesAct : Prop :=
  UnitRegisterWrites ∧ QueueRangeIsChecked ∧ ContextResetActsInFaultOrFrozen

/-- The lattice dispatches its head entry, and weights enter their set. -/
def Obligations.LatticeTakesOperationsAndWeights : Prop :=
  LatticeDispatchTakesTheHead ∧ WeightsEnterTheirSet

/-- Vectors enter the array, their column sums the accumulators, and a failed check is repeated. -/
def Obligations.VectorsReachTheAccumulators : Prop :=
  VectorEntersTheArray ∧ ColumnSumsEnterTheAccumulators ∧ RepeatPutsTheVectorBack

/-- LISS and drains end, flits and scale rows are written, floor vectors are counted. -/
def Obligations.LatticeOperationsEndAndDrain : Prop :=
  LatticeOperationsEnd ∧ ScaleRowIsWritten

/-- Replay records move to the buddy, are served, have their outcome, or are forced. -/
def Obligations.ReplayServesItsRecords : Prop :=
  ReplayRecordsAreServed ∧ ForcedReplayServesEveryRecord

/-- SPU_DISPATCH, nothing running: the head entry runs with THR, the verify seed and count and the verify settings as they stand, VCNT one
more for a STOPK with VEN, and the rows it needs are asked for in order. SFETCH_ROW_READ reserves 16 flits and asks for the next row to move.
SPU_COMPLETE ends an operation whose writes and moves are done, counts it and signals its counter where CE is 1. Rests on the model's choices of log entries 10 and 38. -/
def Obligations.SparseUnitRunsItsOperations : Prop :=
  ∀ (s : State) (t : TileId),
    let k := tileNo t
    let b := tileBase k
    let p := (tile s k).spu
    (∀ e r, p.cur = none → p.queue = e :: r →
      let o : SOp := { e, thr := getF s b F.SPU_SEL_THR_THR, vseed := getF s b F.SPU_VSEED_SEED, vcnt := getF s b F.SPU_VCNT_CNT,
                       vcfg := rd s (b + F.SPU_VERIFY_CFG_RATE.off) }
      o.need ≠ [] → ∃ u, exec (.spuDispatch t) s = .next u ∧
        (tile u k).spu = { queue := r, cur := some { o with asked := o.need.length } } ∧
        reqsOf u k 4 = reqsOf s k 4 ++ o.need.map (fun x => { row := x.2, kind := .read (.spu x.1), bp := e.bp, from_ := s.tc + 1 }) ∧
        getF u b F.SPU_VCNT_CNT = (getF s b F.SPU_VCNT_CNT + (if e.op = 2 ∧ zVen e.desc = true then 1 else 0)) % 2 ^ 20 ∧
        RegsKept s u [b + 0x2028] ∧ OnlyTile s u k) ∧
    (∀ o row r, p.cur = some o → o.moves = row :: r → o.formed = true → 16 ≤ qFree s k o.e.qn →
      ∃ u, exec (.sfetchRowRead t) s = .next u ∧
        (tile u k).spu = { p with cur := some { o with moves := r, moving := o.moving + 1 } } ∧
        queueOf u k o.e.qn = queueOf s k o.e.qn ++ (List.range 16).map (fun j => { id := (tile s k).nextId + j }) ∧
        reqsOf u k 4 = reqsOf s k 4 ++ [{ row, kind := .read (.spuMove o.e.qn (tile s k).nextId), bp := o.e.bp, from_ := s.tc + 1 }] ∧
        RegsKept s u [] ∧ OnlyTile s u k) ∧
    (∀ o, p.cur = some o → o.formed = true → o.writes = 0 → o.moves = [] → o.moving = 0 →
      ∃ u, exec (.spuComplete t) s = .next u ∧
        (tile u k).spu = { p with cur := none } ∧
        getF u b F.SPU_OP_CNT_OPS = (getF s b F.SPU_OP_CNT_OPS + 1) % 2 ^ 48 ∧
        look 0 (tile u k).arrivals o.e.c = look 0 (tile s k).arrivals o.e.c + (if o.e.ce then 1 else 0) ∧
        RegsKept s u [b + 0x2048] ∧ OnlyTile s u k)

/-- MERGE_START with GO and no merge running starts one with the settings written and CLU.MT_DST as it stands; with one running it only
counts GO_IGNORED. MERGE_EMIT, every leaf that has not ended presenting an element that is no end marker and not below the leaf's last, and the unit far from full, in mode 0:
the element of lowest index leaves, of equal ones the lowest leaf's, and is counted. MERGE_COMPLETE ends a merge with all written and signals
DONE's counter where it is enabled (R144 to R146). -/
def Obligations.MergeTakesTheLowestIndex : Prop :=
  ∀ (s : State) (c : ClusterId),
    let n := clusterNo c
    let b := cluBase n
    (∀ v : Word, v.getLsbD 0 = true → (cluster s n).merge = none → ∃ u m, exec (.mergeStart c v) s = .next u ∧
      (cluster u n).merge = some m ∧ m.mask = v.toNat / 2 ^ 48 ∧ m.srcq = v.toNat / 2 ^ 36 % 8 ∧ m.mode = v.toNat / 2 ^ 26 % 4 ∧
      m.dstk = v.getLsbD 28 ∧ m.dstTile = v.toNat / 2 ^ 29 % 16 ∧ m.dstq = v.toNat / 2 ^ 33 % 8 ∧ m.doneEn = v.getLsbD 39 ∧
      m.doneCtr = v.toNat / 2 ^ 40 % 16 ∧ m.doneTile = v.toNat / 2 ^ 44 % 16 ∧ m.row = getF s b F.CLU_MT_DST_ROW ∧
      m.heads = [] ∧ m.out = [] ∧ m.finished = false ∧ RegsKept s u [b + 0x800] ∧ OnlyCluster s u n) ∧
    (∀ v : Word, v.getLsbD 0 = true → (cluster s n).merge ≠ none → ∃ u, exec (.mergeStart c v) s = .next u ∧
      getF u b F.CLU_MT_STAT_GO_IGNORED = min 0xFFFF (getF s b F.CLU_MT_STAT_GO_IGNORED + 1) ∧
      RegsKept s u [b + 0x810] ∧ OnlyRegs s u ∧ MemoryKept s u) ∧
    (∀ m, (cluster s n).merge = some m → m.finished = false → m.mode = 0 → m.out.length + 1 < m.unit → m.open ≠ [] →
      (∀ t ∈ m.open, ∃ e r, look [] m.heads t = e :: r ∧ e.idx < 0xFFFFFFFF ∧ look 0 m.lastIdx t ≤ e.idx) →
      ∃ u t e r, exec (.mergeEmit c) s = .next u ∧ t ∈ m.open ∧ look [] m.heads t = e :: r ∧
        (∀ t' ∈ m.open, ∀ e' r', look [] m.heads t' = e' :: r' → e.idx < e'.idx ∨ (e.idx = e'.idx ∧ t ≤ t')) ∧
        (cluster u n).merge = some { m with heads := put [] m.heads t r, lastIdx := put 0 m.lastIdx t e.idx, out := m.out ++ [e] } ∧
        getF u b F.CLU_MT_CNT_ELEMENTS = (getF s b F.CLU_MT_CNT_ELEMENTS + 1) % 2 ^ 48 ∧
        RegsKept s u [b + 0x818] ∧ OnlyCluster s u n) ∧
    (∀ m, (cluster s n).merge = some m → m.finished = true → m.out = [] → m.writes = 0 → ∃ u, exec (.mergeComplete c) s = .next u ∧
      (cluster u n).merge = none ∧
      (m.doneEn = true → look 0 (tile u (clusterTile n m.doneTile)).arrivals m.doneCtr =
        look 0 (tile s (clusterTile n m.doneTile)).arrivals m.doneCtr + 1) ∧ RegsKept s u [] ∧ MemoryKept s u)

/-- Slices grant requests, deliver the rows read, and scrub. -/
def Obligations.SlicesGrantDeliverAndScrub : Prop :=
  GrantedRequestReadsOrWritesItsRow ∧ ReadRowReachesItsRequestor ∧ ScrubberMarksBadRows

/-- Sends enter the router, and flits cross routers and links. -/
def Obligations.FlitsCrossTheMesh : Prop :=
  SendsEnterTheRouter ∧ FlitsCrossRoutersAndLinks

/-- EJECTION_RESERVE of a CLASS 0 message at a LIVE tile whose queue PORT is enabled and has room: LEN + 1 flits are reserved with TAG, LEN and
CLASS, and the header leaves the router; a message for a queue that is not enabled is discarded, counted, and 0x92 raised (R62, R174). FLIT_EJECT
takes each payload flit into its reserved place; the last ends the message and is one event of every counter that counts messages of
the queue. -/
def Obligations.MessagesReachTheirQueue : Prop :=
  (∀ (s : State) (t : TileId) (i : Nat) (h : MFlit) (r : List MFlit) (w : Worm),
    let k := tileNo t
    let q := hPort h.data
    let n := msgLen h.data + 1
    let id := (tile s k).nextId
    life s k = .live → look none (tile s k).outHold 4 = some i → (tile s k).eject = none → inqOf s k i = h :: r → h.kind = 0 →
    hClass h.data = 0 → wormOf s k i = some w → w.outs = [4] → 4 ∈ w.granted →
    (q < 8 → qEn s k q = true → n ≤ qFree s k q → ∃ u, exec (.ejectionReserve t) s = .next u ∧
      queueOf u k q = queueOf s k q ++ (List.range n).map (fun j =>
        { id := id + j, msg := true, first := j == 0, last := j == msgLen h.data, tag := hTag h.data, len := msgLen h.data, cls := 0 }) ∧
      (∀ j, j ≠ q → queueOf u k j = queueOf s k j) ∧
      (tile u k).eject = some { input := i, q, ids := (List.range n).map (id + ·), cls := 0, row := 0 } ∧ inqOf u k i = r ∧
      RegsKept s u (flitCntAddr k 4 :: tagCntAddrs k) ∧ OnlyTile s u k) ∧
    ((8 ≤ q ∨ qEn s k q = false) → ∃ u, exec (.ejectionReserve t) s = .next u ∧
      (tile u k).q = (tile s k).q ∧ inqOf u k i = r ∧ (∃ e, (tile u k).eject = some e ∧ e.discard = true ∧ e.input = i) ∧
      look 0 (tile u k).tokens 0x92 = look 0 (tile s k).tokens 0x92 + 1 ∧ getF u (tileBase k) F.TSQ_ERR_PORT_DISCARD = 1 ∧
      MemoryKept s u)) ∧
  (∀ (s : State) (t : TileId) (e : Eject) (x : Nat) (l : List Nat) (f : MFlit) (r : List MFlit) (w : Worm),
    let k := tileNo t
    (tile s k).eject = some e → e.discard = false → e.cls = 0 → e.ids = x :: l → inqOf s k e.input = f :: r → 2 ≤ f.kind →
    wormOf s k e.input = some w → w.outs = [4] → 4 ∈ w.granted →
    ∃ u, exec (.flitEject t) s = .next u ∧
      queueOf u k e.q = (queueOf s k e.q).map (fun y =>
        if y.id = x ∧ y.data = none then { y with data := some f.data, poison := f.poison, at_ := s.tc } else y) ∧
      (∀ j, j ≠ e.q → queueOf u k j = queueOf s k j) ∧ inqOf u k e.input = r ∧
      (f.kind ≠ 3 → (tile u k).eject = some { e with ids := l } ∧ (tile u k).arrivals = (tile s k).arrivals) ∧
      (f.kind = 3 → (tile u k).eject = none ∧ look none (tile u k).outHold 4 = none ∧ ∀ c, c < 16 →
        look 0 (tile u k).arrivals c = look 0 (tile s k).arrivals c +
          (if getF s (tileBase k) (F.TSQ_CTR_SRC_SRC.at (8 * c)) = 1 ∧ getF s (tileBase k) (F.TSQ_CTR_SRC_SEL.at (8 * c)) = e.q then 1
           else 0)) ∧
      RegsKept s u [flitCntAddr k 4] ∧ OnlyTile s u k)

/-- Hinge lanes train and fail, and reports reach their hub. -/
def Obligations.HingeAndReports : Prop :=
  HingeLanesTrainAndFail ∧ ReportsReachTheirHub

/-- Rows of an image arrive and are checked, tiles eclode, and take or refuse an exchange. -/
def Obligations.ConfigurationLoadsAndExchanges : Prop :=
  ConfigurationLoads ∧ ExchangeTakesOrKeeps

/-- Beat ticks and open pulses come, and fields seal, stop or freeze. -/
def Obligations.TicksPulsesAndSeals : Prop :=
  TicksAndPulses ∧ BeatsSealOrStop

/-- BEAT_OPEN in a LIVE tile falls at its field's open, no exchange of the tile at the beat; the first of its field counts the beat in OPEN_NO: TSQ.BEAT has the beat's parity and counts it; each context of START_MASK
that is IDLE or DONE starts at its ENTRY with the parity, and one that is not is a missed start; contexts outside the mask are as they
were; counters with BCLR read 0 (R65, R195). TAIL_DONE, once every BEATEND of the mask is executed and its sends and stores are done, counts the
oldest open beat as ended (R66). BEAT_OVERRUN past the window of the next beat's scheduled open, in a tile that takes part in beats, reports 0x30 once for
the beat and counts the field's overrun once (R197). Rests on the model's choices of log entries 4 and 57. -/
def Obligations.BeatsRunInTheirTile : Prop :=
  (∀ (s : State) (t : TileId) (e : OpenBeat),
    let k := tileNo t
    let b := tileBase k
    let mask := getF s b F.TSQ_BEATCFG_START_MASK
    life s k = .live → (tile s k).exchWait = false → beatAt s (tileField k) (seenOf s k) = some e → e.parity < 2 →
    (∀ x, s.exch = some x → x.beat = e.no → k ∈ x.done) → ∃ u, exec (.beatOpen t) s = .next u ∧ u.tc = max s.tc e.openTc ∧
      (e.opened = false → getF u (fieldBase (tileField k)) F.FLD_BEAT_STAT_OPEN_NO =
        (getF s (fieldBase (tileField k)) F.FLD_BEAT_STAT_OPEN_NO + 1) % 2 ^ F.FLD_BEAT_STAT_OPEN_NO.w) ∧
      getF u b F.TSQ_BEAT_PARITY = e.parity ∧
      getF u b F.TSQ_BEAT_BEAT_NO = (getF s b F.TSQ_BEAT_BEAT_NO + 1) % 2 ^ F.TSQ_BEAT_BEAT_NO.w ∧
      (tile u k).seen = seenOf s k + 1 ∧
      (∀ n, n < 8 → bit mask n = true → ctxState s k n = 0 ∨ ctxState s k n = 2 →
        ctxState u k n = 1 ∧ pcOf u k n = getF s b (F.TSQ_CTX_CTL_ENTRY.at (8 * n)) ∧ bpOf u k n = e.parity) ∧
      (∀ n, n < 8 → bit mask n = false ∨ (ctxState s k n ≠ 0 ∧ ctxState s k n ≠ 2) → rd u (ctxStateAddr k n) = rd s (ctxStateAddr k n)) ∧
      getF u b F.TSQ_STATUS_START_MISS = min (2 ^ F.TSQ_STATUS_START_MISS.w - 1) (getF s b F.TSQ_STATUS_START_MISS +
        ((List.range 8).filter fun n => bit mask n && ctxState s k n != 0 && ctxState s k n != 2).length) ∧
      (∀ c, c < 16 → getF s b (F.TSQ_CTR_SRC_BCLR.at (8 * c)) = 1 → getF u b (F.TSQ_CTR_COUNT.at (8 * c)) = 0) ∧
      (∀ c, c < 16 → getF s b (F.TSQ_CTR_SRC_BCLR.at (8 * c)) = 0 → rd u (ctrAddr k c) = rd s (ctrAddr k c)) ∧
      (∀ n j, n < 8 → j < 16 → getG u k n j = getG s k n j) ∧ MemoryKept s u) ∧
  (∀ (s : State) (t : TileId) (e : OpenBeat),
    let k := tileNo t
    let f := tileField k
    (life s k = .live ∨ life s k = .frozen) → tailsOf s k < seenOf s k → beatAt s f (tailsOf s k) = some e →
    maskEnded s k e.parity = true → workDone s k e.parity = true → ∃ u, exec (.tailDone t) s = .next u ∧
      (tile u k).tails = tailsOf s k + 1 ∧
      (field u f).beats = (field s f).beats.map (fun b => if b.no = e.no then { b with tailMax := max b.tailMax (s.tc - b.openTc) } else b) ∧
      RegsKept s u [] ∧ OtherTilesKept s u k ∧ OtherFieldsKept s u f ∧ MemoryKept s u) ∧
  (∀ (s : State) (t : TileId) (e : OpenBeat),
    let k := tileNo t
    let f := tileField k
    let fb := fieldBase f
    let j := max (tile s k).overruns (tailsOf s k)
    beatAt s f j = some e → beatAt s f (j + 1) = none → j < seenOf s k → getF s (tileBase k) F.TSQ_BEATCFG_BEAT_MASK ≠ 0 →
    openTc s f (e.no + 1) + nsTc s (getF s fb F.FLD_BEAT_WIN_WINDOW) < s.tc → ∃ u, exec (.beatOverrun t) s = .next u ∧
      (tile u k).overruns = j + 1 ∧ look 0 (tile u k).tokens 0x30 = look 0 (tile s k).tokens 0x30 + 1 ∧
      getF u fb F.FLD_BEAT_ERR_OVERRUN_CNT = (if e.overrun then getF s fb F.FLD_BEAT_ERR_OVERRUN_CNT
        else min (2 ^ F.FLD_BEAT_ERR_OVERRUN_CNT.w - 1) (getF s fb F.FLD_BEAT_ERR_OVERRUN_CNT + 1)) ∧
      (e.overrun = false → getF u fb F.FLD_BEAT_ERR_OVERRUN = 1) ∧ MemoryKept s u)

/-- A step is checkpointed, and spares take a retired cluster's place. -/
def Obligations.CheckpointsAndSpares : Prop :=
  StepIsCheckpointed ∧ SparesTakeOver

/-- Streams are enabled and disabled, move their flits and hand their banks over. -/
def Obligations.StreamsCarryTheirRows : Prop :=
  StreamsAreEnabledAndDisabled ∧ StreamsMoveTheirFlits

/-- Firn transactions, the patrol and the host's window. -/
def Obligations.FirnIsReadAndWritten : Prop :=
  FirnAnswersItsTransactions ∧ HostReadsAndWritesFirn

/-- Table 11.1: a write of EN to a DISABLED port sends it to TRAIN once the fabric links up in the cold start, before that to DARK, and one that clears EN of another port to DISABLED with its frames abandoned;
training done makes it UP and counts the link; 200 ms of training without that make it LOST, as loss of light, of lane alignment or of eight
heartbeats does, with 0x40 for the last three; a LOST port trains again with light, 1 ms on. (Training starts outside a voltage step.)
HEARTBEAT_SEND of an UP or LOST port sends one frame with the next HB_SEQ, 100 ns after the last. The clock of ports 0 to 3 is a source of the reference
while the port is UP (R326). Memory is unchanged. Rests on the model's choices of log entries 4, 74 and 170. -/
def Obligations.PortsTrainAndFail : Prop :=
  ∀ (s : State) (p : Fin 32),
    let b := fab p
    let st := portState s p
    let out := fun (u : State) => getF u 0 (F.EVC_SRC_STAT_LAST_CODE.at (8 * (192 + p.val)))
    let regs := [b + F.FAB_STATUS_STATE.off, F.CLK_STATUS_ACT.off, F.CLK_STATUS_QUALIFIED.off]
    (∀ v : Word, v.getLsbD 63 = true → st = 4 → getF s 0 F.PWR_DVFS_BUSY = 0 → ∃ u, exec (.portEnable p v) s = .next u ∧
      portState u p = (if 8 < phase s then 1 else 0) ∧ getF u b F.FAB_CFG_EN = 1 ∧ getF u b F.FAB_CFG_RTO = bits v.toNat 16 16 ∧
      RegsKept s u ((b + F.FAB_CFG_EN.off) :: regs) ∧ MemoryKept s u) ∧
    (∀ v : Word, v.getLsbD 63 = false → st ≠ 4 → ∃ u, exec (.portEnable p v) s = .next u ∧ portState u p = 4 ∧
      getF u b F.FAB_CFG_EN = 0 ∧ (port u p).inflight = [] ∧ getF u b F.FAB_DL_CNT_ABANDONED =
        min (2 ^ F.FAB_DL_CNT_ABANDONED.w - 1) (getF s b F.FAB_DL_CNT_ABANDONED + (port s p).inflight.length) ∧ MemoryKept s u) ∧
    (st = 1 → ∃ u, exec (.portTrainDone p) s = .next u ∧ portState u p = 2 ∧ getF u b F.FAB_STATUS_LANES_OK = 0xFF ∧
      getF u b F.FAB_STATUS_LINKUPS = min (2 ^ F.FAB_STATUS_LINKUPS.w - 1) (getF s b F.FAB_STATUS_LINKUPS + 1) ∧
      ((∀ c, c < 1024 → chanOn s p c = true → chanGet s p c F.FAB_CHAN_DIR = 0) → RegsKept s u regs) ∧ MemoryKept s u) ∧
    (st = 1 → (port s p).since + usTc s 200000 ≤ s.tc → ∃ u, exec (.portTrainTimeout p) s = .next u ∧ portState u p = 3 ∧ MemoryKept s u) ∧
    (st = 3 → (port s p).since + usTc s 1000 ≤ s.tc → getF s 0 F.PWR_DVFS_BUSY = 0 → ∃ u, exec (.portRetrain p) s = .next u ∧
      portState u p = 1 ∧ RegsKept s u regs ∧ MemoryKept s u) ∧
    ((st = 1 ∨ st = 2) → ∃ u, exec (.lightLoss p) s = .next u ∧ portState u p = 3 ∧ getF u b F.FAB_STATUS_LANES_OK = 0 ∧
      getF u b F.FAB_ERR_LINK_LOST = 1 ∧ out u = 0x40 ∧ MemoryKept s u) ∧
    (∀ lane : Fin 8, st = 2 → ∃ u, exec (.laneAlignmentLoss p lane) s = .next u ∧ portState u p = 3 ∧
      bit (getF u b F.FAB_STATUS_LANES_OK) lane = false ∧ getF u b F.FAB_ERR_LINK_LOST = 1 ∧ out u = 0x40 ∧ MemoryKept s u) ∧
    (st = 2 → (port s p).hbTc + nsTc s 800 ≤ s.tc → ∃ u, exec (.heartbeatTimeout p) s = .next u ∧ portState u p = 3 ∧
      getF u b F.FAB_HB_MISSED = min (2 ^ F.FAB_HB_MISSED.w - 1) (getF s b F.FAB_HB_MISSED + 8) ∧ out u = 0x40 ∧ MemoryKept s u) ∧
    ((st = 2 ∨ st = 3) → getF s b F.FAB_MACSEC_EN = 0 → ∃ u fr, exec (.heartbeatSend p) s = .next u ∧ u.tc = max s.tc (port s p).hbDue ∧
      u.dom.out = s.dom.out ++ [(p.val, fr)] ∧
      fr.op = 2 ∧ bits fr.operand.toNat 0 16 = (port s p).hbSeq % 65536 ∧ (port u p).hbSeq = ((port s p).hbSeq + 1) % 65536 ∧
      RegsKept s u [b + F.FAB_CNT_TX.off] ∧ MemoryKept s u)

/-- Frames that an UP port receives: one for another address or another protocol is only counted (R277); a good HEARTBEAT is the last heard, and of one it echoes the round trip is shown
(R285); a good MGMT frame is counted (its meaning is Jitor's); a DATA frame of the present epoch, in sequence and within its credits, enters its
channel's stream row by row with its marks, and an ACK of its tag and SEQ goes back; an ACK releases the frames of its channel up to its
SEQ, no others, and adds its credits (R279). Rests on the model's choices of log entries 74 and 76. -/
def Obligations.FramesAreReceived : Prop :=
  ∀ (s : State) (p : Fin 32) (f : Frame),
    let b := fab p
    let rx := fun (u : State) => getF u b F.FAB_CNT_RX = min (2 ^ F.FAB_CNT_RX.w - 1) (getF s b F.FAB_CNT_RX + 1)
    let c := f.chan.val
    let n := chanGet s p c F.FAB_CHAN_STREAM
    (portUp s p = true → destOurs s p f = false → ∃ u, exec (.foreignFrame p f) s = .next u ∧
      getF u b F.FAB_FOREIGN_OTHER_DEST = min (2 ^ 32 - 1) (getF s b F.FAB_FOREIGN_OTHER_DEST + 1) ∧
      RegsKept s u [b + F.FAB_FOREIGN_OTHER_DEST.off] ∧ OnlyRegs s u ∧ MemoryKept s u) ∧
    (portUp s p = true → destOurs s p f = true → typeOurs s p f = false → ∃ u, exec (.foreignFrame p f) s = .next u ∧
      getF u b F.FAB_FOREIGN_OTHER_TYPE = min (2 ^ 32 - 1) (getF s b F.FAB_FOREIGN_OTHER_TYPE + 1) ∧
      RegsKept s u [b + F.FAB_FOREIGN_OTHER_TYPE.off] ∧ OnlyRegs s u ∧ MemoryKept s u) ∧
    (frameGood s p f → f.op = 7 → ∃ u, exec (.mgmt p f) s = .next u ∧ rx u ∧ RegsKept s u [b + F.FAB_CNT_RX.off] ∧ OnlyRegs s u ∧
      MemoryKept s u) ∧
    (∀ now, frameGood s p f → f.op = 2 → ∃ u, exec (.heartbeat p f now) s = .next u ∧ rx u ∧
      (port u p).hbSeen = some (bits f.operand.toNat 0 16) ∧ (port u p).hbAt = now ∧ (port u p).hbTc = s.tc ∧
      getF u b F.FAB_STATUS_HB_LIVE = 1 ∧
      (∀ sent, (port s p).hbSent = [(bits f.operand.toNat 16 16, sent)] → getF u b F.FAB_HB_RTT =
        min 0xFFFF (now - sent - bits f.operand.toNat 32 16)) ∧ MemoryKept s u) ∧
    (frameGood s p f → f.op = 0 → loadHolds s = false → f.epoch.toNat = getF s 0 F.FAB_DOM_EPOCH → chanOn s p c = true →
      chanGet s p c F.FAB_CHAN_DIR = 1 → (strKind s n = 4 ∨ strKind s n = 6) → f.seq.toNat = look 0 (port s p).rxSeq c → f.rows.length ≤ look 0 (port s p).granted c →
      getF s b F.FAB_MACSEC_EN = 0 → ∃ u a, exec (.data p f) s = .next u ∧ rx u ∧
      (strm u n).rows.length = (strm s n).rows.length + f.rows.length ∧ (strm u n).rows.take (strm s n).rows.length = (strm s n).rows ∧
      (∀ i, i < f.rows.length → ∃ r, (strm u n).rows[(strm s n).rows.length + i]? = some r ∧
        r.data = some (f.rows.getD i 0, bit f.poison.toNat i) ∧ r.fin = (f.isEnd && decide (i + 1 = f.rows.length))) ∧
      look 0 (port u p).rxSeq c = (f.seq.toNat + 1) % 2 ^ 32 ∧ u.dom.out = s.dom.out ++ [(p.val, a)] ∧ a.op = 1 ∧ a.tag = f.tag ∧
      a.seq = f.seq ∧ MemoryKept s u) ∧
    (frameGood s p f → f.op = 1 → loadHolds s = false → f.epoch.toNat = getF s 0 F.FAB_DOM_EPOCH → ∃ u, exec (.ack p f) s = .next u ∧
      rx u ∧ (port u p).inflight = (port s p).inflight.filter (fun x =>
        !(x.chan == c && decide ((f.seq - x.fr.seq).toNat < 2 ^ 31))) ∧
      chanGet u p c F.FAB_CHAN_CREDITS = min 16383 (chanGet s p c F.FAB_CHAN_CREDITS + bits f.operand.toNat 0 14) ∧
      RegsKept s u [b + F.FAB_CNT_RX.off, b + F.FAB_CHAN_EN.off + 8 * c] ∧ MemoryKept s u)

/-- CHANNEL_ENABLE: the channel is enabled where R278 allows it, else left off with 0x4A. DATA_FRAME_SEND of a sending channel, its stream's
bank holding whole rows, credits and a tag free, the port granted to it: one frame of 1 to 16 rows, in sequence, is in flight, its rows gone from the bank
and its credits from the channel. RETRANSMIT_TIMEOUT after RTO sends the frame and its channel's later ones again, each with RETX; after four times the port
is LOST (R279). (Said of ports without MACsec, whose packet numbers R284 bounds.) Rests on the model's choices of log entries 75, 164 and 166. -/
def Obligations.FramesAreSent : Prop :=
  ∀ (s : State) (p : Fin 32) (c : Fin 1024),
    let b := fab p
    let n := chanGet s p c F.FAB_CHAN_STREAM
    let v := strm s n
    let credits := chanGet s p c F.FAB_CHAN_CREDITS
    (∀ w : Word, w.getLsbD 63 = true →
      (chanRefused s p c w.toNat = false → ∃ u, exec (.channelEnable p c w) s = .next u ∧ chanOn u p c = true ∧
        chanGet u p c F.FAB_CHAN_STREAM = bits w.toNat 30 16 ∧ chanGet u p c F.FAB_CHAN_DIR = bits w.toNat 62 1 ∧ MemoryKept s u) ∧
      (chanRefused s p c w.toNat = true → ∃ u, exec (.channelEnable p c w) s = .next u ∧ chanOn u p c = false ∧
        getF u b F.FAB_ERR_CHAN_REF = 1 ∧ getF u 0 (F.EVC_SRC_STAT_LAST_CODE.at (8 * (192 + p.val))) = 0x4A ∧ MemoryKept s u)) ∧
    (∀ tag, portUp s p = true → getF s 0 F.CLK_STATUS_SAFE = 0 → chanReady s p c = true → portGranted s p c = true →
      getF s b F.FAB_MACSEC_EN = 0 → freeTag s p = some tag → tag < 8192 → v.owed = false → 16 ≤ (fabricFlits v).length →
      let r := min 16 (min ((fabricFlits v).length / 16) credits)
      ∃ u e, exec (.dataFrameSend p c) s = .next u ∧ (port u p).inflight = (port s p).inflight ++ [e] ∧ e.tag = tag ∧ e.chan = c.val ∧
        e.fr.op = 0 ∧ e.fr.tag.val = tag ∧ e.fr.seq.toNat = look 0 (port s p).txSeq c % 2 ^ 32 ∧ e.fr.rows.length = r ∧
        (∀ i, i < r → e.fr.rows[i]? = some (rowOfFlits ((((fabricFlits v).drop (16 * i)).take 16).map SFlit.data))) ∧
        fabricFlits (strm u n) = (fabricFlits v).drop (16 * r) ∧ u.tc = max s.tc v.outTc ∧ chanGet u p c F.FAB_CHAN_CREDITS = credits - r ∧
        look 0 (port u p).txSeq c = (look 0 (port s p).txSeq c + 1) % 2 ^ 32 ∧ MemoryKept s u) ∧
    (∀ (tag : Fin 8192) (e : InFlight), (port s p).inflight.find? (fun x => x.tag == tag.val) = some e → portUp s p = true →
      getF s 0 F.CLK_STATUS_SAFE = 0 → loadHolds s = false → e.at_ + usTc s (max 1 (getF s b F.FAB_CFG_RTO)) ≤ s.tc →
      (e.retx < 4 → getF s b F.FAB_MACSEC_EN = 0 → ∃ u, exec (.retransmitTimeout p tag) s = .next u ∧
        (port u p).inflight = (port s p).inflight.map (fun x =>
          if x.chan = e.chan ∧ (x.fr.seq - e.fr.seq).toNat < 2 ^ 31 then { x with retx := x.retx + 1, at_ := s.tc, fr := { x.fr with retx := true } }
          else x) ∧ RegsKept s u [b + F.FAB_DL_CNT_RETX.off, b + F.FAB_CNT_TX.off] ∧ MemoryKept s u) ∧
      (4 ≤ e.retx → ∃ u, exec (.retransmitTimeout p tag) s = .next u ∧ portState u p = 3 ∧ (port u p).inflight = [] ∧
        getF u b F.FAB_ERR_RETX_EXH = 1 ∧ MemoryKept s u))

/-- A tick domain forms, and TICK frames align its engines. -/
def Obligations.DomainFormsAndKeepsTime : Prop :=
  TicksAlignTheEngine ∧ FormationProceeds

/-- Votes go up the commit tree and orders are obeyed. -/
def Obligations.VotesGoUpAndOrdersAreObeyed : Prop :=
  VotesGoUp ∧ OrdersAreObeyed

/-- A control interval of a powered engine at up to 900 V: draw and energies are recorded; with no draw over the limit no class is throttled; with one
that the first class of PRIO can shed alone, that class gets the smallest fraction that sheds it and the others none (R304, R305). Beyond 900 V the spec
gives no behaviour (R386): a fault. CAP_FREQUENCY_STEP 1 ms over the cap lowers the frequency by one point, or at F_MIN raises 0x68. A voltage
step moves VCODE by one towards its goal; a droop is counted and reported once per beat; a di/dt window beyond the allowed rise is cut to it and
counted (R301, R306 to R308). Memory is unchanged. Rests on the model's choices of log entries 8, 81 and 82. -/
def Obligations.PowerIsControlled : Prop :=
  (∀ (s : State) (r : PowerSample),
    let c := effectiveCap s
    let limit := if getF s 0 F.PWR_HOLD_CHARGING = 1 then min 92000 (c + 4000) else c
    let need := sheds s r + r.drawW - limit
    let est := fun k => if k = 0 then r.compW else if k = 1 then r.memW else r.linkW
    (r.vinMv ≤ 900000 → powerState s ≠ 0 → ∃ u, exec (.powerControlInterval r) s = .next u ∧
      getF u 0 F.PWR_STATUS_DRAW = min 65535 (r.drawW / 10) ∧
      getF u 0 F.PWR_ENERGY_UJ = (getF s 0 F.PWR_ENERGY_UJ + r.ujInput) % 2 ^ 64 ∧
      getF u 0 (F.PWR_ENERGY_UJ.at 40) = (getF s 0 (F.PWR_ENERGY_UJ.at 40) + r.ujHold) % 2 ^ 64 ∧
      (need = 0 → (∀ k, k < 3 → getF u 0 (actOf k) = 0) ∧ getF u 0 F.PWR_STATUS_THROTTLING = 0) ∧
      (∀ k l, classOrder (getF s 0 F.PWR_CAP_PRIO) = k :: l → 0 < est k → need ≤ est k * classTop k / 64 →
        getF u 0 (actOf k) = ceilDiv (64 * need) (est k) ∧ ∀ j, j < 3 → j ≠ k → getF u 0 (actOf j) = 0) ∧
      u.power.hist = (r.drawW :: s.power.hist).take 100 ∧ MemoryKept s u) ∧
    (900000 < r.vinMv → exec (.powerControlInterval r) s = .fault .beyondRatings)) ∧
  (∀ s : State, 100 ≤ s.power.overFor → s.power.freqGoal = none →
    (freq s ≤ getF s 0 F.PWR_DVFS_F_MIN → getF s 0 F.PWR_STATUS_CAP_UNMET = 0 → ∃ u, exec .capFrequencyStep s = .next u ∧
      getF u 0 F.PWR_STATUS_CAP_UNMET = 1 ∧ getF u 0 F.PWR_ERR_CAP_UNMET = 1 ∧ lastCode u 288 = 0x68 ∧ MemoryKept s u) ∧
    (∀ g, g ∈ railTop → g < freq s → (∀ x ∈ railTop, x < freq s → x ≤ g) → getF s 0 F.PWR_DVFS_F_MIN ≤ g →
      railFor g ≤ getF s 0 F.PWR_DVFS_VCODE → s.beats.running = true → ∃ u, exec .capFrequencyStep s = .next u ∧
      u.power.freqPend = some g ∧ u.power.freqGoal = some g ∧ u.power.overFor = 0 ∧ RegsKept s u [] ∧ MemoryKept s u)) ∧
  (∀ (s : State) (g : Nat), getF s 0 F.PWR_DVFS_BUSY = 1 → s.power.freqGoal = some g →
    let v := getF s 0 F.PWR_DVFS_VCODE
    (v < railFor g → ∃ u, exec .voltageStepDone s = .next u ∧ getF u 0 F.PWR_DVFS_VCODE = v + 1 ∧ MemoryKept s u) ∧
    (railFor g < v → ∃ u, exec .voltageStepDone s = .next u ∧ getF u 0 F.PWR_DVFS_VCODE = v - 1 ∧ MemoryKept s u)) ∧
  (∀ (s : State) (f : FieldId) (x : Nat),
    let b := fieldBase f
    let top := (field s f).amps + getF s b F.FLD_PWR_CFG_DIDT * 64 / max 1 (freq s)
    (getF s b F.FLD_PWR_CFG_DROOP_MV < x → ∃ u, exec (.droopDetect f x) s = .next u ∧ (field u f).droopAt = some s.tc ∧
      getF u b F.FLD_PWR_STAT_DROOP_CNT = min (2 ^ F.FLD_PWR_STAT_DROOP_CNT.w - 1) (getF s b F.FLD_PWR_STAT_DROOP_CNT + 1) ∧
      (look false s.power.droopRaised f = false → getF u 0 F.PWR_ERR_DROOP = 1 ∧
        getF u b (F.RIM_CODE_CNT_COUNT.at (8 * 0x60)) =
          min (2 ^ F.RIM_CODE_CNT_COUNT.w - 1) (getF s b (F.RIM_CODE_CNT_COUNT.at (8 * 0x60)) + 1)) ∧ MemoryKept s u) ∧
    (x ≤ top → ∃ u, exec (.didtWindow f x) s = .next u ∧ (field u f).amps = x ∧ RegsKept s u [] ∧ OnlyField s u f) ∧
    (top < x → ∃ u, exec (.didtWindow f x) s = .next u ∧ (field u f).amps = top ∧ (field u f).didtUntil = s.tc + 64 ∧
      RegsKept s u [b + F.FLD_PWR_STAT_DIDT_CNT.off] ∧ OnlyField s u f))

/-- The discrete inputs and parking. CURTAIL's raw and filtered bits and CURTAILED follow the input; FREEZE_N, active, freezes the LIVE fields with nothing open (said
where no THAW waits), inactive thaws nothing; an input active for 10 s raises 0x63; chatter is counted (R311, R312). A park whose fields are FROZEN and idle, the firn controllers
empty, is PARKED at rail code 0 and answers, a resume ends RUN and answers (R314). Memory is unchanged. Rests on the model's choices of log entries 84 and 89. -/
def Obligations.InputsAndParking : Prop :=
  (∀ (s : State) (on : Bool),
    (∃ u, exec (.curtailInput on) s = .next u ∧ getF u 0 F.PWR_DIN_CUR_RAW = b2n on ∧ getF u 0 F.PWR_DIN_CUR_ACT = b2n on ∧
      getF u 0 F.PWR_STATUS_CURTAILED = b2n on ∧ u.lifeF = s.lifeF ∧ MemoryKept s u) ∧
    (waiters s (· == .thaw) = [] → s.dom.thawWait = false → ∃ u, exec (.freezeNInput on) s = .next u ∧
      getF u 0 F.PWR_DIN_FRZ_RAW = b2n on ∧ getF u 0 F.PWR_DIN_FRZ_ACT = b2n on ∧ (on = false → u.lifeF = s.lifeF) ∧
      (on = true → ∀ g, g < 168 → (look {} s.lifeF g).st = .live → (field s g).freezeReq = none → (field s g).beats = [] →
        (look {} u.lifeF g).st = .frozen) ∧ MemoryKept s u) ∧
    (let x := if on then F.PWR_DIN_FRZ_CHATTER else F.PWR_DIN_CUR_CHATTER
     ∃ u, exec (.discreteInputChatter on) s = .next u ∧ getF u 0 x = min (2 ^ x.w - 1) (getF s 0 x + 1) ∧ RegsKept s u [x.off] ∧
      OnlyRegs s u ∧ MemoryKept s u)) ∧
  (∀ (s : State) (a : Nat), s.power.curAt = some a → a + usTc s 10000000 ≤ s.tc → s.power.frzAt = none →
    ∃ u, exec .inputHeldReport s = .next u ∧ lastCode u 290 = 0x63 ∧ getF u 0 F.PWR_ERR_HELD = 1 ∧ u.power.curAt = some s.tc ∧
      MemoryKept s u) ∧
  (∀ s : State,
    (s.power.parking = true → anyLife s .live = false → (∀ f, f < 168 → fieldIdle s f = true) → (∀ e ∈ s.firnQ, e.2 = []) →
      ∃ u, exec .parkComplete s = .next u ∧ powerState u = 4 ∧
      getF u 0 F.PWR_DVFS_VCODE = 0 ∧ u.power.parking = false ∧ waiters u (· == .park) = [] ∧ MemoryKept s u) ∧
    (s.power.resuming = true → ∃ u, exec .resumeComplete s = .next u ∧ powerState u = 1 ∧ u.power.resuming = false ∧
      getF u 0 F.PWR_DVFS_VCODE = railFor (freq s) % 2 ^ F.PWR_DVFS_VCODE.w ∧ waiters u (· == .resume) = [] ∧ MemoryKept s u))

/-- The main input and the hold-up store. A loss below 680 V of a running engine that may ride raises 0x64 and starts the ride; of one that may not, and a ride that
reaches its time or its reserve, stops the engine: rails off, 0x65 to be recorded, every tile's state, scratch and firn lost. A return from 720 V to
900 V ends the ride and charges; beyond 900 V the spec gives no behaviour (R386): a fault. Gauges over 240 J apart are at fault, 0x62; a full charge
with a good recalibration ends that (R315, R316). Rests on the model's choices of log entries 8, 85, 86 and 175. -/
def Obligations.HoldUpCarriesTheEngine : Prop :=
  ∀ s : State,
    let stopped := fun (u : State) => u.steward.stopped = true ∧ u.steward.stopCode = 0x65 ∧ powerState u = 0 ∧ u.tiles = [] ∧
      u.scratch = [] ∧ u.firn = []
    (∀ mv, mv < 680000 → powerState s ≠ 0 → s.power.ride = none →
      (mayRide s = true → ∃ u, exec (.mainInputLoss mv) s = .next u ∧ u.steward.mainOk = false ∧ powerState u = 2 ∧
        u.power.ride = some s.tc ∧ lastCode u 289 = 0x64 ∧ getF u 0 F.PWR_ERR_INPUT_LOST = 1 ∧ MemoryKept s u) ∧
      (mayRide s = false → ∃ u, exec (.mainInputLoss mv) s = .next u ∧ u.steward.mainOk = false ∧ stopped u)) ∧
    (∀ mv, 720000 ≤ mv → mv ≤ 900000 → ∃ u, exec (.mainInputReturn mv) s = .next u ∧ u.steward.mainOk = true ∧
      (s.power.ride ≠ none → powerState u = (if s.power.parking || s.power.resuming then 5 else 1) ∧ u.power.ride = none ∧ getF u 0 F.PWR_HOLD_CHARGING = 1) ∧
      (s.power.ride = none → RegsKept s u []) ∧ MemoryKept s u) ∧
    (∀ mv, 900000 < mv → exec (.mainInputReturn mv) s = .fault .beyondRatings) ∧
    (∀ t j, s.power.ride = some t →
      ((t + usTc s (1000 * getF s 0 F.PWR_HOLD_RIDE_MS) ≤ s.tc ∨ j ≤ getF s 0 F.PWR_HOLD_RESERVE) →
        ∃ u, exec (.rideTimeout j) s = .next u ∧ stopped u) ∧
      (s.tc < t + usTc s (1000 * getF s 0 F.PWR_HOLD_RIDE_MS) → getF s 0 F.PWR_HOLD_RESERVE < j → ∃ u, exec (.rideTimeout j) s = .next u ∧
        getF u 0 F.PWR_HOLD_E_GOV = min 4095 j ∧ RegsKept s u [F.PWR_HOLD_E_GOV.off] ∧ OnlyRegs s u ∧ MemoryKept s u)) ∧
    (∀ c v : BitVec 12, s.power.ride = none → ∃ u, exec (.gaugeFault c v) s = .next u ∧ getF u 0 F.PWR_HOLD_E_COUL = c.toNat ∧
      getF u 0 F.PWR_HOLD_E_VOLT = v.toNat ∧ getF u 0 F.PWR_HOLD_E_GOV = min c.toNat v.toNat ∧
      (240 < max c.toNat v.toNat - min c.toNat v.toNat → getF u 0 F.PWR_HOLD_GAUGE_FAULT = 1 ∧ lastCode u 288 = 0x62) ∧ MemoryKept s u) ∧
    (∀ ok, powerState s ≠ 0 → (getF s 0 F.PWR_HOLD_RECAL_PEND = 0 ∨ ok = true) → ∃ u, exec (.holdupFullCharge ok) s = .next u ∧
      getF u 0 F.PWR_HOLD_E_GOV = 2400 ∧ getF u 0 F.PWR_HOLD_GAUGE_FAULT = 0 ∧ getF u 0 F.PWR_HOLD_CHARGING = 0 ∧ OnlyRegs s u ∧
      MemoryKept s u)

/-- A thermal sample of a running steward shows its readings, names a hottest field, and sets the thermal cap from inlet and hottest field, 2 kW a degree over 40 and THROTTLE;
a reading of a trip level counts towards the trip, and any other clears the count (R318, R319). The tenth in a row stops the engine, and only a reset starts it again.
COOL_DEMAND is 100 while the outputs are held, and else between 20 and 100, or with FORCE the forced duty; 2 s into a steward reset it is 100 (R320). Rests on the model's choices of log entries 7, 87 and 176. -/
def Obligations.CoolingFollowsTheReadings : Prop :=
  (∀ (s : State) (r : ThermalReading), s.steward.on = true → r.fields.Pairwise (fun a b => a.1 ≠ b.1) →
    ∃ u, exec (.thermalSample r) s = .next u ∧
      getF u 0 F.THM_COOL_INLET = min 65535 r.inlet ∧ getF u 0 F.THM_COOL_OUTLET = min 65535 r.outlet ∧
      getF u 0 F.THM_COOL_FLOW = min 65535 r.flow ∧
      (∀ e ∈ r.fields, getF u 0 (F.THM_FIELD_NOW.at (8 * e.1.val)) = min 65535 e.2) ∧
      (∀ f, f < 168 → fieldTemp u f ≤ fieldTemp u (getF u 0 F.THM_WAFER_HOT_FIELD)) ∧
      (let hot := fieldTemp u (getF u 0 F.THM_WAFER_HOT_FIELD)
       u.thermal.cap = 88000 - 20 * (r.inlet - 4000) - 20 * (hot - 100 * getF s 0 F.THM_LIMITS_THROTTLE) ∧
       u.thermal.tripFor = (if 10500 ≤ hot ∨ 7000 ≤ r.outlet then s.thermal.tripFor + 1 else 0)) ∧ MemoryKept s u) ∧
  (∀ s : State, 10 ≤ s.thermal.tripFor → powerState s ≠ 0 → ∃ u, exec .thermalTrip s = .next u ∧ u.steward.stopped = true ∧
    u.steward.tripped = true ∧ powerState u = 0 ∧ u.tiles = [] ∧ u.scratch = [] ∧ u.firn = []) ∧
  (∀ (s : State) (w : Nat), s.steward.on = true → ∃ u, exec (.coolDemandUpdate w) s = .next u ∧
    (outputsHeld s = true → getF u 0 F.THM_DEMAND_DUTY = 100) ∧
    (outputsHeld s = false → getF s 0 F.CLK_STATUS_SAFE = 0 → s.thermal.heldAt = none →
      (getF s 0 F.THM_DEMAND_FORCE = 0 → 20 ≤ getF u 0 F.THM_DEMAND_DUTY ∧ getF u 0 F.THM_DEMAND_DUTY ≤ 100) ∧
      (getF s 0 F.THM_DEMAND_FORCE = 1 → getF u 0 F.THM_DEMAND_DUTY = getF s 0 F.THM_DEMAND_FORCE_DUTY)) ∧
    (outputsHeld s = false → (getF s 0 F.CLK_STATUS_SAFE = 1 ∨ s.thermal.heldAt ≠ none) → u = s) ∧
    RegsKept s u [F.THM_DEMAND_DUTY.off] ∧ OnlyRegs s u ∧ MemoryKept s u) ∧
  (∀ (s : State) (t : Nat), s.thermal.heldAt = some t → t + usTc s 2000000 ≤ s.tc → ∃ u, exec .coolDemandHoldExpiry s = .next u ∧
    getF u 0 F.THM_DEMAND_DUTY = 100 ∧ RegsKept s u [F.THM_DEMAND_DUTY.off] ∧ OnlyRegs s u ∧ MemoryKept s u)

/-- The loss of the selected, active reference enters the safe state with 0x50, and a lost PLL lock with 0x54: SAFE, a switch to FALLBACK begun. A source that qualifies,
a port's 100 ms after its lanes are aligned, is active and qualified. A switch to an active source changes CUR_SRC over; then both PLLs relock, with 0x52 and a count, the safe state ends and what waits is
answered (said without AUTO_RETURN). A switch not done in 1 us hangs, 0x51; at 1 ms hardware forces it, and a write of FORCE does at any time. A
calibration pass shows its skew, and 0x56 at a limit; CLK_EN is what was written (R327 to R336). Rests on the model's choices of log entries 4, 90, 91 and 92. -/
def Obligations.ClocksAreSwitched : Prop :=
  ∀ s : State,
    (srcActive s (curSrc s) = true → ∃ u, exec .referenceLoss s = .next u ∧ getF u 0 F.CLK_STATUS_SAFE = 1 ∧ muxState u = 1 ∧
      getF u 0 F.CLK_STATUS_PEND_SRC = getF s 0 F.CLK_REF_CFG_FALLBACK ∧ srcActive u (curSrc s) = false ∧ lastCode u 294 = 0x50 ∧
      getF u 0 F.CLK_EVT_LOSSES = min (2 ^ F.CLK_EVT_LOSSES.w - 1) (getF s 0 F.CLK_EVT_LOSSES + 1)) ∧
    (∀ w : Fin 2, getF s (wingBase w) F.WNG_PLL_LOCK = 1 → srcActive s (curSrc s) = true → getF s 0 F.CLK_STATUS_SAFE = 0 →
      ∃ u, exec (.pllLockLoss w) s = .next u ∧ getF u 0 F.CLK_STATUS_SAFE = 1 ∧ muxState u = 1 ∧ lastCode u 294 = 0x54) ∧
    (∀ i : Fin 5, (i.val = 4 ∨ (portUp s i = true ∧ (muxState s < 2 ∨ (port s i).since < s.clocks.switchAt))) →
      ∃ u, exec (.sourceQualified i) s = .next u ∧ srcActive u i = true ∧
      (i.val < 4 → u.tc = max s.tc (qualFrom s i + usTc s 100000)) ∧
      srcQualified u i = true ∧ (∀ j, j < 5 → j ≠ i.val → srcActive u j = srcActive s j ∧ srcQualified u j = srcQualified s j) ∧
      MemoryKept s u) ∧
    ((muxState s = 1 ∨ muxState s = 3) → srcActive s (getF s 0 F.CLK_STATUS_PEND_SRC) = true → ∃ u, exec .referenceSwitchDone s = .next u ∧
      curSrc u = getF s 0 F.CLK_STATUS_PEND_SRC ∧ muxState u = 0 ∧ u.clocks = { s.clocks with relock := true, doneAt := s.tc } ∧
      RegsKept s u [F.CLK_STATUS_MUX.off, F.CLK_MUX_WAIT_NS.off] ∧ MemoryKept s u) ∧
    ((getF s (wingBase 0) F.WNG_PLL_LOCK = 0 ∨ getF s (wingBase 1) F.WNG_PLL_LOCK = 0) → muxState s = 0 → srcActive s (curSrc s) = true →
      powerState s ≠ 0 → getF s 0 F.CLK_REF_CFG_AUTO_RETURN = 0 → ∃ u, exec .pllRelock s = .next u ∧
      getF u (wingBase 0) F.WNG_PLL_LOCK = 1 ∧ getF u (wingBase 1) F.WNG_PLL_LOCK = 1 ∧ getF u 0 F.CLK_STATUS_SAFE = 0 ∧
      u.clocks.relock = false ∧ (s.clocks.relock = true → lastCode u 294 = 0x52 ∧
        getF u 0 F.CLK_EVT_SWITCHES = min (2 ^ F.CLK_EVT_SWITCHES.w - 1) (getF s 0 F.CLK_EVT_SWITCHES + 1)) ∧
      waiters u (· == .clock) = [] ∧ MemoryKept s u) ∧
    (muxState s = 1 → s.clocks.switchAt + usTc s 1 ≤ s.tc → ∃ u, exec .muxHang s = .next u ∧ muxState u = 2 ∧ lastCode u 294 = 0x51 ∧
      getF u 0 F.CLK_EVT_HANGS = min (2 ^ F.CLK_EVT_HANGS.w - 1) (getF s 0 F.CLK_EVT_HANGS + 1) ∧ OnlyRegs s u ∧ MemoryKept s u) ∧
    ((muxState s = 1 ∨ muxState s = 2) → s.clocks.switchAt + usTc s 1000 ≤ s.tc → srcActive s (getF s 0 F.CLK_STATUS_PEND_SRC) = true →
      ∃ u, exec .muxTimeout s = .next u ∧ muxState u = 3 ∧ getF u 0 F.CLK_MUX_LAST_FORCE = 2 ∧
      getF u 0 F.CLK_STATUS_PEND_SRC = getF s 0 F.CLK_STATUS_PEND_SRC ∧ OnlyRegs s u ∧ MemoryKept s u) ∧
    (∀ v : Word, v.getLsbD 63 = true → (muxState s = 1 ∨ muxState s = 2) → ∃ u, exec (.muxForce v) s = .next u ∧ muxState u = 3 ∧
      getF u 0 F.CLK_MUX_LAST_FORCE = 1 ∧ RegsKept s u [F.CLK_STATUS_MUX.off, F.CLK_MUX_LAST_FORCE.off] ∧ OnlyRegs s u ∧ MemoryKept s u) ∧
    (∀ (f : FieldId) (n : Nat) (ps : BitVec 16), getF s (wingBase (f / 84)) F.WNG_FWD_EN = 1 → powerState s ≠ 0 →
      ∃ u, exec (.fwdCalPass f n ps) s = .next u ∧ u.tc = max s.tc (field s f).fwdAt ∧ getF u (wingBase (f / 84)) F.WNG_FWD_MAX_SKEW_PS = ps.toNat ∧
      getF u (wingBase (f / 84)) F.WNG_FWD_AT_LIMIT = min (2 ^ F.WNG_FWD_AT_LIMIT.w - 1) (getF s (wingBase (f / 84)) F.WNG_FWD_AT_LIMIT + n) ∧
      (n ≠ 0 → lastCode u 294 = 0x56) ∧ MemoryKept s u) ∧
    (∀ v : Word, ∃ u, exec (.clockGateWrite v) s = .next u ∧ rd u F.MGT_CLK_EN_NVS.off = v.toNat % 128 ∧
      getF u 0 F.MGT_CLK_ON_ON = v.toNat % 128 ∧ RegsKept s u [F.MGT_CLK_EN_NVS.off, F.MGT_CLK_ON_ON.off] ∧ MemoryKept s u)

/-- A level source out of service is pending as its input is. A rising edge makes an edge source pending, is absorbed where it is already, and in service counts in ARR;
so does each pulse. A 1 written to EVC.PEND clears edge sources only; SWSET is an edge of a software source; a general timer with its clock pulses its
source. A hold-off that expires is over; the one level source of its group that owes the host a message sends it (R368, R373 to R375). Rests on the model's choices of log entries 94, 95 and 96. -/
def Obligations.EventSourcesBecomePending : Prop :=
  ∀ s : State,
    (∀ n : Fin 1023, isPulsed n = false → ∃ u, exec (.evcSourceInput n) s = .next u ∧
      srcStat u n F.EVC_SRC_STAT_INPUT = b2n (inputLevel s n) ∧
      (isEdge s n = false → inService s n = false → isPend u n = inputLevel s n) ∧
      (isEdge s n = true → inputLevel s n = true → srcStat s n F.EVC_SRC_STAT_INPUT = 0 →
        (inService s n = true → srcStat u n F.EVC_SRC_STAT_ARR = min 255 (srcStat s n F.EVC_SRC_STAT_ARR + 1) ∧ isPend u n = isPend s n) ∧
        (inService s n = false → isPend u n = true ∧ getF u 0 F.EVC_STAT_ABSORBED = absorbedBy s (b2n (isPend s n)))) ∧
      OnlyEvc s u [srcStatAddr n, F.EVC_STAT_ABSORBED.off]) ∧
    (∀ (n : Fin 1023) (k : Nat), isPulsed n = true → isEdge s n = true → inService s n = false → look 0 s.evc.pulses n = k + 1 →
      ∃ u, exec (.evcSourceInput n) s = .next u ∧ isPend u n = true ∧ look 0 u.evc.pulses n = 0 ∧
      getF u 0 F.EVC_STAT_ABSORBED = absorbedBy s (k + b2n (isPend s n)) ∧ OnlyEvc s u [srcStatAddr n, F.EVC_STAT_ABSORBED.off]) ∧
    (∀ (i : Fin 16) (v : Word), ∃ u, exec (.evcPendWrite i v) s = .next u ∧
      (∀ n, n < 1023 → isPend u n = (isPend s n && !(n / 64 == i.val && v.getLsbD (n % 64) && isEdge s n))) ∧
      OnlyEvc s u ((List.range 64).map fun b => srcStatAddr (64 * i + b))) ∧
    (∀ (v : Word), let n := v.toNat % 1024
      512 ≤ n → n < 1023 → isEdge s n = true → ∃ u, exec (.evcSwset v) s = .next u ∧
      (inService s n = false → isPend u n = true ∧ getF u 0 F.EVC_STAT_ABSORBED = absorbedBy s (b2n (isPend s n))) ∧
      (inService s n = true → srcStat u n F.EVC_SRC_STAT_ARR = min 255 (srcStat s n F.EVC_SRC_STAT_ARR + 1)) ∧
      OnlyEvc s u [srcStatAddr n, F.EVC_STAT_ABSORBED.off]) ∧
    (∀ k : Fin 16, getF s 0 F.MGT_CLK_EN_TIMER = 1 → ∃ u, exec (.generalTimerExpiry k) s = .next u ∧
      look 0 u.evc.pulses (416 + k) = look 0 s.evc.pulses (416 + k) + 1 ∧ OnlyEvc s u []) ∧
    (∀ (g : Fin 32) (t : Nat), look none s.evc.hold g = some t → t ≤ s.tc → ∃ u, exec (.holdOffExpiry g) s = .next u ∧
      (s.evc.owed = [] → isHeld u g = false ∧ u.evc.msix = s.evc.msix) ∧
      (∀ n, s.evc.owed = [n] → n < 1023 → group n = g → isPend s n = true → srcCfg s n F.EVC_SRC_HOST = 1 → srcCfg s n F.EVC_SRC_EN = 1 →
        34 ≤ srcCfg s n F.EVC_SRC_VEC → u.evc.msix = s.evc.msix ++ [(srcCfg s n F.EVC_SRC_FUNC, srcCfg s n F.EVC_SRC_VEC)] ∧
        u.evc.owed = [] ∧ isHeld u g = (getF s 0 (F.EVC_HOLD_HOLD_US.at (8 * g)) != 0)) ∧ OnlyEvc s u [])

/-- A claim takes, of the sources eligible for the core, that of the highest group priority, then sub-priority, then lowest number: it is in service on the core, not
pending, its ARR is zero, its group held off; with none eligible it reads 0x3FF and counts. A completion takes a source out of service, pending again with
arrivals or an active input; one not in service counts in BAD_COMPLETE; a flush empties the core. A core sleeps unless a source is eligible; it wakes for one
with MASK 0, else by the fall-back, which is counted (R369 to R373, R376, R377). -/
def Obligations.CoresClaimAndComplete : Prop :=
  ∀ (s : State) (c : Fin 4),
    (∀ n, n < 1023 → eligible s c n = true →
      (∀ m, m < 1023 → eligible s c m = true → m ≠ n → groupPrio s m < groupPrio s n ∨
        (groupPrio s m = groupPrio s n ∧ (subPrio s m < subPrio s n ∨ (subPrio s m = subPrio s n ∧ n < m)))) →
      ∃ u, exec (.evcClaim c) s = .next u ∧ u.rdata = BitVec.ofNat 64 n ∧ inService u n = true ∧ isPend u n = false ∧
        srcStat u n F.EVC_SRC_STAT_CORE = c ∧ srcStat u n F.EVC_SRC_STAT_ARR = 0 ∧ svcOf u c = n :: svcOf s c ∧
        isHeld u (group n) = (getF s 0 (F.EVC_HOLD_HOLD_US.at (8 * group n)) != 0) ∧ OnlyEvc s { u with rdata := s.rdata } [srcStatAddr n]) ∧
    ((∀ n, n < 1023 → eligible s c n = false) → ∃ u, exec (.evcClaim c) s = .next u ∧ u.rdata = 0x3FF ∧
      getF u 0 F.EVC_STAT_SPURIOUS = min 65535 (getF s 0 F.EVC_STAT_SPURIOUS + 1) ∧ u.evc = s.evc ∧
      OnlyEvc s { u with rdata := s.rdata } [F.EVC_STAT_SPURIOUS.off]) ∧
    (∀ v : Word, let n := v.toNat % 1024
      (n ∈ svcOf s c → ∃ u, exec (.evcComplete c v) s = .next u ∧ inService u n = false ∧
        (∀ m, m ∈ svcOf u c ↔ m ∈ svcOf s c ∧ m ≠ n) ∧
        isPend u n = (isPend s n || (isEdge s n && srcStat s n F.EVC_SRC_STAT_ARR != 0) || (!(isEdge s n) && srcStat s n F.EVC_SRC_STAT_INPUT == 1)) ∧
        OnlyEvc s u [srcStatAddr n]) ∧
      (n ∉ svcOf s c → ∃ u, exec (.evcComplete c v) s = .next u ∧
        getF u 0 F.EVC_STAT_BAD_COMPLETE = min 65535 (getF s 0 F.EVC_STAT_BAD_COMPLETE + 1) ∧ u.evc = s.evc ∧
        OnlyEvc s u [F.EVC_STAT_BAD_COMPLETE.off])) ∧
    (∃ u, exec (.evcFlush c) s = .next u ∧ svcOf u c = [] ∧ (∀ n ∈ svcOf s c, inService u n = false) ∧
      OnlyEvc s u (F.EVC_STAT_BAD_COMPLETE.off :: (svcOf s c).map srcStatAddr)) ∧
    (asleep s c = false → (∀ n, n < 1023 → eligible s c n = false) → ∃ u, exec (.coreSleep c) s = .next u ∧ asleep u c = true ∧
      OnlyEvc s u [F.EVC_CORE_STAT_SLEEP.off + 0x40 * c]) ∧
    (∀ n, n < 1023 → eligible s c n = true → exec (.coreSleep c) s = .next s) ∧
    (∀ n, asleep s c = true → n < 1023 → offered s c n = true → ∃ u, exec (.coreWake c) s = .next u ∧ asleep u c = false ∧
      (eligible s c n = true → getF s 0 (coreF F.EVC_CORE_CTL_MASK c) = 0 → getF u 0 (coreF F.EVC_CORE_STAT_WAKE_FB c) = 0 ∧
        OnlyEvc s u [F.EVC_CORE_STAT_SLEEP.off + 0x40 * c]) ∧
      (getF s 0 (coreF F.EVC_CORE_CTL_MASK c) = 1 → getF u 0 (coreF F.EVC_CORE_STAT_WAKE_FB c) = 1 ∧
        getF u 0 F.EVC_STAT_FALLBACK_WAKES = min 65535 (getF s 0 F.EVC_STAT_FALLBACK_WAKES + 1) ∧
        OnlyEvc s u [F.EVC_CORE_STAT_SLEEP.off + 0x40 * c, F.EVC_STAT_FALLBACK_WAKES.off]))

/-- A read of a field register, single or part of a split value, answers every field but WO and RSV ones and clears its RC fields; a write stores RW fields, clears W1C fields
where a 1 is written, and changes nothing else (Table 00.4). An address that R31 refuses reads zero and ignores writes, as does every address while the
steward is held in reset. A doorbell of a free slot of the link makes it busy, last in the queue, its DONE clear (R341). Rests on the model's choices of log entries 97, 99, 123 and 147. -/
def Obligations.RegistersFollowTheirAccessCodes : Prop :=
  ∀ (s : State) (a : BitVec 40),
    let read := fun c => c = Instr.rcRegisterRead a ∨ c = Instr.splitValueRead a
    (∀ c r, read c → s.steward.on = true → addrSpace a.toNat = 2 → addrCode s a.toNat = 0 → regAt a.toNat = some r →
      a.toNat % 0x10000 ∉ liveFieldOffsets → ∃ u, exec c s = .next u ∧
      u.rdata = BitVec.ofNat 64 (rd s a.toNat) &&& (BitVec.ofNat 64 r.rw ||| BitVec.ofNat 64 r.ro ||| BitVec.ofNat 64 r.w1c ||| BitVec.ofNat 64 r.rc) ∧
      BitVec.ofNat 64 (rd u a.toNat) = BitVec.ofNat 64 (rd s a.toNat) &&& ~~~(BitVec.ofNat 64 r.rc) ∧
      RegsKept s u [a.toNat] ∧ { u with csr := s.csr, rdata := s.rdata } = s ∧ MemoryKept s u) ∧
    (∀ c, read c → (s.steward.on = false ∨ addrCode s a.toNat ≠ 0) → exec c s = .next { s with rdata := 0 }) ∧
    (∀ (link : Fin 2) (v : Word) r, s.steward.on = true → addrSpace a.toNat = 2 → addrCode s a.toNat = 0 → regAt a.toNat = some r →
      ∃ u, exec (.registerWrite link a v) s = .next u ∧
      BitVec.ofNat 64 (rd u a.toNat) =
        ((BitVec.ofNat 64 (rd s a.toNat) &&& ~~~(BitVec.ofNat 64 r.rw)) ||| (v &&& BitVec.ofNat 64 r.rw)) &&& ~~~(v &&& BitVec.ofNat 64 r.w1c) ∧
      RegsKept s u [a.toNat] ∧ OnlyRegs s u ∧ MemoryKept s u) ∧
    (∀ (link : Fin 2) (v : Word), (s.steward.on = false ∨ addrCode s a.toNat ≠ 0) → exec (.registerWrite link a v) s = .next s) ∧
    (∀ (link : Fin 2) (slot : Nat), s.steward.on = true → slot < 32 → slot / 16 = link.val → slotBusy s slot = false →
      ∃ u, exec (.registerWrite link 0x1000 (BitVec.ofNat 64 (2 ^ slot))) s = .next u ∧ slotBusy u slot = true ∧
      u.steward.queue = s.steward.queue ++ [slot] ∧ bit (getF u 0 F.MBX_DONE_DONE) slot = false ∧
      RegsKept s u [F.MBX_DONE_DONE.off] ∧ MemoryKept s u)

/-- The I3C target and the TAP. -/
def Obligations.SerialPortsAnswer : Prop :=
  I3cTargetAnswers ∧ TapInstructionsAct

/-- Before a command's own checks, in this order: an undefined opcode is answered with 0x81, a bit set outside the defined ones with 0x82, a command that may not run now with 0x83;
nothing else changes (R343, R348). A word of a request record is stored while its slot is free, else ignored and, of a PCIe slot, counted; the last
word of a management-Ethernet datagram makes its slot busy (R339, R348); while that interface has no clock its words are discarded (R13). Rests on the model's choice of log entry 119. -/
def Obligations.MailboxRecordsAreChecked : Prop :=
  ∀ (s : State) (slot : Fin 34),
    (pickedUp s slot = true →
      (reqOp s slot ∉ opcodes → ∃ u, exec (.undefinedOpcode slot) s = .next u ∧ Answered s u slot 0x81 [] ∧ OnlyAnswers s u []) ∧
      (∀ ok, ∀ r, IsCommand slot ok r → reqOp s slot = r.2.1 → r.2.2.2 s →
        (zerosOk s slot r.2.2.1 = false → ∃ u, exec r.1 s = .next u ∧ Answered s u slot 0x82 [] ∧ OnlyAnswers s u []) ∧
        (zerosOk s slot r.2.2.1 = true → notNow s slot = true → ∃ u, exec r.1 s = .next u ∧ Answered s u slot 0x83 [] ∧ OnlyAnswers s u []))) ∧
    (∀ (link : Fin 2) (i : Fin 8) (v : Word),
      (slotBusy s slot = true → ∃ u, exec (.requestRecordWrite link slot i v) s = .next u ∧ u.steward = s.steward ∧
        (slot.val < 32 → getF u 0 F.MBX_STAT_BLOCKED = min (2 ^ F.MBX_STAT_BLOCKED.w - 1) (getF s 0 F.MBX_STAT_BLOCKED + 1)) ∧
        RegsKept s u [F.MBX_STAT_BLOCKED.off] ∧ OnlyRegs s u ∧ MemoryKept s u) ∧
      (32 ≤ slot.val → getF s 0 F.MGT_CLK_EN_ETH = 0 → slotBusy s slot = false → exec (.requestRecordWrite link slot i v) s = .next s) ∧
      ((slot.val < 32 ∨ getF s 0 F.MGT_CLK_EN_ETH = 1) → slotBusy s slot = false → ∃ u, exec (.requestRecordWrite link slot i v) s = .next u ∧ reqWord u slot i = v.toNat ∧
        (∀ j k, 8 * j + k ≠ 8 * slot.val + i.val → reqWord u j k = reqWord s j k) ∧
        (slot.val < 32 → slotBusy u slot = false) ∧
        (32 ≤ slot.val → i.val = 7 → slotBusy u slot = true ∧ u.steward.queue = s.steward.queue ++ [slot.val]) ∧
        RegsKept s u [] ∧ MemoryKept s u))

/-- Once taken: GET_INFO and GET_STATUS answer their words; CSR_READ and CSR_WRITE of a plain field register its value, or the condition of R31; SET_POLICY stores N and W in range, else
0x28, GET_POLICY answers them, 0x29 during a calving; READ_HISTORY writes the newer records of the log to the firn at DEST; RESET_ENGINE with
its key is due 10 ms on, else 0x82 (R344, R31, R242, R249, R364). Rests on the model's choices of log entries 67, 98, 121, 145 and 146. -/
def Obligations.InformationCommandsAnswer : Prop :=
  ∀ (s : State) (slot : Fin 34),
    (∀ img, Taken s slot 1 [] → runningImg s = some img → jitorUp s = true → ∃ u c, exec (.getInfo slot) s = .next u ∧
      Answered s u slot 0 [Config.serial.toNat, img.version % 2 ^ 16 + 2 ^ 16 * Config.romVersion.toNat + 2 ^ 32 * Config.moduleRevision.toNat,
        nvsView s 1, nvsView s 2, c] ∧ OnlyAnswers s u []) ∧
    (Taken s slot 2 [] → ∃ u, exec (.getStatus slot) s = .next u ∧ Answered s u slot 0 [mirrorWord s 0, mirrorWord s 1, mirrorWord s 2,
      getF s 0 F.FAB_COMMITTED_ID, s.steward.startCode % 256 + 256 * (s.steward.startPhase % 256)] ∧ OnlyAnswers s u []) ∧
    (∀ f : FieldId, let a := fieldBase f + F.FLD_PWR_CFG_DIDT.off
      (Taken s slot 0x10 [2 ^ 43 - 1] → arg s slot 0 = a → ∃ u, exec (.csrRead slot) s = .next u ∧
        Answered s u slot 0 [rd s a &&& 0xFFFF00FF00FF] ∧ OnlyAnswers s u []) ∧
      (Taken s slot 0x11 [2 ^ 40 - 1, 2 ^ 64 - 1, 2 ^ 64 - 1] → arg s slot 0 = a → arg s slot 2 = 0 → ∃ u, exec (.csrWrite slot) s = .next u ∧
        rd u a &&& 0xFFFF00FF00FF = arg s slot 1 &&& 0xFFFF00FF00FF ∧ Answered s u slot 0 [arg s slot 1 &&& 0xFFFF00FF00FF] ∧
        OnlyAnswers s u [a])) ∧
    (addrCode s (arg s slot 0 % 2 ^ 40) ≠ 0 →
      (Taken s slot 0x10 [2 ^ 43 - 1] → arg s slot 0 / 2 ^ 40 < 7 → ∃ u, exec (.csrRead slot) s = .next u ∧
        Answered s u slot (addrCode s (arg s slot 0 % 2 ^ 40)) [] ∧ OnlyAnswers s u []) ∧
      (Taken s slot 0x11 [2 ^ 40 - 1, 2 ^ 64 - 1, 2 ^ 64 - 1] → ∃ u, exec (.csrWrite slot) s = .next u ∧
        Answered s u slot (addrCode s (arg s slot 0 % 2 ^ 40)) [] ∧ OnlyAnswers s u [])) ∧
    (let n := bits (arg s slot 0) 32 4; let w := bits (arg s slot 1) 0 32
     Taken s slot 0x50 calveMask → arg s slot 0 % 256 = 2 →
      (calving s = true → ∃ u, exec (.calveSetPolicy slot) s = .next u ∧ Answered s u slot 0x29 [] ∧ OnlyAnswers s u [] ∧ u.dep = s.dep) ∧
      (calving s = false → 1 ≤ n → n ≤ 8 → 60 ≤ w → w ≤ 2592000 → ∃ u, exec (.calveSetPolicy slot) s = .next u ∧
        Answered s u slot 0 [n, w] ∧ u.dep = { s.dep with policyN := n, policyWin := w } ∧ OnlyAnswers s u []) ∧
      (calving s = false → (n = 0 ∨ 8 < n ∨ w < 60 ∨ 2592000 < w) → ∃ u, exec (.calveSetPolicy slot) s = .next u ∧
        Answered s u slot 0x28 [] ∧ u.dep = s.dep ∧ OnlyAnswers s u [])) ∧
    (Taken s slot 0x50 calveMask → arg s slot 0 % 256 = 3 → calving s = false → ∃ u, exec (.calveGetPolicy slot) s = .next u ∧
      Answered s u slot 0 [s.dep.policyN, s.dep.policyWin] ∧ u.dep = s.dep ∧ OnlyAnswers s u []) ∧
    (let dest := arg s slot 1; let most := arg s slot 2
     let out := (s.dep.log.ring.filter fun r => decide (arg s slot 0 / 2 ^ 32 ≤ r.seq)).take most
     Taken s slot 0x51 [0xFFFFFFFF03FFFF03, 2 ^ 64 - 1, 2 ^ 32 - 1] → arg s slot 0 % 4 = 0 → dest % 64 = 0 → 1 ≤ most → most ≤ 65536 →
      dest + 16 * most ≤ 2 ^ 41 → (∀ st, st < 32 → frnState s st ≠ 3) → ∃ u, exec (.readHistory slot) s = .next u ∧
      respWord u slot 0 = reqWord s slot 0 % 2 ^ 32 ∧ respWord u slot 1 % 2 ^ 32 = out.length ∧ slotBusy u slot = false ∧
      (∀ i, i < 16 * out.length → Mem.read u.firn (dest + i) = (out.flatMap recBytes).getD i 0) ∧
      (∀ x, x < dest ∨ dest + 16 * out.length ≤ x → Mem.read u.firn x = Mem.read s.firn x) ∧
      (∀ x, Mem.read u.scratch x = Mem.read s.scratch x) ∧ RegsKept s u [F.MBX_DONE_DONE.off]) ∧
    (Taken s slot 0xF0 [0xFFFF000000000000] →
      (arg s slot 0 / 2 ^ 48 = 0x5E7E → ∃ u, exec (.resetEngine slot) s = .next u ∧ Answered s u slot 0 [] ∧ u.steward.resetAt = some s.tc ∧
        OnlyAnswers s u []) ∧
      (arg s slot 0 / 2 ^ 48 ≠ 0x5E7E → ∃ u, exec (.resetEngine slot) s = .next u ∧ Answered s u slot 0x82 [] ∧
        u.steward.resetAt = s.steward.resetAt ∧ OnlyAnswers s u []))

/-- LOAD_IMAGE is refused in a calving (0x29) or for an image R207 refuses (0x37); a full load places every backed tile in INSTAR, records the owner and waits for the load, or answers at
once where no tile is backed; between owners scratch is cleared (R207, R361). EXCHANGE is refused with 0x29 or 0x35, else it waits for its beat (R213). A
cocoon of a FROZEN, quiet engine is written within its own bytes, with its header and, where asked, scratch; COCOON_IN restores the g registers of tiles whose frame passes its CRC, and
FROZEN fields (R219, R221). Rests on the model's choices of log entries 50, 60, 61 and 152. -/
def Obligations.LoadsExchangesAndCocoons : Prop :=
  ∀ (s : State) (slot : Fin 34),
    (Taken s slot 0x20 [2 ^ 41 - 1, 2 ^ 32 - 1] →
      let base := arg s slot 0
      (calving s = true → ∃ u, exec (.loadImage slot) s = .next u ∧ Answered s u slot 0x29 [] ∧ OnlyAnswers s u []) ∧
      (calving s = false → imageRefused s base = true → ∃ u, exec (.loadImage slot) s = .next u ∧ Answered s u slot 0x37 [] ∧ OnlyAnswers s u []) ∧
      (calving s = false → imageRefused s base = false → isStandby s base = false → ∃ u, exec (.loadImage slot) s = .next u ∧
        (waiting u slot = some .load ∨ Answered s u slot 0 [0, 0]) ∧ u.steward.owner = some (arg s slot 1) ∧ u.beats.image = some base ∧
        u.load.map (fun l => (l.base, l.standby, l.slot)) = some (base, false, slot.val) ∧
        (∀ t : TileId, backed s (tileCluster (tileNo t)) = true → life u (tileNo t) = .instar) ∧
        ((s.steward.owner = none ∨ s.steward.owner = some (arg s slot 1)) → MemoryKept s u) ∧
        (∀ o, s.steward.owner = some o → o ≠ arg s slot 1 → u.scratch = [] ∧ ∀ a, a < base ∨ base + imgLen s base ≤ a → Mem.read u.firn a = 0))) ∧
    (Taken s slot 0x24 [3, 2 ^ 32 - 1] →
      let b := arg s slot 0; let n := exchBeat s (arg s slot 1)
      (calving s = true → ∃ u, exec (.exchange slot) s = .next u ∧ Answered s u slot 0x29 [] ∧ OnlyAnswers s u []) ∧
      (calving s = false → exchRefused s b n = true → ∃ u, exec (.exchange slot) s = .next u ∧ Answered s u slot 0x35 [] ∧ OnlyAnswers s u [] ∧
        u.exch = s.exch) ∧
      (calving s = false → exchRefused s b n = false → ∃ u, exec (.exchange slot) s = .next u ∧ OnlyWaits s u ∧
        (backedTiles s = 0 → Answered s u slot 0 [n] ∧ u.exch = s.exch) ∧
        (backedTiles s ≠ 0 → waiting u slot = some .exchange ∧ u.exch = some { bank := b, beat := n, slot := slot, left := backedTiles s }))) ∧
    (Taken s slot 0x60 [2 ^ 64 - 1, 1] →
      let dest := arg s slot 0; let scr := bit (arg s slot 1) 0; let size := cocoonBytes scr
      (calving s = true → ∃ u, exec (.cocoonOut slot) s = .next u ∧ Answered s u slot 0x29 [] ∧ OnlyAnswers s u []) ∧
      (calving s = false → cocoonOutRefused s dest scr = true → ∃ u, exec (.cocoonOut slot) s = .next u ∧ Answered s u slot 0x3A [] ∧ OnlyAnswers s u []) ∧
      (calving s = false → cocoonOutRefused s dest scr = false → allFrozen s = true → meshBusy s = false → anyForced s = false →
        waiters s (· == .thaw) = [] → s.dom.thawWait = false → (∀ st, st < 32 → frnState s st ≠ 3) → ∃ u x, exec (.cocoonOut slot) s = .next u ∧
        Answered s u slot 0 [size, 0] ∧ look none u.cocoons dest = some x ∧ x.tiles = s.tiles ∧
        Mem.bytes u.firn dest 4 = [0x4F, 0x43, 0x01, BitVec.ofNat 8 (b2n scr)] ∧
        (scr = true → ∀ t : TileId, backed s (tileCluster (tileNo t)) = true → ∀ r i, r < 512 → i < 512 →
          Mem.read u.firn (scratchOfs dest + 262656 * tileNo t + 512 * r + i) =
            Mem.read s.scratch (512 * rowKey (tileCluster (tileNo t)) (512 * tileT (tileNo t) + r) + i)) ∧
        (∀ a, a < dest ∨ dest + size ≤ a → Mem.read u.firn a = Mem.read s.firn a) ∧ (∀ a, Mem.read u.scratch a = Mem.read s.scratch a) ∧
        (scr = false → u.tiles = s.tiles) ∧ u.lifeF = s.lifeF)) ∧
    (Taken s slot 0x61 [2 ^ 64 - 1] →
      let a := arg s slot 0; let fb := cocoonField s a 24 8; let x := look none s.cocoons a
      let refused := cocoonInReady s = false ∨ 2 ^ 41 ≤ a ∨ cocoonOk s a = false ∨ cocoonLost s a = true
      (calving s = true → ∃ u, exec (.cocoonIn slot) s = .next u ∧ Answered s u slot 0x29 [] ∧ OnlyAnswers s u []) ∧
      (calving s = false → refused → ∃ u, exec (.cocoonIn slot) s = .next u ∧ Answered s u slot 0x3A [] ∧ OnlyAnswers s u []) ∧
      (calving s = false → ¬refused → ∃ u, exec (.cocoonIn slot) s = .next u ∧
        Answered s u slot 0 [cocoonBytes (bit (cocoonField s a 3 1) 0)] ∧ (∀ f, f < 168 → (look {} u.lifeF f).st = .frozen) ∧
        (fb % 512 = 0 → (∀ st, st < 32 → frnState s st ≠ 3) → ∀ t : TileId, let k := tileNo t
          let l := (List.range 128).map fun i => firnRow s (fb + 65536 * k + 512 * i)
          backed s (tileCluster k) = true → frameCalved x k (l.headD 0) = false → frameCrcOf x k (l.headD 0) = frameSum (l.drop 1) →
          ∀ (n : Fin 8) (i : Fin 16), getG u k n i = BitVec.ofNat 64 (numAt (frameBytes l 2 2) (8 * (16 * n.val + i.val)) 8)) ∧
        (∀ b, Mem.read u.firn b = Mem.read s.firn b)))

/-- START is refused with 0x36 unless every tile has ecloded; else, with nothing freezing, every LIVE or FROZEN field is LIVE with the first beat after a barrier next, whose number it
answers. FREEZE of an engine with nothing open freezes every LIVE field and answers the last beat sealed, 0x33 where one was forced. THAW is refused with
0x63 under FREEZE_N and 0x55 with nothing frozen, no good clock or a calving's hold, waits for a freeze under way, else every FROZEN field is LIVE (R202, R203, R312). Rests on the model's choices of log entries 55, 58 and 155. -/
def Obligations.StartFreezeAndThaw : Prop :=
  ∀ (s : State) (slot : Fin 34),
    (Taken s slot 0x21 [] →
      (allEclosed s = false → ∃ u, exec (.start slot) s = .next u ∧ Answered s u slot 0x36 [] ∧ OnlyAnswers s u [] ∧ u.beats = s.beats) ∧
      (∀ p w x sk fm, beatParams s (s.beats.image.getD 0) = (p, w, x, sk, fm) → allEclosed s = true → paramsOk p w x sk fm = true → joined s = false →
        freezing s = false → getF s 0 F.PWR_DIN_FRZ_ACT = 0 → mustStay s = false → ∃ u n, exec (.start slot) s = .next u ∧ Answered s u slot 0 [n] ∧
        u.beats.running = true ∧ u.beats.period = p ∧ (∀ f, f < 168 → ((look {} s.lifeF f).st = .live ∨ (look {} s.lifeF f).st = .frozen) →
          (look {} u.lifeF f).st = .live ∧ (field u f).nextNo = some n) ∧ MemoryKept s u)) ∧
    (Taken s slot 0x22 [] → slot.val ∈ s.steward.queue → waiters s (· == .thaw) = [] → s.dom.thawWait = false →
      (∀ f, f < 168 → (look {} s.lifeF f).st ≠ .frozen → (field s f).freezeReq = none ∧ (field s f).beats = []) →
      ∃ u, exec (.freeze slot) s = .next u ∧ Answered s u slot (if anyTimedOut s then 0x33 else 0) [lastSealed s] ∧
        (∀ f, f < 168 → (look {} s.lifeF f).st = .live → (look {} u.lifeF f).st = .frozen) ∧
        (∀ f, f < 168 → (look {} s.lifeF f).st ≠ .live → look {} u.lifeF f = look {} s.lifeF f) ∧ OnlyWaits s u ∧ u.tiles = s.tiles) ∧
    (Taken s slot 0x23 [] →
      (getF s 0 F.PWR_DIN_FRZ_ACT = 1 → ∃ u, exec (.thaw slot) s = .next u ∧ Answered s u slot 0x63 [] ∧ OnlyAnswers s u []) ∧
      (getF s 0 F.PWR_DIN_FRZ_ACT = 0 →
        (freezing s = true → ∃ u, exec (.thaw slot) s = .next u ∧ waiting u slot = some .thaw ∧ RegsKept s u [] ∧ u.lifeF = s.lifeF ∧ MemoryKept s u) ∧
        (freezing s = false → (anyFrozen s = false ∨ s.clocks.realigned = false ∨ getF s 0 F.CLK_STATUS_SAFE = 1 ∨ mustStay s = true) →
          ∃ u, exec (.thaw slot) s = .next u ∧ Answered s u slot 0x55 [] ∧ OnlyAnswers s u []) ∧
        (freezing s = false → anyFrozen s = true → s.clocks.realigned = true → getF s 0 F.CLK_STATUS_SAFE = 0 → mustStay s = false →
          ∃ u n, exec (.thaw slot) s = .next u ∧ Answered s u slot 0 [n] ∧ MemoryKept s u ∧ u.tiles = s.tiles ∧
            ∀ f, f < 168 → (look {} s.lifeF f).st = .frozen → (look {} u.lifeF f).st = .live ∧
              ((field s f).started = true → (field u f).nextNo = some n))))

/-- SET_POWER_CAP, SET_RAMP and SET_FLOOR in range store their fields and answer the register in force; out of range they are refused with 0x69. A park is refused while a tile is
INSTAR, else it begins, PWR.STATUS.STATE 5, until every field is FROZEN; a resume of a parked engine begins; either answers at once where there is nothing to
do (R303, R310, R314, R321). CLOCK_SELECT stores PREF and AUTO_RETURN and begins the switch to a qualified source; 0x55 refuses it (R334). Rests on the model's choices of log entries 83, 84 and 91. -/
def Obligations.PowerAndClockCommandsAct : Prop :=
  ∀ (s : State) (slot : Fin 34),
    let a := arg s slot 0
    (Taken s slot 0x30 [capMask] →
      (a % 4 = 0 → CapInRange s a → ∃ u, exec (.setPowerCap slot) s = .next u ∧ getF u 0 F.PWR_CAP_CAP = bits a 8 8 ∧
        getF u 0 F.PWR_CAP_PRIO = bits a 16 3 ∧ getF u 0 F.PWR_CAP_FREQ = bits a 20 12 ∧ getF u 0 F.PWR_CAP_CURTAIL_CAP = bits a 32 8 ∧
        getF u 0 F.PWR_HOLD_RIDE_EN = bits a 40 1 ∧ getF u 0 F.PWR_HOLD_RIDE_MS = bits a 41 6 ∧ Answered s u slot 0 [rd u F.PWR_CAP_CAP.off] ∧ MemoryKept s u) ∧
      (a % 4 = 0 → ¬CapInRange s a → RefusesPower s slot (.setPowerCap slot)) ∧
      (a % 4 = 1 → (¬CapInRange s a ∨ anyLife s .instar = true) → RefusesPower s slot (.park slot)) ∧
      (a % 4 = 1 → CapInRange s a → anyLife s .instar = false → ∃ u, exec (.park slot) s = .next u ∧ MemoryKept s u ∧
        (powerState s = 4 → Answered s u slot 0 [rd s F.PWR_CAP_CAP.off] ∧ OnlyAnswers s u []) ∧
        (powerState s ≠ 4 → powerState u = 5 ∧ u.power.parking = true ∧ waiting u slot = some .park)) ∧
      (a % 4 = 2 → ¬CapInRange s a → RefusesPower s slot (.resume slot)) ∧
      (a % 4 = 2 → CapInRange s a → ∃ u, exec (.resume slot) s = .next u ∧ MemoryKept s u ∧
        (powerState s ≠ 4 → Answered s u slot 0 [rd s F.PWR_CAP_CAP.off] ∧ OnlyAnswers s u []) ∧
        (powerState s = 4 → powerState u = 5 ∧ u.power.resuming = true ∧ waiting u slot = some .resume ∧ RegsKept s u [F.PWR_STATUS_STATE.off]))) ∧
    (Taken s slot 0x31 [2 ^ 32 - 1] →
      (a % 2 ^ 16 ≤ 1000 → a / 2 ^ 16 ≤ 1000 → ∃ u, exec (.setRamp slot) s = .next u ∧ getF u 0 F.PWR_RAMP_UP = a % 2 ^ 16 ∧
        getF u 0 F.PWR_RAMP_DOWN = a / 2 ^ 16 ∧ Answered s u slot 0 [rd u F.PWR_RAMP_UP.off] ∧ OnlyAnswers s u [F.PWR_RAMP_UP.off]) ∧
      ((1000 < a % 2 ^ 16 ∨ 1000 < a / 2 ^ 16) → RefusesPower s slot (.setRamp slot))) ∧
    (Taken s slot 0x32 [2 ^ 9 - 1] →
      (a % 2 ^ 8 ≤ 88 → a % 2 ^ 8 ≤ getF s 0 F.PWR_CAP_CAP → ∃ u, exec (.setFloor slot) s = .next u ∧ getF u 0 F.PWR_FLOOR_KW = a % 2 ^ 8 ∧
        getF u 0 F.PWR_FLOOR_TRACK = a / 2 ^ 8 ∧ Answered s u slot 0 [rd u F.PWR_FLOOR_KW.off] ∧ OnlyAnswers s u [F.PWR_FLOOR_KW.off]) ∧
      ((88 < a % 2 ^ 8 ∨ getF s 0 F.PWR_CAP_CAP < a % 2 ^ 8) → RefusesPower s slot (.setFloor slot))) ∧
    (Taken s slot 0x80 [2 ^ 5 - 1] →
      let src := a % 8
      let refused := 4 < src ∨ (joined s = true ∧ src ≠ getF s 0 F.FAB_DOM_TICKPORT) ∨ (bit a 3 = true ∧ srcActive s src = false)
      (refused → ∃ u, exec (.clockSelect slot) s = .next u ∧ Answered s u slot 0x55 [] ∧ OnlyAnswers s u []) ∧
      (¬refused → bit a 3 = false → muxState s = 0 → ∃ u, exec (.clockSelect slot) s = .next u ∧ getF u 0 F.CLK_REF_CFG_PREF = src ∧
        getF u 0 F.CLK_REF_CFG_AUTO_RETURN = b2n (bit a 4) ∧ MemoryKept s u ∧
        (curSrc s = src → Answered s u slot 0 [] ∧ OnlyAnswers s u [F.CLK_REF_CFG_PREF.off]) ∧
        (curSrc s ≠ src → srcQualified s src = true → muxState u = 1 ∧ getF u 0 F.CLK_STATUS_PEND_SRC = src ∧ waiting u slot = some .clock) ∧
        (curSrc s ≠ src → srcQualified s src = false → Answered s u slot 0 [] ∧ u.clocks.want = some src ∧ OnlyAnswers s u [F.CLK_REF_CFG_PREF.off])) ∧
      (¬refused → bit a 3 = true → (muxState s = 1 ∨ muxState s = 2) → ∃ u, exec (.clockSelect slot) s = .next u ∧ muxState u = 3 ∧
        getF u 0 F.CLK_REF_CFG_PREF = src ∧ MemoryKept s u))

/-- With the NVS clock and a good read-back: STORE_SETTINGS writes the copy not in force with the next SEQ, CAL_EXPORT writes the set to firn, CAL_IMPORT takes a set with its key that is
the engine's own or forced, FW_UPDATE writes the slot that does not run; each answers and counts. Without, they answer 0x8A, 0x80, 0x01, 0x85 or 0x84 and leave
the copies as they were (R351 to R359). Rests on the model's choices of log entries 110, 111 and 121. -/
def Obligations.NvsCommandsAct : Prop :=
  ∀ (s : State) (slot : Fin 34) (ok : Bool),
    let n := s.steward.nvs; let a := arg s slot 0; let o := arg s slot 1
    (Taken s slot 0x40 [1] →
      let seq := (match inForce n with | some (c, _) => c.seq | none => 0) + 1
      let toB := match inForce n with | some (_, b) => !b | none => false
      let copy : Copy := if a = 1 then { seq := seq } else snapshot s seq
      (nvsOn s = false → ∃ u, exec (.storeSettings slot ok) s = .next u ∧ Answered s u slot 0x8A [] ∧ u.steward.nvs = n ∧ OnlyAnswers s u []) ∧
      (nvsOn s = true → ∃ u, exec (.storeSettings slot ok) s = .next u ∧ u.steward.nvs.stores = n.stores + 1 ∧ u.steward.nvs.unfinished = !ok ∧
        (if toB then u.steward.nvs.b else u.steward.nvs.a) = (if ok then some copy else none) ∧
        (if toB then u.steward.nvs.a = n.a else u.steward.nvs.b = n.b) ∧
        (ok = true → Answered s u slot 0 [seq, b2n toB, n.stores + 1]) ∧ (ok = false → Answered s u slot 0x80 []) ∧
        (100000 < n.stores + 1 → getF u 0 F.MBX_MIRROR_LAST_CODE = 0x86) ∧ OnlyAnswers s u [F.MBX_MIRROR_LAST_CODE.off])) ∧
    (Taken s slot 0x42 [2 ^ 64 - 1, 1] →
      let body := (if o = 1 then s.steward.calLive else n.cal).padded
      (o = 0 → nvsOn s = false → ∃ u, exec (.calExport slot) s = .next u ∧ Answered s u slot 0x8A [] ∧ OnlyAnswers s u []) ∧
      ((o = 1 ∨ nvsOn s = true) → (a % 512 ≠ 0 ∨ shelfSize s < a + 64 + body.length) → ∃ u, exec (.calExport slot) s = .next u ∧
        Answered s u slot 0x01 [] ∧ OnlyAnswers s u []) ∧
      ((o = 1 ∨ nvsOn s = true) → a % 512 = 0 → a + 64 + body.length ≤ shelfSize s → ∃ u, exec (.calExport slot) s = .next u ∧
        Answered s u slot 0 [64 + body.length, crc32c body] ∧ u.steward.nvs.exported = (n.exported || o == 0) ∧ RegsKept s u [F.MBX_DONE_DONE.off] ∧
        (firnAvailable s = true → (∀ st, st < 32 → frnState s st ≠ 3) → (∀ i, i < body.length → Mem.read u.firn (a + 64 + i) = body.getD i 0) ∧
          ∀ x, x < a ∨ a + 64 + body.length ≤ x → Mem.read u.firn x = Mem.read s.firn x))) ∧
    (Taken s slot 0x43 [2 ^ 64 - 1, 0xFFFF000000000003] →
      let own := firnNum s (a + 8) 8 = Config.serial.toNat
      let taken := o / 2 ^ 48 = 0xCA1B ∧ ok = true ∧ (bit o 0 = true ∨ (calValid s a = true ∧ (own ∨ bit o 1 = true)))
      (nvsOn s = true → ¬taken → ∃ u, exec (.calImport slot ok) s = .next u ∧ Answered s u slot 0x85 [] ∧ u.steward.nvs = n ∧ OnlyAnswers s u []) ∧
      (nvsOn s = true → taken → ∃ u, exec (.calImport slot ok) s = .next u ∧ Answered s u slot 0 [nvsView u 2] ∧ u.steward.nvs.user = true ∧
        u.steward.nvs.cal = (if bit o 0 then s.steward.calLive else .bytes (firnBytes s (a + 64) Config.calLen)) ∧
        u.steward.nvs.calSeq = n.calSeq + 1 ∧ u.steward.nvs.calWrites = n.calWrites + 1 ∧ OnlyAnswers s u [])) ∧
    (Taken s slot 0x44 [2 ^ 64 - 1, 2 ^ 64 - 1] →
      let img := JitorImg.bytes (shelfBytes s a o)
      let good := o ≤ 2 ^ 23 ∧ a + o ≤ shelfSize s ∧ n.runs (some img) = true
      (nvsOn s = true → ¬good → ∃ u, exec (.fwUpdate slot) s = .next u ∧ Answered s u slot 0x84 [] ∧ u.steward.nvs = n ∧ OnlyAnswers s u []) ∧
      (nvsOn s = true → good → ∃ u, exec (.fwUpdate slot) s = .next u ∧ Answered s u slot 0 [img.version, b2n (!s.steward.jitorSlot)] ∧
        (if s.steward.jitorSlot then u.steward.nvs.jitorA = some img ∧ u.steward.nvs.jitorB = n.jitorB
          else u.steward.nvs.jitorB = some img ∧ u.steward.nvs.jitorA = n.jitorA) ∧ OnlyAnswers s u []))

/-- FABRIC_JOIN inside its domain sets JOINED and, on a ready engine, identifier and tick port, and waits to be formed, else 0x49; COMMIT_POLICY outside a step stores the policy,
VOTE_TO 5000 for 0, else 0x49 (R291, R295). RETIRE of a good cluster in use queues its calving, now or at the next commit; REINSTATE of a calved one with no
image, self-tested, clears its entry; else 0x28, or 0x29 in a calving (R247, R248). Rests on the model's choices of log entries 66, 78, 80 and 141. -/
def Obligations.DomainAndCalveCommandsAct : Prop :=
  ∀ (s : State) (slot : Fin 34),
    let a := arg s slot 0; let b := arg s slot 1; let c := arg s slot 2
    (Taken s slot 0x70 [2 ^ 36 - 1, 2 ^ 11 - 1, 2 ^ 32 - 1] →
      (joinRefused s a = true → ∃ u, exec (.fabricJoin slot) s = .next u ∧ Answered s u slot 0x49 [] ∧ OnlyAnswers s u []) ∧
      (joinRefused s a = false → ∃ u, exec (.fabricJoin slot) s = .next u ∧ joined u = true ∧ waiting u slot = some .join ∧ MemoryKept s u ∧
        (engineReady s = true → getF u 0 F.FAB_DOM_ID = a % 2 ^ 16 ∧ getF u 0 F.FAB_DOM_TICKPORT = bits a 16 3 ∧
          getF u 0 F.CLK_REF_CFG_PREF = bits a 16 3 ∧ u.beats.running = false ∧
          ∀ p, p < 32 → bit c p = true → getF u (fab p) F.FAB_CFG_TICK_OUT = 1) ∧
        (engineReady s = false → u.dom.asked = some (a, b, c) ∧ RegsKept s u [F.FAB_DOM_JOINED.off]))) ∧
    (Taken s slot 0x71 [2 ^ 64 - 255, 2 ^ 41 - 1, 2 ^ 41 - 1] →
      (policyRefused s a b c = true → ∃ u, exec (.commitPolicy slot) s = .next u ∧ Answered s u slot 0x49 [] ∧ u.dom = s.dom ∧ OnlyAnswers s u []) ∧
      (policyRefused s a b c = false → ∃ u, exec (.commitPolicy slot) s = .next u ∧ Answered s u slot 0 [] ∧ u.dom = { s.dom with ckpt := b, hold := c } ∧
        getF u 0 F.FAB_POLICY_SCRATCH = a % 2 ∧ getF u 0 F.FAB_POLICY_STEP_BEATS = bits a 8 24 ∧ getF u 0 F.FAB_POLICY_REPLICA = bits a 32 16 ∧
        getF u 0 F.FAB_POLICY_VOTE_TO = (if bits a 48 16 = 0 then 5000 else bits a 48 16) ∧ OnlyAnswers s u [F.FAB_POLICY_SCRATCH.off])) ∧
    (Taken s slot 0x50 calveMask →
      (a % 256 = 0 → calving s = true → ∃ u, exec (.calveRetire slot) s = .next u ∧ Answered s u slot 0x29 [] ∧ OnlyAnswers s u [] ∧ u.dep = s.dep) ∧
      (∀ code, a % 256 = 0 → calving s = false → calveTarget s slot = .inr code → ∃ u, exec (.calveRetire slot) s = .next u ∧
        Answered s u slot code [] ∧ OnlyAnswers s u [] ∧ u.dep = s.dep) ∧
      (∀ f x y, a % 256 = 0 → calving s = false → calveTarget s slot = .inl (f, x, y) →
        ((bit (colBad s f y) x = true ∨ inUse s f y = false) → ∃ u, exec (.calveRetire slot) s = .next u ∧ Answered s u slot 0x28 [] ∧
          OnlyAnswers s u [] ∧ u.dep = s.dep) ∧
        (bit (colBad s f y) x = false → inUse s f y = true → ∃ u r, exec (.calveRetire slot) s = .next u ∧ r ∈ u.dep.calves ∧
          r.field = f ∧ r.pcx = x ∧ r.pcy = y ∧ MemoryKept s u ∧ (bit a 8 = false → Answered s u slot 0 []) ∧
          (bit a 8 = true → waiting u slot = some .retire ∧ r.now = true ∧ r.slot = some slot.val))) ∧
      (∀ f x y ok, a % 256 = 1 → calving s = false → calveTarget s slot = .inl (f, x, y) →
        let can := (morEnt s (morIndex f x y)).state = 2 ∧ s.steward.loaded = false ∧ ok = true
        (¬can → ∃ u, exec (.calveReinstate slot ok) s = .next u ∧ Answered s u slot 0x28 [] ∧ OnlyAnswers s u [] ∧ u.dep = s.dep) ∧
        (can → ∃ u, exec (.calveReinstate slot ok) s = .next u ∧ Answered s u slot 0 [] ∧ (morEnt u (morIndex f x y)).state = 0 ∧
          u.dep.calves = s.dep.calves ∧ OnlyAnswers s u [fieldBase f + F.FLD_CALVE_STAT_CALVED.off])))

/-- ENGINE_RESET_N resets everything but NVS and holds the steward; so does 12 V coming, which also zeroes the recovery buffer and MGT.RESET.COUNT; said with both inputs
inactive (Table 14.7). The loss of 12 V stops the steward: what it held in RAM of the log is lost. With 12 V, no reset and the main input, a start begins
from phase 0; after an input stop from phase 2; after a thermal trip none; RESET_ENGINE's reset comes 10 ms on (R316, R362, R364). Rests on the model's choices of log entries 88, 103, 112 and 114. -/
def Obligations.ResetsAndStarts : Prop :=
  ∀ s : State,
    (getF s 0 F.PWR_DIN_CUR_RAW = 0 → getF s 0 F.PWR_DIN_FRZ_RAW = 0 →
      (s.steward.aux = true → ∃ u, exec .engineReset s = .next u ∧ AllReset s u (min 255 (getF s 0 F.MGT_RESET_COUNT + 1)) ∧ u.steward.on = false ∧
        u.steward.resetLow = true ∧ u.steward.recovery = s.steward.recovery) ∧
      (s.steward.aux = false → ∃ u, exec .auxPowerOn s = .next u ∧ AllReset s u 0 ∧ u.steward.aux = true ∧ u.steward.on = !s.steward.resetLow ∧
        u.steward.recovery = [])) ∧
    (∃ u, exec .auxPowerLoss s = .next u ∧ u.steward.aux = false ∧ u.steward.on = false ∧ u.steward.queue = [] ∧ u.steward.starting = false ∧
      u.dep.log = s.dep.nvs ∧ jitorUp u = false ∧ RegsKept s u [F.MBX_MIRROR_JITOR_UP.off] ∧ MemoryKept s u) ∧
    (s.steward.aux = true → s.steward.mainOk = true → s.steward.starting = false → s.steward.failed = false →
      (s.steward.stopped = false → phase s = 0 → jitorUp s = false → s.steward.resetAt = none → (s.steward.on = true ∨ s.steward.resetLow = true) →
        ∃ u, exec .coldStart s = .next u ∧ u.steward.on = true ∧ u.steward.resetLow = false ∧ u.steward.starting = true ∧ phase u = 0 ∧
        u.steward.startAt = s.tc ∧ getF u 0 F.MGT_RESET_CAUSE = s.steward.cause % 2 ^ F.MGT_RESET_CAUSE.w ∧ MemoryKept s u) ∧
      (s.steward.stopped = true → s.steward.tripped = false → s.steward.resetAt = none → s.steward.on = true → ∃ u, exec .coldStart s = .next u ∧
        u.steward.starting = true ∧ u.steward.stopped = false ∧ phase u = 2 ∧ u.steward.startFrom = 2 ∧ MemoryKept s u) ∧
      (s.steward.stopped = true → s.steward.tripped = true → s.steward.resetAt = none → s.steward.on = true → s.steward.resetLow = false →
        exec .coldStart s = .next s) ∧
      (∀ t, s.steward.resetAt = some t → t + usTc s 10000 ≤ s.tc → s.steward.resetLow = false → getF s 0 F.PWR_DIN_CUR_RAW = 0 →
        getF s 0 F.PWR_DIN_FRZ_RAW = 0 → ∃ u, exec .coldStart s = .next u ∧ u.steward.starting = true ∧ getF u 0 F.MGT_RESET_CAUSE = 2 ∧
        getF u 0 F.MGT_RESET_COUNT = min 255 (getF s 0 F.MGT_RESET_COUNT + 1) ∧ u.tiles = [] ∧ u.scratch = [] ∧ u.firn = [] ∧
        u.steward.nvs = s.steward.nvs))

/-- The end of a start's phase: 0 Jitor runs from a valid slot, or the start fails; 1 the settings in force are live; 2 the rails are on, once the main input is there; 3 every field is in
SELFTEST; 4 all are tested; 5 tiles are INSTAR and scratch zero, or the start fails; 6 the hinge is trained, the firn trains; 7 it is zero, its good stacks
ready; 8 the engine is ready. A phase that cannot complete fails the start, 0x88; one past its latest end raises 0x88 once (R350, R358, R362, R363). Rests on the model's choices of log entries 102, 106, 107 and 108. -/
def Obligations.ColdStartPassesItsPhases : Prop :=
  ∀ (s : State) (r : PhaseReport), s.steward.starting = true →
    let failed := fun (u : State) => u.steward.failed = true ∧ u.steward.starting = false ∧ u.steward.startCode = 0x88 ∧ getF u 0 F.MBX_MIRROR_LAST_CODE = 0x88
    let p := phase s
    (p = 0 → ∃ u, exec (.coldStartPhaseEnd r) s = .next u ∧ MemoryKept s u ∧
      (∀ b, s.steward.nvs.pick = some b → phase u = 1 ∧ jitorUp u = true ∧ u.steward.jitorSlot = b ∧ u.steward.romOnly = false) ∧
      (s.steward.nvs.pick = none → failed u ∧ u.steward.romOnly = true)) ∧
    (p = 1 → ∃ u, exec (.coldStartPhaseEnd r) s = .next u ∧ phase u = 2 ∧ u.dep.log = s.dep.nvs ∧ MemoryKept s u ∧
      ∀ c b, inForce s.steward.nvs = some (c, b) → (∀ t ∈ settings, settingNow u t = c.val t &&& t.mask) ∧ u.dep.policyN = c.policyN ∧
        u.steward.ethFull = c.ethFull) ∧
    (p = 2 → (s.steward.mainOk = true → ∃ u, exec (.coldStartPhaseEnd r) s = .next u ∧ phase u = 3 ∧ powerState u = 1 ∧ MemoryKept s u) ∧
      (s.steward.mainOk = false → exec (.coldStartPhaseEnd r) s = .next s)) ∧
    (p = 3 → ∃ u, exec (.coldStartPhaseEnd r) s = .next u ∧ phase u = 4 ∧ u.lifeT = [] ∧
      (∀ f, f < 168 → look {} u.lifeF f = { st := .selftest } ∧ (field u f).tested = false) ∧ MemoryKept s u) ∧
    (p = 4 → ((∀ f, f < 168 → (field s f).tested = true) → ∃ u, exec (.coldStartPhaseEnd r) s = .next u ∧ phase u = 5 ∧ MemoryKept s u) ∧
      ((∃ f, f < 168 ∧ (field s f).tested = false) → exec (.coldStartPhaseEnd r) s = .next s)) ∧
    (p = 5 → ∃ u, exec (.coldStartPhaseEnd r) s = .next u ∧ (phase u = 6 ∨ failed u) ∧ u.scratch = [] ∧ u.lifeT = [] ∧
      ∀ f, f < 168 → look {} u.lifeF f = { st := .instar }) ∧
    (p = 6 → ∃ u, exec (.coldStartPhaseEnd r) s = .next u ∧ phase u = 7 ∧ (∀ w, w < 2 → getF u (wingBase w) F.HNG_STATUS_TRAINED = 1) ∧
      (∀ st, st < 32 → frnState u st = 1) ∧ MemoryKept s u) ∧
    (p = 7 → ∃ u, exec (.coldStartPhaseEnd r) s = .next u ∧ phase u = 8 ∧ u.firn = [] ∧
      ∀ st, st < 32 → frnState u st = (if r.failedStacks.getLsbD st then 3 else 2)) ∧
    (p = 8 → ∃ u, exec (.coldStartPhaseEnd r) s = .next u ∧ phase u = 15 ∧ u.steward.starting = false ∧ u.dom.readyTc = s.tc ∧ MemoryKept s u) ∧
    (∃ u, exec (.phaseLate false) s = .next u ∧ failed u ∧ u.steward.startPhase = p ∧ MemoryKept s u) ∧
    (s.steward.late = false → s.steward.startFrom = 0 → s.steward.startAt + usTc s (1000000 * latestEnd p) ≤ s.tc → ∃ u, exec (.phaseLate true) s = .next u ∧
      u.steward.late = true ∧ u.steward.startCode = 0x88 ∧ u.steward.starting = true ∧ getF u 0 F.MBX_MIRROR_LAST_CODE = 0x88 ∧ MemoryKept s u)

/-- The steward's own resets and return, PCIe resets, and what it keeps in NVS. -/
def Obligations.StewardResetsAndKeepsRecords : Prop :=
  StewardResetsAndReturns ∧ StewardKeepsItsRecords
end

