-- ==== Sys2Proof/Laws/Sparse.lean ====
section
/-! SUPPORT. What sparse maps and byte memories do: reads after writes, and the canonical form kept. -/

namespace Sys2Proof.Machine

variable {α : Type}

@[simp] theorem Sparse.get_nil (d : Nat → α) (k : Nat) : Sparse.get d [] k = d k := rfl

theorem Sparse.get_of_no_key (d : Nat → α) (m : List (Nat × α)) (k : Nat)
    (h : ∀ e ∈ m, e.1 ≠ k) : Sparse.get d m k = d k := by
  induction m with
  | nil => rfl
  | cons e r ih =>
    obtain ⟨j, v⟩ := e
    have hj : j ≠ k := h (j, v) (by simp)
    simp only [Sparse.get, if_neg hj]
    exact ih fun e he => h e (by simp [he])

theorem Sparse.get_insert_self (d : Nat → α) (m : List (Nat × α)) (k : Nat) (v : α)
    (h : ∀ e ∈ m, e.1 ≠ k) : Sparse.get d (Sparse.insert k v m) k = v := by
  induction m with
  | nil => simp [Sparse.insert, Sparse.get]
  | cons e r ih =>
    obtain ⟨j, w⟩ := e
    have hj : j ≠ k := h (j, w) (by simp)
    simp only [Sparse.insert]
    split
    · simp [Sparse.get]
    · simp only [Sparse.get, if_neg hj]
      exact ih fun e he => h e (by simp [he])

theorem Sparse.get_insert_ne (d : Nat → α) (m : List (Nat × α)) (k j : Nat) (v : α) (h : j ≠ k) :
    Sparse.get d (Sparse.insert k v m) j = Sparse.get d m j := by
  induction m with
  | nil => simp [Sparse.insert, Sparse.get, Ne.symm h]
  | cons e r ih =>
    obtain ⟨i, w⟩ := e
    simp only [Sparse.insert]
    split
    · simp [Sparse.get, Ne.symm h]
    · simp only [Sparse.get, ih]

theorem Sparse.get_drop_of_keep (d : Nat → α) (p : Nat → Bool) (m : List (Nat × α)) (k : Nat)
    (h : p k = false) : Sparse.get d (Sparse.drop p m) k = Sparse.get d m k := by
  induction m with
  | nil => rfl
  | cons e r ih =>
    obtain ⟨j, w⟩ := e
    by_cases hj : j = k
    · subst hj; simp [Sparse.drop, Sparse.get, h]
    · by_cases hp : p j
      · have : Sparse.drop p ((j, w) :: r) = Sparse.drop p r := by simp [Sparse.drop, hp]
        rw [this, ih]; simp [Sparse.get, hj]
      · have : Sparse.drop p ((j, w) :: r) = (j, w) :: Sparse.drop p r := by simp [Sparse.drop, hp]
        rw [this]; simp [Sparse.get, hj, ih]

theorem Sparse.get_drop_of_drop (d : Nat → α) (p : Nat → Bool) (m : List (Nat × α)) (k : Nat)
    (h : p k = true) : Sparse.get d (Sparse.drop p m) k = d k := by
  apply Sparse.get_of_no_key
  intro e he hk
  simp only [Sparse.drop, List.mem_filter] at he
  rw [hk, h] at he; simp at he

/-- A read after a write to the same key gives the value written. -/
@[simp] theorem Sparse.get_set_self [DecidableEq α] (d : Nat → α) (m : List (Nat × α)) (k : Nat) (v : α) :
    Sparse.get d (Sparse.set d m k v) k = v := by
  have hno : ∀ e ∈ Sparse.drop (fun j => decide (j = k)) m, e.1 ≠ k := by
    intro e he
    simp only [Sparse.drop, List.mem_filter] at he
    simpa using he.2
  simp only [Sparse.set]
  split
  · rename_i h
    rw [Sparse.get_of_no_key d _ k hno, h]
  · exact Sparse.get_insert_self d _ k v hno

/-- A write leaves every other key alone. -/
theorem Sparse.get_set_ne [DecidableEq α] (d : Nat → α) (m : List (Nat × α)) (k j : Nat) (v : α) (h : j ≠ k) :
    Sparse.get d (Sparse.set d m k v) j = Sparse.get d m j := by
  have hk : decide (j = k) = false := by simpa using h
  simp only [Sparse.set]
  split
  · exact Sparse.get_drop_of_keep d _ m j hk
  · rw [Sparse.get_insert_ne d _ k j v h]
    exact Sparse.get_drop_of_keep d _ m j hk

/-- The canonical form, as two facts: keys strictly rising, no default listed. -/
theorem Sparse.wf_iff [DecidableEq α] (d : Nat → α) (m : List (Nat × α)) :
    Sparse.wf d m = true ↔ m.Pairwise (fun a b => a.1 < b.1) ∧ ∀ e ∈ m, e.2 ≠ d e.1 := by
  induction m with
  | nil => simp [Sparse.wf]
  | cons e r ih =>
    obtain ⟨k, v⟩ := e
    cases r with
    | nil => simp [Sparse.wf]
    | cons f r =>
      simp only [Sparse.wf, Bool.and_eq_true, decide_eq_true_eq] at ih ⊢
      rw [ih]
      constructor
      · rintro ⟨⟨h1, h2⟩, h3, h4⟩
        refine ⟨List.pairwise_cons.2 ⟨?_, h3⟩, ?_⟩
        · intro x hx
          rcases List.mem_cons.1 hx with rfl | hx
          · exact h1
          · exact Nat.lt_trans h1 ((List.pairwise_cons.1 h3).1 x hx)
        · intro x hx
          rcases List.mem_cons.1 hx with rfl | hx
          · exact h2
          · exact h4 x hx
      · rintro ⟨h1, h2⟩
        have h1' := List.pairwise_cons.1 h1
        exact ⟨⟨h1'.1 f (by simp), h2 (k, v) (by simp)⟩, h1'.2, fun x hx => h2 x (List.mem_cons_of_mem _ hx)⟩

theorem Sparse.mem_insert {k : Nat} {v : α} {m : List (Nat × α)} {e : Nat × α} :
    e ∈ Sparse.insert k v m ↔ e = (k, v) ∨ e ∈ m := by
  induction m with
  | nil => simp [Sparse.insert]
  | cons f r ih =>
    obtain ⟨j, w⟩ := f
    simp only [Sparse.insert]
    split
    · simp
    · simp only [List.mem_cons, ih]
      constructor
      · rintro (h | h | h) <;> simp [h]
      · rintro (h | h | h) <;> simp [h]

theorem Sparse.wf_drop [DecidableEq α] {d : Nat → α} {m : List (Nat × α)} (p : Nat → Bool)
    (h : Sparse.wf d m = true) : Sparse.wf d (Sparse.drop p m) = true := by
  rw [Sparse.wf_iff] at h ⊢
  exact ⟨h.1.filter _, fun e he => h.2 e (List.mem_filter.1 he).1⟩

/-- A write keeps the canonical form. -/
theorem Sparse.wf_set [DecidableEq α] {d : Nat → α} {m : List (Nat × α)} (k : Nat) (v : α)
    (h : Sparse.wf d m = true) : Sparse.wf d (Sparse.set d m k v) = true := by
  have hr := Sparse.wf_drop (fun j => decide (j = k)) h
  have hno : ∀ e ∈ Sparse.drop (fun j => decide (j = k)) m, e.1 ≠ k := by
    intro e he
    simp only [Sparse.drop, List.mem_filter] at he
    simpa using he.2
  simp only [Sparse.set]
  split
  · exact hr
  · rename_i hv
    generalize Sparse.drop (fun j => decide (j = k)) m = r at hr hno
    rw [Sparse.wf_iff] at hr ⊢
    refine ⟨?_, fun e he => ?_⟩
    · obtain ⟨hp, -⟩ := hr
      induction r with
      | nil => simp [Sparse.insert]
      | cons f r ih =>
        obtain ⟨j, w⟩ := f
        have hf := List.pairwise_cons.1 hp
        have hj : j ≠ k := hno (j, w) (by simp)
        simp only [Sparse.insert]
        split
        · rename_i hlt
          refine List.pairwise_cons.2 ⟨fun x hx => ?_, hp⟩
          rcases List.mem_cons.1 hx with rfl | hx
          · exact hlt
          · exact Nat.lt_trans hlt (hf.1 x hx)
        · rename_i hlt
          refine List.pairwise_cons.2 ⟨fun x hx => ?_, ih (fun e he => hno e (by simp [he])) hf.2⟩
          rcases Sparse.mem_insert.1 hx with rfl | hx
          · show j < k; omega
          · exact hf.1 x hx
    · rcases Sparse.mem_insert.1 he with rfl | he
      · exact hv
      · exact hr.2 e he

theorem Mem.cells_key_ge {a : Nat} {bs : List Byte} {c : Host.Cell} (h : c ∈ Mem.cells a bs) :
    a ≤ c.1 ∧ c.1 < a + bs.length ∧ c.2 ≠ 0 := by
  induction bs generalizing a with
  | nil => simp [Mem.cells] at h
  | cons b r ih =>
    simp only [Mem.cells] at h
    split at h
    · obtain ⟨h1, h2, h3⟩ := ih h
      exact ⟨by omega, by simp only [List.length_cons]; omega, h3⟩
    · rcases List.mem_cons.1 h with rfl | h
      · simp_all
      · obtain ⟨h1, h2, h3⟩ := ih h
        exact ⟨by omega, by simp only [List.length_cons]; omega, h3⟩

theorem Mem.read_cells (a : Nat) (bs : List Byte) (i : Nat) (h : i < bs.length) :
    Mem.read (Mem.cells a bs) (a + i) = bs[i] := by
  induction bs generalizing a i with
  | nil => simp at h
  | cons b r ih =>
    cases i with
    | zero =>
      have hno : Mem.read (Mem.cells (a + 1) r) a = 0 := by
        apply Sparse.get_of_no_key
        intro e he hk
        have := Mem.cells_key_ge he; omega
      by_cases hb : b = 0
      · simp [Mem.cells, hb, hno]
      · have hc : Mem.cells a (b :: r) = (a, b) :: Mem.cells (a + 1) r := by
          simp only [Mem.cells]; exact if_neg hb
        simp [hc, Mem.read, Sparse.get]
    | succ i =>
      have hi : i < r.length := by simpa using h
      have := ih (a + 1) i hi
      rw [show a + 1 + i = a + (i + 1) by omega] at this
      by_cases hb : b = 0
      · simp [Mem.cells, hb, this]
      · have hne : ¬ a = a + (i + 1) := by omega
        simp only [Mem.cells, hb, if_false, Mem.read, Sparse.get, hne]
        exact this

theorem Sparse.get_append_left (d : Nat → α) (m n : List (Nat × α)) (k : Nat) (h : ∀ e ∈ m, e.1 ≠ k) :
    Sparse.get d (m ++ n) k = Sparse.get d n k := by
  induction m with
  | nil => rfl
  | cons e r ih =>
    obtain ⟨j, v⟩ := e
    have hj : j ≠ k := h (j, v) (by simp)
    simp only [List.cons_append, Sparse.get, if_neg hj]
    exact ih fun e he => h e (by simp [he])

theorem Sparse.get_append_right (d : Nat → α) (m n : List (Nat × α)) (k : Nat) (h : ∀ e ∈ n, e.1 ≠ k) :
    Sparse.get d (m ++ n) k = Sparse.get d m k := by
  induction m with
  | nil => exact Sparse.get_of_no_key d n k h
  | cons e r ih =>
    obtain ⟨j, v⟩ := e
    simp only [List.cons_append, Sparse.get, ih]

/-- Reading a byte inside a written string gives the string's byte. -/
theorem Mem.read_write_in (m : List Host.Cell) (a : Nat) (bs : List Byte) (i : Nat) (h : i < bs.length) :
    Mem.read (Mem.write m a bs) (a + i) = bs[i] := by
  unfold Mem.write Mem.read
  rw [Sparse.get_append_right, Sparse.get_append_left]
  · exact Mem.read_cells a bs i h
  · intro e he hk; have := (List.mem_filter.1 he).2; simp only [decide_eq_true_eq] at this; omega
  · intro e he hk; have := (List.mem_filter.1 he).2; simp only [decide_eq_true_eq] at this; omega

/-- A write leaves every byte outside its string alone. -/
theorem Mem.read_write_out (m : List Host.Cell) (a : Nat) (bs : List Byte) (b : Nat)
    (h : b < a ∨ a + bs.length ≤ b) : Mem.read (Mem.write m a bs) b = Mem.read m b := by
  unfold Mem.write Mem.read
  have hc : ∀ e ∈ Mem.cells a bs, e.1 ≠ b := by
    intro e he hk; have := Mem.cells_key_ge he; omega
  have hf : ∀ (p : Nat → Bool), p b = true →
      Sparse.get (fun _ => (0 : Byte)) (m.filter fun c => p c.1) b = Sparse.get (fun _ => 0) m b := by
    intro p hp
    have := Sparse.get_drop_of_keep (fun _ => (0 : Byte)) (fun k => !p k) m b (by simp [hp])
    simpa [Sparse.drop] using this
  rcases h with h | h
  · rw [Sparse.get_append_right, Sparse.get_append_right _ _ _ _ hc]
    · exact hf (fun k => decide (k < a)) (by simpa using h)
    · intro e he hk; have := (List.mem_filter.1 he).2; simp only [decide_eq_true_eq] at this; omega
  · rw [Sparse.get_append_left]
    · exact hf (fun k => decide (a + bs.length ≤ k)) (by simpa using h)
    · intro e he hk
      rcases List.mem_append.1 he with he | he
      · have := (List.mem_filter.1 he).2; simp only [decide_eq_true_eq] at this; omega
      · exact hc e he hk

theorem Mem.cells_sorted (a : Nat) (bs : List Byte) :
    (Mem.cells a bs).Pairwise (fun x y => x.1 < y.1) := by
  induction bs generalizing a with
  | nil => simp [Mem.cells]
  | cons b r ih =>
    simp only [Mem.cells]
    split
    · exact ih (a + 1)
    · refine List.pairwise_cons.2 ⟨fun x hx => ?_, ih (a + 1)⟩
      have := Mem.cells_key_ge hx
      show a < x.1; omega

/-- A write keeps a memory's canonical form. -/
theorem Mem.wf_write {m : List Host.Cell} (a : Nat) (bs : List Byte) (h : Mem.wf m = true) :
    Mem.wf (Mem.write m a bs) = true := by
  unfold Mem.wf at *
  rw [Sparse.wf_iff] at *
  refine ⟨?_, fun e he => ?_⟩
  · unfold Mem.write
    refine List.pairwise_append.2 ⟨List.pairwise_append.2 ⟨h.1.filter _, Mem.cells_sorted a bs, ?_⟩,
      h.1.filter _, ?_⟩
    · intro x hx y hy
      have h1 := (List.mem_filter.1 hx).2; have h2 := Mem.cells_key_ge hy
      simp only [decide_eq_true_eq] at h1; omega
    · intro x hx y hy
      have h2 := (List.mem_filter.1 hy).2
      simp only [decide_eq_true_eq] at h2
      rcases List.mem_append.1 hx with hx | hx
      · have h1 := (List.mem_filter.1 hx).2; simp only [decide_eq_true_eq] at h1; omega
      · have h1 := Mem.cells_key_ge hx; omega
  · simp only [Mem.write, List.mem_append, List.mem_filter] at he
    rcases he with (⟨he, -⟩ | he) | ⟨he, -⟩
    · exact h.2 e he
    · exact (Mem.cells_key_ge he).2.2
    · exact h.2 e he

/-- Clearing bytes keeps a memory's canonical form. -/
theorem Mem.wf_clear {m : List Host.Cell} (a n : Nat) (h : Mem.wf m = true) : Mem.wf (Mem.clear m a n) = true := by
  unfold Mem.wf at *
  rw [Sparse.wf_iff] at *
  exact ⟨h.1.filter _, fun e he => h.2 e (List.mem_filter.1 he).1⟩

end Sys2Proof.Machine
end

