-- ==== Sys2Proof/Laws/State.lean ====
section
/-! SUPPORT. One lemma for each field that an update of the state leaves alone, so that no proof unfolds a record update. -/

namespace Sys2Proof.Machine

variable (s : State)

/-! What a record update leaves alone, the new value any. -/

theorem State.pending_of_csr (x : List (Nat × Word)) : ({ s with csr := x } : State).pending = s.pending := rfl
theorem State.tc_of_csr (x : List (Nat × Word)) : ({ s with csr := x } : State).tc = s.tc := rfl
theorem State.free_of_csr (x : List (Nat × Word)) : ({ s with csr := x } : State).free = s.free := rfl
theorem State.rdata_of_csr (x : List (Nat × Word)) : ({ s with csr := x } : State).rdata = s.rdata := rfl
theorem State.bus_of_csr (x : List (Nat × Word)) : ({ s with csr := x } : State).bus = s.bus := rfl
theorem State.tiles_of_csr (x : List (Nat × Word)) : ({ s with csr := x } : State).tiles = s.tiles := rfl
theorem State.clusters_of_csr (x : List (Nat × Word)) : ({ s with csr := x } : State).clusters = s.clusters := rfl
theorem State.fields_of_csr (x : List (Nat × Word)) : ({ s with csr := x } : State).fields = s.fields := rfl
theorem State.lifeT_of_csr (x : List (Nat × Word)) : ({ s with csr := x } : State).lifeT = s.lifeT := rfl
theorem State.lifeF_of_csr (x : List (Nat × Word)) : ({ s with csr := x } : State).lifeF = s.lifeF := rfl
theorem State.scratch_of_csr (x : List (Nat × Word)) : ({ s with csr := x } : State).scratch = s.scratch := rfl
theorem State.badPar_of_csr (x : List (Nat × Word)) : ({ s with csr := x } : State).badPar = s.badPar := rfl
theorem State.poisonRow_of_csr (x : List (Nat × Word)) : ({ s with csr := x } : State).poisonRow = s.poisonRow := rfl
theorem State.firn_of_csr (x : List (Nat × Word)) : ({ s with csr := x } : State).firn = s.firn := rfl
theorem State.firnPoison_of_csr (x : List (Nat × Word)) : ({ s with csr := x } : State).firnPoison = s.firnPoison := rfl
theorem State.firnQ_of_csr (x : List (Nat × Word)) : ({ s with csr := x } : State).firnQ = s.firnQ := rfl
theorem State.stepFail_of_csr (x : List (Nat × Word)) : ({ s with csr := x } : State).stepFail = s.stepFail := rfl
theorem State.dep_of_csr (x : List (Nat × Word)) : ({ s with csr := x } : State).dep = s.dep := rfl
theorem State.beats_of_csr (x : List (Nat × Word)) : ({ s with csr := x } : State).beats = s.beats := rfl
theorem State.evc_of_csr (x : List (Nat × Word)) : ({ s with csr := x } : State).evc = s.evc := rfl
theorem State.power_of_csr (x : List (Nat × Word)) : ({ s with csr := x } : State).power = s.power := rfl
theorem State.thermal_of_csr (x : List (Nat × Word)) : ({ s with csr := x } : State).thermal = s.thermal := rfl
theorem State.clocks_of_csr (x : List (Nat × Word)) : ({ s with csr := x } : State).clocks = s.clocks := rfl
theorem State.steward_of_csr (x : List (Nat × Word)) : ({ s with csr := x } : State).steward = s.steward := rfl
theorem State.i3c_of_csr (x : List (Nat × Word)) : ({ s with csr := x } : State).i3c = s.i3c := rfl
theorem State.jtag_of_csr (x : List (Nat × Word)) : ({ s with csr := x } : State).jtag = s.jtag := rfl
theorem State.load_of_csr (x : List (Nat × Word)) : ({ s with csr := x } : State).load = s.load := rfl
theorem State.exch_of_csr (x : List (Nat × Word)) : ({ s with csr := x } : State).exch = s.exch := rfl
theorem State.hinge_of_csr (x : List (Nat × Word)) : ({ s with csr := x } : State).hinge = s.hinge := rfl
theorem State.edge_of_csr (x : List (Nat × Word)) : ({ s with csr := x } : State).edge = s.edge := rfl
theorem State.streams_of_csr (x : List (Nat × Word)) : ({ s with csr := x } : State).streams = s.streams := rfl
theorem State.ports_of_csr (x : List (Nat × Word)) : ({ s with csr := x } : State).ports = s.ports := rfl
theorem State.dom_of_csr (x : List (Nat × Word)) : ({ s with csr := x } : State).dom = s.dom := rfl
theorem State.cocoons_of_csr (x : List (Nat × Word)) : ({ s with csr := x } : State).cocoons = s.cocoons := rfl

theorem State.pending_of_tiles (x : List (Nat × Tile)) : ({ s with tiles := x } : State).pending = s.pending := rfl
theorem State.tc_of_tiles (x : List (Nat × Tile)) : ({ s with tiles := x } : State).tc = s.tc := rfl
theorem State.free_of_tiles (x : List (Nat × Tile)) : ({ s with tiles := x } : State).free = s.free := rfl
theorem State.rdata_of_tiles (x : List (Nat × Tile)) : ({ s with tiles := x } : State).rdata = s.rdata := rfl
theorem State.bus_of_tiles (x : List (Nat × Tile)) : ({ s with tiles := x } : State).bus = s.bus := rfl
theorem State.csr_of_tiles (x : List (Nat × Tile)) : ({ s with tiles := x } : State).csr = s.csr := rfl
theorem State.clusters_of_tiles (x : List (Nat × Tile)) : ({ s with tiles := x } : State).clusters = s.clusters := rfl
theorem State.fields_of_tiles (x : List (Nat × Tile)) : ({ s with tiles := x } : State).fields = s.fields := rfl
theorem State.lifeT_of_tiles (x : List (Nat × Tile)) : ({ s with tiles := x } : State).lifeT = s.lifeT := rfl
theorem State.lifeF_of_tiles (x : List (Nat × Tile)) : ({ s with tiles := x } : State).lifeF = s.lifeF := rfl
theorem State.scratch_of_tiles (x : List (Nat × Tile)) : ({ s with tiles := x } : State).scratch = s.scratch := rfl
theorem State.badPar_of_tiles (x : List (Nat × Tile)) : ({ s with tiles := x } : State).badPar = s.badPar := rfl
theorem State.poisonRow_of_tiles (x : List (Nat × Tile)) : ({ s with tiles := x } : State).poisonRow = s.poisonRow := rfl
theorem State.firn_of_tiles (x : List (Nat × Tile)) : ({ s with tiles := x } : State).firn = s.firn := rfl
theorem State.firnPoison_of_tiles (x : List (Nat × Tile)) : ({ s with tiles := x } : State).firnPoison = s.firnPoison := rfl
theorem State.firnQ_of_tiles (x : List (Nat × Tile)) : ({ s with tiles := x } : State).firnQ = s.firnQ := rfl
theorem State.stepFail_of_tiles (x : List (Nat × Tile)) : ({ s with tiles := x } : State).stepFail = s.stepFail := rfl
theorem State.dep_of_tiles (x : List (Nat × Tile)) : ({ s with tiles := x } : State).dep = s.dep := rfl
theorem State.beats_of_tiles (x : List (Nat × Tile)) : ({ s with tiles := x } : State).beats = s.beats := rfl
theorem State.evc_of_tiles (x : List (Nat × Tile)) : ({ s with tiles := x } : State).evc = s.evc := rfl
theorem State.power_of_tiles (x : List (Nat × Tile)) : ({ s with tiles := x } : State).power = s.power := rfl
theorem State.thermal_of_tiles (x : List (Nat × Tile)) : ({ s with tiles := x } : State).thermal = s.thermal := rfl
theorem State.clocks_of_tiles (x : List (Nat × Tile)) : ({ s with tiles := x } : State).clocks = s.clocks := rfl
theorem State.steward_of_tiles (x : List (Nat × Tile)) : ({ s with tiles := x } : State).steward = s.steward := rfl
theorem State.i3c_of_tiles (x : List (Nat × Tile)) : ({ s with tiles := x } : State).i3c = s.i3c := rfl
theorem State.jtag_of_tiles (x : List (Nat × Tile)) : ({ s with tiles := x } : State).jtag = s.jtag := rfl
theorem State.load_of_tiles (x : List (Nat × Tile)) : ({ s with tiles := x } : State).load = s.load := rfl
theorem State.exch_of_tiles (x : List (Nat × Tile)) : ({ s with tiles := x } : State).exch = s.exch := rfl
theorem State.hinge_of_tiles (x : List (Nat × Tile)) : ({ s with tiles := x } : State).hinge = s.hinge := rfl
theorem State.edge_of_tiles (x : List (Nat × Tile)) : ({ s with tiles := x } : State).edge = s.edge := rfl
theorem State.streams_of_tiles (x : List (Nat × Tile)) : ({ s with tiles := x } : State).streams = s.streams := rfl
theorem State.ports_of_tiles (x : List (Nat × Tile)) : ({ s with tiles := x } : State).ports = s.ports := rfl
theorem State.dom_of_tiles (x : List (Nat × Tile)) : ({ s with tiles := x } : State).dom = s.dom := rfl
theorem State.cocoons_of_tiles (x : List (Nat × Tile)) : ({ s with tiles := x } : State).cocoons = s.cocoons := rfl

theorem State.pending_of_clusters (x : List (Nat × Cluster)) : ({ s with clusters := x } : State).pending = s.pending := rfl
theorem State.tc_of_clusters (x : List (Nat × Cluster)) : ({ s with clusters := x } : State).tc = s.tc := rfl
theorem State.free_of_clusters (x : List (Nat × Cluster)) : ({ s with clusters := x } : State).free = s.free := rfl
theorem State.rdata_of_clusters (x : List (Nat × Cluster)) : ({ s with clusters := x } : State).rdata = s.rdata := rfl
theorem State.bus_of_clusters (x : List (Nat × Cluster)) : ({ s with clusters := x } : State).bus = s.bus := rfl
theorem State.csr_of_clusters (x : List (Nat × Cluster)) : ({ s with clusters := x } : State).csr = s.csr := rfl
theorem State.tiles_of_clusters (x : List (Nat × Cluster)) : ({ s with clusters := x } : State).tiles = s.tiles := rfl
theorem State.fields_of_clusters (x : List (Nat × Cluster)) : ({ s with clusters := x } : State).fields = s.fields := rfl
theorem State.lifeT_of_clusters (x : List (Nat × Cluster)) : ({ s with clusters := x } : State).lifeT = s.lifeT := rfl
theorem State.lifeF_of_clusters (x : List (Nat × Cluster)) : ({ s with clusters := x } : State).lifeF = s.lifeF := rfl
theorem State.scratch_of_clusters (x : List (Nat × Cluster)) : ({ s with clusters := x } : State).scratch = s.scratch := rfl
theorem State.badPar_of_clusters (x : List (Nat × Cluster)) : ({ s with clusters := x } : State).badPar = s.badPar := rfl
theorem State.poisonRow_of_clusters (x : List (Nat × Cluster)) : ({ s with clusters := x } : State).poisonRow = s.poisonRow := rfl
theorem State.firn_of_clusters (x : List (Nat × Cluster)) : ({ s with clusters := x } : State).firn = s.firn := rfl
theorem State.firnPoison_of_clusters (x : List (Nat × Cluster)) : ({ s with clusters := x } : State).firnPoison = s.firnPoison := rfl
theorem State.firnQ_of_clusters (x : List (Nat × Cluster)) : ({ s with clusters := x } : State).firnQ = s.firnQ := rfl
theorem State.stepFail_of_clusters (x : List (Nat × Cluster)) : ({ s with clusters := x } : State).stepFail = s.stepFail := rfl
theorem State.dep_of_clusters (x : List (Nat × Cluster)) : ({ s with clusters := x } : State).dep = s.dep := rfl
theorem State.beats_of_clusters (x : List (Nat × Cluster)) : ({ s with clusters := x } : State).beats = s.beats := rfl
theorem State.evc_of_clusters (x : List (Nat × Cluster)) : ({ s with clusters := x } : State).evc = s.evc := rfl
theorem State.power_of_clusters (x : List (Nat × Cluster)) : ({ s with clusters := x } : State).power = s.power := rfl
theorem State.thermal_of_clusters (x : List (Nat × Cluster)) : ({ s with clusters := x } : State).thermal = s.thermal := rfl
theorem State.clocks_of_clusters (x : List (Nat × Cluster)) : ({ s with clusters := x } : State).clocks = s.clocks := rfl
theorem State.steward_of_clusters (x : List (Nat × Cluster)) : ({ s with clusters := x } : State).steward = s.steward := rfl
theorem State.i3c_of_clusters (x : List (Nat × Cluster)) : ({ s with clusters := x } : State).i3c = s.i3c := rfl
theorem State.jtag_of_clusters (x : List (Nat × Cluster)) : ({ s with clusters := x } : State).jtag = s.jtag := rfl
theorem State.load_of_clusters (x : List (Nat × Cluster)) : ({ s with clusters := x } : State).load = s.load := rfl
theorem State.exch_of_clusters (x : List (Nat × Cluster)) : ({ s with clusters := x } : State).exch = s.exch := rfl
theorem State.hinge_of_clusters (x : List (Nat × Cluster)) : ({ s with clusters := x } : State).hinge = s.hinge := rfl
theorem State.edge_of_clusters (x : List (Nat × Cluster)) : ({ s with clusters := x } : State).edge = s.edge := rfl
theorem State.streams_of_clusters (x : List (Nat × Cluster)) : ({ s with clusters := x } : State).streams = s.streams := rfl
theorem State.ports_of_clusters (x : List (Nat × Cluster)) : ({ s with clusters := x } : State).ports = s.ports := rfl
theorem State.dom_of_clusters (x : List (Nat × Cluster)) : ({ s with clusters := x } : State).dom = s.dom := rfl
theorem State.cocoons_of_clusters (x : List (Nat × Cluster)) : ({ s with clusters := x } : State).cocoons = s.cocoons := rfl

theorem State.pending_of_fields (x : List (Nat × Field)) : ({ s with fields := x } : State).pending = s.pending := rfl
theorem State.tc_of_fields (x : List (Nat × Field)) : ({ s with fields := x } : State).tc = s.tc := rfl
theorem State.free_of_fields (x : List (Nat × Field)) : ({ s with fields := x } : State).free = s.free := rfl
theorem State.rdata_of_fields (x : List (Nat × Field)) : ({ s with fields := x } : State).rdata = s.rdata := rfl
theorem State.bus_of_fields (x : List (Nat × Field)) : ({ s with fields := x } : State).bus = s.bus := rfl
theorem State.csr_of_fields (x : List (Nat × Field)) : ({ s with fields := x } : State).csr = s.csr := rfl
theorem State.tiles_of_fields (x : List (Nat × Field)) : ({ s with fields := x } : State).tiles = s.tiles := rfl
theorem State.clusters_of_fields (x : List (Nat × Field)) : ({ s with fields := x } : State).clusters = s.clusters := rfl
theorem State.lifeT_of_fields (x : List (Nat × Field)) : ({ s with fields := x } : State).lifeT = s.lifeT := rfl
theorem State.lifeF_of_fields (x : List (Nat × Field)) : ({ s with fields := x } : State).lifeF = s.lifeF := rfl
theorem State.scratch_of_fields (x : List (Nat × Field)) : ({ s with fields := x } : State).scratch = s.scratch := rfl
theorem State.badPar_of_fields (x : List (Nat × Field)) : ({ s with fields := x } : State).badPar = s.badPar := rfl
theorem State.poisonRow_of_fields (x : List (Nat × Field)) : ({ s with fields := x } : State).poisonRow = s.poisonRow := rfl
theorem State.firn_of_fields (x : List (Nat × Field)) : ({ s with fields := x } : State).firn = s.firn := rfl
theorem State.firnPoison_of_fields (x : List (Nat × Field)) : ({ s with fields := x } : State).firnPoison = s.firnPoison := rfl
theorem State.firnQ_of_fields (x : List (Nat × Field)) : ({ s with fields := x } : State).firnQ = s.firnQ := rfl
theorem State.stepFail_of_fields (x : List (Nat × Field)) : ({ s with fields := x } : State).stepFail = s.stepFail := rfl
theorem State.dep_of_fields (x : List (Nat × Field)) : ({ s with fields := x } : State).dep = s.dep := rfl
theorem State.beats_of_fields (x : List (Nat × Field)) : ({ s with fields := x } : State).beats = s.beats := rfl
theorem State.evc_of_fields (x : List (Nat × Field)) : ({ s with fields := x } : State).evc = s.evc := rfl
theorem State.power_of_fields (x : List (Nat × Field)) : ({ s with fields := x } : State).power = s.power := rfl
theorem State.thermal_of_fields (x : List (Nat × Field)) : ({ s with fields := x } : State).thermal = s.thermal := rfl
theorem State.clocks_of_fields (x : List (Nat × Field)) : ({ s with fields := x } : State).clocks = s.clocks := rfl
theorem State.steward_of_fields (x : List (Nat × Field)) : ({ s with fields := x } : State).steward = s.steward := rfl
theorem State.i3c_of_fields (x : List (Nat × Field)) : ({ s with fields := x } : State).i3c = s.i3c := rfl
theorem State.jtag_of_fields (x : List (Nat × Field)) : ({ s with fields := x } : State).jtag = s.jtag := rfl
theorem State.load_of_fields (x : List (Nat × Field)) : ({ s with fields := x } : State).load = s.load := rfl
theorem State.exch_of_fields (x : List (Nat × Field)) : ({ s with fields := x } : State).exch = s.exch := rfl
theorem State.hinge_of_fields (x : List (Nat × Field)) : ({ s with fields := x } : State).hinge = s.hinge := rfl
theorem State.edge_of_fields (x : List (Nat × Field)) : ({ s with fields := x } : State).edge = s.edge := rfl
theorem State.streams_of_fields (x : List (Nat × Field)) : ({ s with fields := x } : State).streams = s.streams := rfl
theorem State.ports_of_fields (x : List (Nat × Field)) : ({ s with fields := x } : State).ports = s.ports := rfl
theorem State.dom_of_fields (x : List (Nat × Field)) : ({ s with fields := x } : State).dom = s.dom := rfl
theorem State.cocoons_of_fields (x : List (Nat × Field)) : ({ s with fields := x } : State).cocoons = s.cocoons := rfl

theorem State.pending_of_lifeT (x : List (Nat × Option LifeSt)) : ({ s with lifeT := x } : State).pending = s.pending := rfl
theorem State.tc_of_lifeT (x : List (Nat × Option LifeSt)) : ({ s with lifeT := x } : State).tc = s.tc := rfl
theorem State.free_of_lifeT (x : List (Nat × Option LifeSt)) : ({ s with lifeT := x } : State).free = s.free := rfl
theorem State.rdata_of_lifeT (x : List (Nat × Option LifeSt)) : ({ s with lifeT := x } : State).rdata = s.rdata := rfl
theorem State.bus_of_lifeT (x : List (Nat × Option LifeSt)) : ({ s with lifeT := x } : State).bus = s.bus := rfl
theorem State.csr_of_lifeT (x : List (Nat × Option LifeSt)) : ({ s with lifeT := x } : State).csr = s.csr := rfl
theorem State.tiles_of_lifeT (x : List (Nat × Option LifeSt)) : ({ s with lifeT := x } : State).tiles = s.tiles := rfl
theorem State.clusters_of_lifeT (x : List (Nat × Option LifeSt)) : ({ s with lifeT := x } : State).clusters = s.clusters := rfl
theorem State.fields_of_lifeT (x : List (Nat × Option LifeSt)) : ({ s with lifeT := x } : State).fields = s.fields := rfl
theorem State.lifeF_of_lifeT (x : List (Nat × Option LifeSt)) : ({ s with lifeT := x } : State).lifeF = s.lifeF := rfl
theorem State.scratch_of_lifeT (x : List (Nat × Option LifeSt)) : ({ s with lifeT := x } : State).scratch = s.scratch := rfl
theorem State.badPar_of_lifeT (x : List (Nat × Option LifeSt)) : ({ s with lifeT := x } : State).badPar = s.badPar := rfl
theorem State.poisonRow_of_lifeT (x : List (Nat × Option LifeSt)) : ({ s with lifeT := x } : State).poisonRow = s.poisonRow := rfl
theorem State.firn_of_lifeT (x : List (Nat × Option LifeSt)) : ({ s with lifeT := x } : State).firn = s.firn := rfl
theorem State.firnPoison_of_lifeT (x : List (Nat × Option LifeSt)) : ({ s with lifeT := x } : State).firnPoison = s.firnPoison := rfl
theorem State.firnQ_of_lifeT (x : List (Nat × Option LifeSt)) : ({ s with lifeT := x } : State).firnQ = s.firnQ := rfl
theorem State.stepFail_of_lifeT (x : List (Nat × Option LifeSt)) : ({ s with lifeT := x } : State).stepFail = s.stepFail := rfl
theorem State.dep_of_lifeT (x : List (Nat × Option LifeSt)) : ({ s with lifeT := x } : State).dep = s.dep := rfl
theorem State.beats_of_lifeT (x : List (Nat × Option LifeSt)) : ({ s with lifeT := x } : State).beats = s.beats := rfl
theorem State.evc_of_lifeT (x : List (Nat × Option LifeSt)) : ({ s with lifeT := x } : State).evc = s.evc := rfl
theorem State.power_of_lifeT (x : List (Nat × Option LifeSt)) : ({ s with lifeT := x } : State).power = s.power := rfl
theorem State.thermal_of_lifeT (x : List (Nat × Option LifeSt)) : ({ s with lifeT := x } : State).thermal = s.thermal := rfl
theorem State.clocks_of_lifeT (x : List (Nat × Option LifeSt)) : ({ s with lifeT := x } : State).clocks = s.clocks := rfl
theorem State.steward_of_lifeT (x : List (Nat × Option LifeSt)) : ({ s with lifeT := x } : State).steward = s.steward := rfl
theorem State.i3c_of_lifeT (x : List (Nat × Option LifeSt)) : ({ s with lifeT := x } : State).i3c = s.i3c := rfl
theorem State.jtag_of_lifeT (x : List (Nat × Option LifeSt)) : ({ s with lifeT := x } : State).jtag = s.jtag := rfl
theorem State.load_of_lifeT (x : List (Nat × Option LifeSt)) : ({ s with lifeT := x } : State).load = s.load := rfl
theorem State.exch_of_lifeT (x : List (Nat × Option LifeSt)) : ({ s with lifeT := x } : State).exch = s.exch := rfl
theorem State.hinge_of_lifeT (x : List (Nat × Option LifeSt)) : ({ s with lifeT := x } : State).hinge = s.hinge := rfl
theorem State.edge_of_lifeT (x : List (Nat × Option LifeSt)) : ({ s with lifeT := x } : State).edge = s.edge := rfl
theorem State.streams_of_lifeT (x : List (Nat × Option LifeSt)) : ({ s with lifeT := x } : State).streams = s.streams := rfl
theorem State.ports_of_lifeT (x : List (Nat × Option LifeSt)) : ({ s with lifeT := x } : State).ports = s.ports := rfl
theorem State.dom_of_lifeT (x : List (Nat × Option LifeSt)) : ({ s with lifeT := x } : State).dom = s.dom := rfl
theorem State.cocoons_of_lifeT (x : List (Nat × Option LifeSt)) : ({ s with lifeT := x } : State).cocoons = s.cocoons := rfl

theorem State.pending_of_lifeF_lifeT (x : List (Nat × LifeSt)) (y : List (Nat × Option LifeSt)) : ({ s with lifeF := x, lifeT := y } : State).pending = s.pending := rfl
theorem State.tc_of_lifeF_lifeT (x : List (Nat × LifeSt)) (y : List (Nat × Option LifeSt)) : ({ s with lifeF := x, lifeT := y } : State).tc = s.tc := rfl
theorem State.free_of_lifeF_lifeT (x : List (Nat × LifeSt)) (y : List (Nat × Option LifeSt)) : ({ s with lifeF := x, lifeT := y } : State).free = s.free := rfl
theorem State.rdata_of_lifeF_lifeT (x : List (Nat × LifeSt)) (y : List (Nat × Option LifeSt)) : ({ s with lifeF := x, lifeT := y } : State).rdata = s.rdata := rfl
theorem State.bus_of_lifeF_lifeT (x : List (Nat × LifeSt)) (y : List (Nat × Option LifeSt)) : ({ s with lifeF := x, lifeT := y } : State).bus = s.bus := rfl
theorem State.csr_of_lifeF_lifeT (x : List (Nat × LifeSt)) (y : List (Nat × Option LifeSt)) : ({ s with lifeF := x, lifeT := y } : State).csr = s.csr := rfl
theorem State.tiles_of_lifeF_lifeT (x : List (Nat × LifeSt)) (y : List (Nat × Option LifeSt)) : ({ s with lifeF := x, lifeT := y } : State).tiles = s.tiles := rfl
theorem State.clusters_of_lifeF_lifeT (x : List (Nat × LifeSt)) (y : List (Nat × Option LifeSt)) : ({ s with lifeF := x, lifeT := y } : State).clusters = s.clusters := rfl
theorem State.fields_of_lifeF_lifeT (x : List (Nat × LifeSt)) (y : List (Nat × Option LifeSt)) : ({ s with lifeF := x, lifeT := y } : State).fields = s.fields := rfl
theorem State.scratch_of_lifeF_lifeT (x : List (Nat × LifeSt)) (y : List (Nat × Option LifeSt)) : ({ s with lifeF := x, lifeT := y } : State).scratch = s.scratch := rfl
theorem State.badPar_of_lifeF_lifeT (x : List (Nat × LifeSt)) (y : List (Nat × Option LifeSt)) : ({ s with lifeF := x, lifeT := y } : State).badPar = s.badPar := rfl
theorem State.poisonRow_of_lifeF_lifeT (x : List (Nat × LifeSt)) (y : List (Nat × Option LifeSt)) : ({ s with lifeF := x, lifeT := y } : State).poisonRow = s.poisonRow := rfl
theorem State.firn_of_lifeF_lifeT (x : List (Nat × LifeSt)) (y : List (Nat × Option LifeSt)) : ({ s with lifeF := x, lifeT := y } : State).firn = s.firn := rfl
theorem State.firnPoison_of_lifeF_lifeT (x : List (Nat × LifeSt)) (y : List (Nat × Option LifeSt)) : ({ s with lifeF := x, lifeT := y } : State).firnPoison = s.firnPoison := rfl
theorem State.firnQ_of_lifeF_lifeT (x : List (Nat × LifeSt)) (y : List (Nat × Option LifeSt)) : ({ s with lifeF := x, lifeT := y } : State).firnQ = s.firnQ := rfl
theorem State.stepFail_of_lifeF_lifeT (x : List (Nat × LifeSt)) (y : List (Nat × Option LifeSt)) : ({ s with lifeF := x, lifeT := y } : State).stepFail = s.stepFail := rfl
theorem State.dep_of_lifeF_lifeT (x : List (Nat × LifeSt)) (y : List (Nat × Option LifeSt)) : ({ s with lifeF := x, lifeT := y } : State).dep = s.dep := rfl
theorem State.beats_of_lifeF_lifeT (x : List (Nat × LifeSt)) (y : List (Nat × Option LifeSt)) : ({ s with lifeF := x, lifeT := y } : State).beats = s.beats := rfl
theorem State.evc_of_lifeF_lifeT (x : List (Nat × LifeSt)) (y : List (Nat × Option LifeSt)) : ({ s with lifeF := x, lifeT := y } : State).evc = s.evc := rfl
theorem State.power_of_lifeF_lifeT (x : List (Nat × LifeSt)) (y : List (Nat × Option LifeSt)) : ({ s with lifeF := x, lifeT := y } : State).power = s.power := rfl
theorem State.thermal_of_lifeF_lifeT (x : List (Nat × LifeSt)) (y : List (Nat × Option LifeSt)) : ({ s with lifeF := x, lifeT := y } : State).thermal = s.thermal := rfl
theorem State.clocks_of_lifeF_lifeT (x : List (Nat × LifeSt)) (y : List (Nat × Option LifeSt)) : ({ s with lifeF := x, lifeT := y } : State).clocks = s.clocks := rfl
theorem State.steward_of_lifeF_lifeT (x : List (Nat × LifeSt)) (y : List (Nat × Option LifeSt)) : ({ s with lifeF := x, lifeT := y } : State).steward = s.steward := rfl
theorem State.i3c_of_lifeF_lifeT (x : List (Nat × LifeSt)) (y : List (Nat × Option LifeSt)) : ({ s with lifeF := x, lifeT := y } : State).i3c = s.i3c := rfl
theorem State.jtag_of_lifeF_lifeT (x : List (Nat × LifeSt)) (y : List (Nat × Option LifeSt)) : ({ s with lifeF := x, lifeT := y } : State).jtag = s.jtag := rfl
theorem State.load_of_lifeF_lifeT (x : List (Nat × LifeSt)) (y : List (Nat × Option LifeSt)) : ({ s with lifeF := x, lifeT := y } : State).load = s.load := rfl
theorem State.exch_of_lifeF_lifeT (x : List (Nat × LifeSt)) (y : List (Nat × Option LifeSt)) : ({ s with lifeF := x, lifeT := y } : State).exch = s.exch := rfl
theorem State.hinge_of_lifeF_lifeT (x : List (Nat × LifeSt)) (y : List (Nat × Option LifeSt)) : ({ s with lifeF := x, lifeT := y } : State).hinge = s.hinge := rfl
theorem State.edge_of_lifeF_lifeT (x : List (Nat × LifeSt)) (y : List (Nat × Option LifeSt)) : ({ s with lifeF := x, lifeT := y } : State).edge = s.edge := rfl
theorem State.streams_of_lifeF_lifeT (x : List (Nat × LifeSt)) (y : List (Nat × Option LifeSt)) : ({ s with lifeF := x, lifeT := y } : State).streams = s.streams := rfl
theorem State.ports_of_lifeF_lifeT (x : List (Nat × LifeSt)) (y : List (Nat × Option LifeSt)) : ({ s with lifeF := x, lifeT := y } : State).ports = s.ports := rfl
theorem State.dom_of_lifeF_lifeT (x : List (Nat × LifeSt)) (y : List (Nat × Option LifeSt)) : ({ s with lifeF := x, lifeT := y } : State).dom = s.dom := rfl
theorem State.cocoons_of_lifeF_lifeT (x : List (Nat × LifeSt)) (y : List (Nat × Option LifeSt)) : ({ s with lifeF := x, lifeT := y } : State).cocoons = s.cocoons := rfl

theorem State.pending_of_poisonRow (x : List (Nat × Bool)) : ({ s with poisonRow := x } : State).pending = s.pending := rfl
theorem State.tc_of_poisonRow (x : List (Nat × Bool)) : ({ s with poisonRow := x } : State).tc = s.tc := rfl
theorem State.free_of_poisonRow (x : List (Nat × Bool)) : ({ s with poisonRow := x } : State).free = s.free := rfl
theorem State.rdata_of_poisonRow (x : List (Nat × Bool)) : ({ s with poisonRow := x } : State).rdata = s.rdata := rfl
theorem State.bus_of_poisonRow (x : List (Nat × Bool)) : ({ s with poisonRow := x } : State).bus = s.bus := rfl
theorem State.csr_of_poisonRow (x : List (Nat × Bool)) : ({ s with poisonRow := x } : State).csr = s.csr := rfl
theorem State.tiles_of_poisonRow (x : List (Nat × Bool)) : ({ s with poisonRow := x } : State).tiles = s.tiles := rfl
theorem State.clusters_of_poisonRow (x : List (Nat × Bool)) : ({ s with poisonRow := x } : State).clusters = s.clusters := rfl
theorem State.fields_of_poisonRow (x : List (Nat × Bool)) : ({ s with poisonRow := x } : State).fields = s.fields := rfl
theorem State.lifeT_of_poisonRow (x : List (Nat × Bool)) : ({ s with poisonRow := x } : State).lifeT = s.lifeT := rfl
theorem State.lifeF_of_poisonRow (x : List (Nat × Bool)) : ({ s with poisonRow := x } : State).lifeF = s.lifeF := rfl
theorem State.scratch_of_poisonRow (x : List (Nat × Bool)) : ({ s with poisonRow := x } : State).scratch = s.scratch := rfl
theorem State.badPar_of_poisonRow (x : List (Nat × Bool)) : ({ s with poisonRow := x } : State).badPar = s.badPar := rfl
theorem State.firn_of_poisonRow (x : List (Nat × Bool)) : ({ s with poisonRow := x } : State).firn = s.firn := rfl
theorem State.firnPoison_of_poisonRow (x : List (Nat × Bool)) : ({ s with poisonRow := x } : State).firnPoison = s.firnPoison := rfl
theorem State.firnQ_of_poisonRow (x : List (Nat × Bool)) : ({ s with poisonRow := x } : State).firnQ = s.firnQ := rfl
theorem State.stepFail_of_poisonRow (x : List (Nat × Bool)) : ({ s with poisonRow := x } : State).stepFail = s.stepFail := rfl
theorem State.dep_of_poisonRow (x : List (Nat × Bool)) : ({ s with poisonRow := x } : State).dep = s.dep := rfl
theorem State.beats_of_poisonRow (x : List (Nat × Bool)) : ({ s with poisonRow := x } : State).beats = s.beats := rfl
theorem State.evc_of_poisonRow (x : List (Nat × Bool)) : ({ s with poisonRow := x } : State).evc = s.evc := rfl
theorem State.power_of_poisonRow (x : List (Nat × Bool)) : ({ s with poisonRow := x } : State).power = s.power := rfl
theorem State.thermal_of_poisonRow (x : List (Nat × Bool)) : ({ s with poisonRow := x } : State).thermal = s.thermal := rfl
theorem State.clocks_of_poisonRow (x : List (Nat × Bool)) : ({ s with poisonRow := x } : State).clocks = s.clocks := rfl
theorem State.steward_of_poisonRow (x : List (Nat × Bool)) : ({ s with poisonRow := x } : State).steward = s.steward := rfl
theorem State.i3c_of_poisonRow (x : List (Nat × Bool)) : ({ s with poisonRow := x } : State).i3c = s.i3c := rfl
theorem State.jtag_of_poisonRow (x : List (Nat × Bool)) : ({ s with poisonRow := x } : State).jtag = s.jtag := rfl
theorem State.load_of_poisonRow (x : List (Nat × Bool)) : ({ s with poisonRow := x } : State).load = s.load := rfl
theorem State.exch_of_poisonRow (x : List (Nat × Bool)) : ({ s with poisonRow := x } : State).exch = s.exch := rfl
theorem State.hinge_of_poisonRow (x : List (Nat × Bool)) : ({ s with poisonRow := x } : State).hinge = s.hinge := rfl
theorem State.edge_of_poisonRow (x : List (Nat × Bool)) : ({ s with poisonRow := x } : State).edge = s.edge := rfl
theorem State.streams_of_poisonRow (x : List (Nat × Bool)) : ({ s with poisonRow := x } : State).streams = s.streams := rfl
theorem State.ports_of_poisonRow (x : List (Nat × Bool)) : ({ s with poisonRow := x } : State).ports = s.ports := rfl
theorem State.dom_of_poisonRow (x : List (Nat × Bool)) : ({ s with poisonRow := x } : State).dom = s.dom := rfl
theorem State.cocoons_of_poisonRow (x : List (Nat × Bool)) : ({ s with poisonRow := x } : State).cocoons = s.cocoons := rfl

theorem State.pending_of_firn_firnPoison (x : List Host.Cell) (y : List (Nat × Bool)) : ({ s with firn := x, firnPoison := y } : State).pending = s.pending := rfl
theorem State.tc_of_firn_firnPoison (x : List Host.Cell) (y : List (Nat × Bool)) : ({ s with firn := x, firnPoison := y } : State).tc = s.tc := rfl
theorem State.free_of_firn_firnPoison (x : List Host.Cell) (y : List (Nat × Bool)) : ({ s with firn := x, firnPoison := y } : State).free = s.free := rfl
theorem State.rdata_of_firn_firnPoison (x : List Host.Cell) (y : List (Nat × Bool)) : ({ s with firn := x, firnPoison := y } : State).rdata = s.rdata := rfl
theorem State.bus_of_firn_firnPoison (x : List Host.Cell) (y : List (Nat × Bool)) : ({ s with firn := x, firnPoison := y } : State).bus = s.bus := rfl
theorem State.csr_of_firn_firnPoison (x : List Host.Cell) (y : List (Nat × Bool)) : ({ s with firn := x, firnPoison := y } : State).csr = s.csr := rfl
theorem State.tiles_of_firn_firnPoison (x : List Host.Cell) (y : List (Nat × Bool)) : ({ s with firn := x, firnPoison := y } : State).tiles = s.tiles := rfl
theorem State.clusters_of_firn_firnPoison (x : List Host.Cell) (y : List (Nat × Bool)) : ({ s with firn := x, firnPoison := y } : State).clusters = s.clusters := rfl
theorem State.fields_of_firn_firnPoison (x : List Host.Cell) (y : List (Nat × Bool)) : ({ s with firn := x, firnPoison := y } : State).fields = s.fields := rfl
theorem State.lifeT_of_firn_firnPoison (x : List Host.Cell) (y : List (Nat × Bool)) : ({ s with firn := x, firnPoison := y } : State).lifeT = s.lifeT := rfl
theorem State.lifeF_of_firn_firnPoison (x : List Host.Cell) (y : List (Nat × Bool)) : ({ s with firn := x, firnPoison := y } : State).lifeF = s.lifeF := rfl
theorem State.scratch_of_firn_firnPoison (x : List Host.Cell) (y : List (Nat × Bool)) : ({ s with firn := x, firnPoison := y } : State).scratch = s.scratch := rfl
theorem State.badPar_of_firn_firnPoison (x : List Host.Cell) (y : List (Nat × Bool)) : ({ s with firn := x, firnPoison := y } : State).badPar = s.badPar := rfl
theorem State.poisonRow_of_firn_firnPoison (x : List Host.Cell) (y : List (Nat × Bool)) : ({ s with firn := x, firnPoison := y } : State).poisonRow = s.poisonRow := rfl
theorem State.firnQ_of_firn_firnPoison (x : List Host.Cell) (y : List (Nat × Bool)) : ({ s with firn := x, firnPoison := y } : State).firnQ = s.firnQ := rfl
theorem State.stepFail_of_firn_firnPoison (x : List Host.Cell) (y : List (Nat × Bool)) : ({ s with firn := x, firnPoison := y } : State).stepFail = s.stepFail := rfl
theorem State.dep_of_firn_firnPoison (x : List Host.Cell) (y : List (Nat × Bool)) : ({ s with firn := x, firnPoison := y } : State).dep = s.dep := rfl
theorem State.beats_of_firn_firnPoison (x : List Host.Cell) (y : List (Nat × Bool)) : ({ s with firn := x, firnPoison := y } : State).beats = s.beats := rfl
theorem State.evc_of_firn_firnPoison (x : List Host.Cell) (y : List (Nat × Bool)) : ({ s with firn := x, firnPoison := y } : State).evc = s.evc := rfl
theorem State.power_of_firn_firnPoison (x : List Host.Cell) (y : List (Nat × Bool)) : ({ s with firn := x, firnPoison := y } : State).power = s.power := rfl
theorem State.thermal_of_firn_firnPoison (x : List Host.Cell) (y : List (Nat × Bool)) : ({ s with firn := x, firnPoison := y } : State).thermal = s.thermal := rfl
theorem State.clocks_of_firn_firnPoison (x : List Host.Cell) (y : List (Nat × Bool)) : ({ s with firn := x, firnPoison := y } : State).clocks = s.clocks := rfl
theorem State.steward_of_firn_firnPoison (x : List Host.Cell) (y : List (Nat × Bool)) : ({ s with firn := x, firnPoison := y } : State).steward = s.steward := rfl
theorem State.i3c_of_firn_firnPoison (x : List Host.Cell) (y : List (Nat × Bool)) : ({ s with firn := x, firnPoison := y } : State).i3c = s.i3c := rfl
theorem State.jtag_of_firn_firnPoison (x : List Host.Cell) (y : List (Nat × Bool)) : ({ s with firn := x, firnPoison := y } : State).jtag = s.jtag := rfl
theorem State.load_of_firn_firnPoison (x : List Host.Cell) (y : List (Nat × Bool)) : ({ s with firn := x, firnPoison := y } : State).load = s.load := rfl
theorem State.exch_of_firn_firnPoison (x : List Host.Cell) (y : List (Nat × Bool)) : ({ s with firn := x, firnPoison := y } : State).exch = s.exch := rfl
theorem State.hinge_of_firn_firnPoison (x : List Host.Cell) (y : List (Nat × Bool)) : ({ s with firn := x, firnPoison := y } : State).hinge = s.hinge := rfl
theorem State.edge_of_firn_firnPoison (x : List Host.Cell) (y : List (Nat × Bool)) : ({ s with firn := x, firnPoison := y } : State).edge = s.edge := rfl
theorem State.streams_of_firn_firnPoison (x : List Host.Cell) (y : List (Nat × Bool)) : ({ s with firn := x, firnPoison := y } : State).streams = s.streams := rfl
theorem State.ports_of_firn_firnPoison (x : List Host.Cell) (y : List (Nat × Bool)) : ({ s with firn := x, firnPoison := y } : State).ports = s.ports := rfl
theorem State.dom_of_firn_firnPoison (x : List Host.Cell) (y : List (Nat × Bool)) : ({ s with firn := x, firnPoison := y } : State).dom = s.dom := rfl
theorem State.cocoons_of_firn_firnPoison (x : List Host.Cell) (y : List (Nat × Bool)) : ({ s with firn := x, firnPoison := y } : State).cocoons = s.cocoons := rfl

theorem State.pending_of_evc (x : Evc) : ({ s with evc := x } : State).pending = s.pending := rfl
theorem State.tc_of_evc (x : Evc) : ({ s with evc := x } : State).tc = s.tc := rfl
theorem State.free_of_evc (x : Evc) : ({ s with evc := x } : State).free = s.free := rfl
theorem State.rdata_of_evc (x : Evc) : ({ s with evc := x } : State).rdata = s.rdata := rfl
theorem State.bus_of_evc (x : Evc) : ({ s with evc := x } : State).bus = s.bus := rfl
theorem State.csr_of_evc (x : Evc) : ({ s with evc := x } : State).csr = s.csr := rfl
theorem State.tiles_of_evc (x : Evc) : ({ s with evc := x } : State).tiles = s.tiles := rfl
theorem State.clusters_of_evc (x : Evc) : ({ s with evc := x } : State).clusters = s.clusters := rfl
theorem State.fields_of_evc (x : Evc) : ({ s with evc := x } : State).fields = s.fields := rfl
theorem State.lifeT_of_evc (x : Evc) : ({ s with evc := x } : State).lifeT = s.lifeT := rfl
theorem State.lifeF_of_evc (x : Evc) : ({ s with evc := x } : State).lifeF = s.lifeF := rfl
theorem State.scratch_of_evc (x : Evc) : ({ s with evc := x } : State).scratch = s.scratch := rfl
theorem State.badPar_of_evc (x : Evc) : ({ s with evc := x } : State).badPar = s.badPar := rfl
theorem State.poisonRow_of_evc (x : Evc) : ({ s with evc := x } : State).poisonRow = s.poisonRow := rfl
theorem State.firn_of_evc (x : Evc) : ({ s with evc := x } : State).firn = s.firn := rfl
theorem State.firnPoison_of_evc (x : Evc) : ({ s with evc := x } : State).firnPoison = s.firnPoison := rfl
theorem State.firnQ_of_evc (x : Evc) : ({ s with evc := x } : State).firnQ = s.firnQ := rfl
theorem State.stepFail_of_evc (x : Evc) : ({ s with evc := x } : State).stepFail = s.stepFail := rfl
theorem State.dep_of_evc (x : Evc) : ({ s with evc := x } : State).dep = s.dep := rfl
theorem State.beats_of_evc (x : Evc) : ({ s with evc := x } : State).beats = s.beats := rfl
theorem State.power_of_evc (x : Evc) : ({ s with evc := x } : State).power = s.power := rfl
theorem State.thermal_of_evc (x : Evc) : ({ s with evc := x } : State).thermal = s.thermal := rfl
theorem State.clocks_of_evc (x : Evc) : ({ s with evc := x } : State).clocks = s.clocks := rfl
theorem State.steward_of_evc (x : Evc) : ({ s with evc := x } : State).steward = s.steward := rfl
theorem State.i3c_of_evc (x : Evc) : ({ s with evc := x } : State).i3c = s.i3c := rfl
theorem State.jtag_of_evc (x : Evc) : ({ s with evc := x } : State).jtag = s.jtag := rfl
theorem State.load_of_evc (x : Evc) : ({ s with evc := x } : State).load = s.load := rfl
theorem State.exch_of_evc (x : Evc) : ({ s with evc := x } : State).exch = s.exch := rfl
theorem State.hinge_of_evc (x : Evc) : ({ s with evc := x } : State).hinge = s.hinge := rfl
theorem State.edge_of_evc (x : Evc) : ({ s with evc := x } : State).edge = s.edge := rfl
theorem State.streams_of_evc (x : Evc) : ({ s with evc := x } : State).streams = s.streams := rfl
theorem State.ports_of_evc (x : Evc) : ({ s with evc := x } : State).ports = s.ports := rfl
theorem State.dom_of_evc (x : Evc) : ({ s with evc := x } : State).dom = s.dom := rfl
theorem State.cocoons_of_evc (x : Evc) : ({ s with evc := x } : State).cocoons = s.cocoons := rfl

theorem State.pending_of_csr_firnQ (x : List (Nat × Word)) (y : List (Nat × List FirnTx)) : ({ s with csr := x, firnQ := y } : State).pending = s.pending := rfl
theorem State.tc_of_csr_firnQ (x : List (Nat × Word)) (y : List (Nat × List FirnTx)) : ({ s with csr := x, firnQ := y } : State).tc = s.tc := rfl
theorem State.free_of_csr_firnQ (x : List (Nat × Word)) (y : List (Nat × List FirnTx)) : ({ s with csr := x, firnQ := y } : State).free = s.free := rfl
theorem State.rdata_of_csr_firnQ (x : List (Nat × Word)) (y : List (Nat × List FirnTx)) : ({ s with csr := x, firnQ := y } : State).rdata = s.rdata := rfl
theorem State.bus_of_csr_firnQ (x : List (Nat × Word)) (y : List (Nat × List FirnTx)) : ({ s with csr := x, firnQ := y } : State).bus = s.bus := rfl
theorem State.tiles_of_csr_firnQ (x : List (Nat × Word)) (y : List (Nat × List FirnTx)) : ({ s with csr := x, firnQ := y } : State).tiles = s.tiles := rfl
theorem State.clusters_of_csr_firnQ (x : List (Nat × Word)) (y : List (Nat × List FirnTx)) : ({ s with csr := x, firnQ := y } : State).clusters = s.clusters := rfl
theorem State.fields_of_csr_firnQ (x : List (Nat × Word)) (y : List (Nat × List FirnTx)) : ({ s with csr := x, firnQ := y } : State).fields = s.fields := rfl
theorem State.lifeT_of_csr_firnQ (x : List (Nat × Word)) (y : List (Nat × List FirnTx)) : ({ s with csr := x, firnQ := y } : State).lifeT = s.lifeT := rfl
theorem State.lifeF_of_csr_firnQ (x : List (Nat × Word)) (y : List (Nat × List FirnTx)) : ({ s with csr := x, firnQ := y } : State).lifeF = s.lifeF := rfl
theorem State.scratch_of_csr_firnQ (x : List (Nat × Word)) (y : List (Nat × List FirnTx)) : ({ s with csr := x, firnQ := y } : State).scratch = s.scratch := rfl
theorem State.badPar_of_csr_firnQ (x : List (Nat × Word)) (y : List (Nat × List FirnTx)) : ({ s with csr := x, firnQ := y } : State).badPar = s.badPar := rfl
theorem State.poisonRow_of_csr_firnQ (x : List (Nat × Word)) (y : List (Nat × List FirnTx)) : ({ s with csr := x, firnQ := y } : State).poisonRow = s.poisonRow := rfl
theorem State.firn_of_csr_firnQ (x : List (Nat × Word)) (y : List (Nat × List FirnTx)) : ({ s with csr := x, firnQ := y } : State).firn = s.firn := rfl
theorem State.firnPoison_of_csr_firnQ (x : List (Nat × Word)) (y : List (Nat × List FirnTx)) : ({ s with csr := x, firnQ := y } : State).firnPoison = s.firnPoison := rfl
theorem State.stepFail_of_csr_firnQ (x : List (Nat × Word)) (y : List (Nat × List FirnTx)) : ({ s with csr := x, firnQ := y } : State).stepFail = s.stepFail := rfl
theorem State.dep_of_csr_firnQ (x : List (Nat × Word)) (y : List (Nat × List FirnTx)) : ({ s with csr := x, firnQ := y } : State).dep = s.dep := rfl
theorem State.beats_of_csr_firnQ (x : List (Nat × Word)) (y : List (Nat × List FirnTx)) : ({ s with csr := x, firnQ := y } : State).beats = s.beats := rfl
theorem State.evc_of_csr_firnQ (x : List (Nat × Word)) (y : List (Nat × List FirnTx)) : ({ s with csr := x, firnQ := y } : State).evc = s.evc := rfl
theorem State.power_of_csr_firnQ (x : List (Nat × Word)) (y : List (Nat × List FirnTx)) : ({ s with csr := x, firnQ := y } : State).power = s.power := rfl
theorem State.thermal_of_csr_firnQ (x : List (Nat × Word)) (y : List (Nat × List FirnTx)) : ({ s with csr := x, firnQ := y } : State).thermal = s.thermal := rfl
theorem State.clocks_of_csr_firnQ (x : List (Nat × Word)) (y : List (Nat × List FirnTx)) : ({ s with csr := x, firnQ := y } : State).clocks = s.clocks := rfl
theorem State.steward_of_csr_firnQ (x : List (Nat × Word)) (y : List (Nat × List FirnTx)) : ({ s with csr := x, firnQ := y } : State).steward = s.steward := rfl
theorem State.i3c_of_csr_firnQ (x : List (Nat × Word)) (y : List (Nat × List FirnTx)) : ({ s with csr := x, firnQ := y } : State).i3c = s.i3c := rfl
theorem State.jtag_of_csr_firnQ (x : List (Nat × Word)) (y : List (Nat × List FirnTx)) : ({ s with csr := x, firnQ := y } : State).jtag = s.jtag := rfl
theorem State.load_of_csr_firnQ (x : List (Nat × Word)) (y : List (Nat × List FirnTx)) : ({ s with csr := x, firnQ := y } : State).load = s.load := rfl
theorem State.exch_of_csr_firnQ (x : List (Nat × Word)) (y : List (Nat × List FirnTx)) : ({ s with csr := x, firnQ := y } : State).exch = s.exch := rfl
theorem State.hinge_of_csr_firnQ (x : List (Nat × Word)) (y : List (Nat × List FirnTx)) : ({ s with csr := x, firnQ := y } : State).hinge = s.hinge := rfl
theorem State.edge_of_csr_firnQ (x : List (Nat × Word)) (y : List (Nat × List FirnTx)) : ({ s with csr := x, firnQ := y } : State).edge = s.edge := rfl
theorem State.streams_of_csr_firnQ (x : List (Nat × Word)) (y : List (Nat × List FirnTx)) : ({ s with csr := x, firnQ := y } : State).streams = s.streams := rfl
theorem State.ports_of_csr_firnQ (x : List (Nat × Word)) (y : List (Nat × List FirnTx)) : ({ s with csr := x, firnQ := y } : State).ports = s.ports := rfl
theorem State.dom_of_csr_firnQ (x : List (Nat × Word)) (y : List (Nat × List FirnTx)) : ({ s with csr := x, firnQ := y } : State).dom = s.dom := rfl
theorem State.cocoons_of_csr_firnQ (x : List (Nat × Word)) (y : List (Nat × List FirnTx)) : ({ s with csr := x, firnQ := y } : State).cocoons = s.cocoons := rfl

theorem State.pending_of_free (x : Nat) : ({ s with free := x } : State).pending = s.pending := rfl
theorem State.tc_of_free (x : Nat) : ({ s with free := x } : State).tc = s.tc := rfl
theorem State.rdata_of_free (x : Nat) : ({ s with free := x } : State).rdata = s.rdata := rfl
theorem State.bus_of_free (x : Nat) : ({ s with free := x } : State).bus = s.bus := rfl
theorem State.csr_of_free (x : Nat) : ({ s with free := x } : State).csr = s.csr := rfl
theorem State.tiles_of_free (x : Nat) : ({ s with free := x } : State).tiles = s.tiles := rfl
theorem State.clusters_of_free (x : Nat) : ({ s with free := x } : State).clusters = s.clusters := rfl
theorem State.fields_of_free (x : Nat) : ({ s with free := x } : State).fields = s.fields := rfl
theorem State.lifeT_of_free (x : Nat) : ({ s with free := x } : State).lifeT = s.lifeT := rfl
theorem State.lifeF_of_free (x : Nat) : ({ s with free := x } : State).lifeF = s.lifeF := rfl
theorem State.scratch_of_free (x : Nat) : ({ s with free := x } : State).scratch = s.scratch := rfl
theorem State.badPar_of_free (x : Nat) : ({ s with free := x } : State).badPar = s.badPar := rfl
theorem State.poisonRow_of_free (x : Nat) : ({ s with free := x } : State).poisonRow = s.poisonRow := rfl
theorem State.firn_of_free (x : Nat) : ({ s with free := x } : State).firn = s.firn := rfl
theorem State.firnPoison_of_free (x : Nat) : ({ s with free := x } : State).firnPoison = s.firnPoison := rfl
theorem State.firnQ_of_free (x : Nat) : ({ s with free := x } : State).firnQ = s.firnQ := rfl
theorem State.stepFail_of_free (x : Nat) : ({ s with free := x } : State).stepFail = s.stepFail := rfl
theorem State.dep_of_free (x : Nat) : ({ s with free := x } : State).dep = s.dep := rfl
theorem State.beats_of_free (x : Nat) : ({ s with free := x } : State).beats = s.beats := rfl
theorem State.evc_of_free (x : Nat) : ({ s with free := x } : State).evc = s.evc := rfl
theorem State.power_of_free (x : Nat) : ({ s with free := x } : State).power = s.power := rfl
theorem State.thermal_of_free (x : Nat) : ({ s with free := x } : State).thermal = s.thermal := rfl
theorem State.clocks_of_free (x : Nat) : ({ s with free := x } : State).clocks = s.clocks := rfl
theorem State.steward_of_free (x : Nat) : ({ s with free := x } : State).steward = s.steward := rfl
theorem State.i3c_of_free (x : Nat) : ({ s with free := x } : State).i3c = s.i3c := rfl
theorem State.jtag_of_free (x : Nat) : ({ s with free := x } : State).jtag = s.jtag := rfl
theorem State.load_of_free (x : Nat) : ({ s with free := x } : State).load = s.load := rfl
theorem State.exch_of_free (x : Nat) : ({ s with free := x } : State).exch = s.exch := rfl
theorem State.hinge_of_free (x : Nat) : ({ s with free := x } : State).hinge = s.hinge := rfl
theorem State.edge_of_free (x : Nat) : ({ s with free := x } : State).edge = s.edge := rfl
theorem State.streams_of_free (x : Nat) : ({ s with free := x } : State).streams = s.streams := rfl
theorem State.ports_of_free (x : Nat) : ({ s with free := x } : State).ports = s.ports := rfl
theorem State.dom_of_free (x : Nat) : ({ s with free := x } : State).dom = s.dom := rfl
theorem State.cocoons_of_free (x : Nat) : ({ s with free := x } : State).cocoons = s.cocoons := rfl

/-! `wr` changes csr only. -/

@[simp] theorem wr_pending (a v : Nat) : (wr s a v).pending = s.pending := State.pending_of_csr _ _
@[simp] theorem wr_tc (a v : Nat) : (wr s a v).tc = s.tc := State.tc_of_csr _ _
@[simp] theorem wr_free (a v : Nat) : (wr s a v).free = s.free := State.free_of_csr _ _
@[simp] theorem wr_rdata (a v : Nat) : (wr s a v).rdata = s.rdata := State.rdata_of_csr _ _
@[simp] theorem wr_bus (a v : Nat) : (wr s a v).bus = s.bus := State.bus_of_csr _ _
@[simp] theorem wr_tiles (a v : Nat) : (wr s a v).tiles = s.tiles := State.tiles_of_csr _ _
@[simp] theorem wr_clusters (a v : Nat) : (wr s a v).clusters = s.clusters := State.clusters_of_csr _ _
@[simp] theorem wr_fields (a v : Nat) : (wr s a v).fields = s.fields := State.fields_of_csr _ _
@[simp] theorem wr_lifeT (a v : Nat) : (wr s a v).lifeT = s.lifeT := State.lifeT_of_csr _ _
@[simp] theorem wr_lifeF (a v : Nat) : (wr s a v).lifeF = s.lifeF := State.lifeF_of_csr _ _
@[simp] theorem wr_scratch (a v : Nat) : (wr s a v).scratch = s.scratch := State.scratch_of_csr _ _
@[simp] theorem wr_badPar (a v : Nat) : (wr s a v).badPar = s.badPar := State.badPar_of_csr _ _
@[simp] theorem wr_poisonRow (a v : Nat) : (wr s a v).poisonRow = s.poisonRow := State.poisonRow_of_csr _ _
@[simp] theorem wr_firn (a v : Nat) : (wr s a v).firn = s.firn := State.firn_of_csr _ _
@[simp] theorem wr_firnPoison (a v : Nat) : (wr s a v).firnPoison = s.firnPoison := State.firnPoison_of_csr _ _
@[simp] theorem wr_firnQ (a v : Nat) : (wr s a v).firnQ = s.firnQ := State.firnQ_of_csr _ _
@[simp] theorem wr_stepFail (a v : Nat) : (wr s a v).stepFail = s.stepFail := State.stepFail_of_csr _ _
@[simp] theorem wr_dep (a v : Nat) : (wr s a v).dep = s.dep := State.dep_of_csr _ _
@[simp] theorem wr_beats (a v : Nat) : (wr s a v).beats = s.beats := State.beats_of_csr _ _
@[simp] theorem wr_evc (a v : Nat) : (wr s a v).evc = s.evc := State.evc_of_csr _ _
@[simp] theorem wr_power (a v : Nat) : (wr s a v).power = s.power := State.power_of_csr _ _
@[simp] theorem wr_thermal (a v : Nat) : (wr s a v).thermal = s.thermal := State.thermal_of_csr _ _
@[simp] theorem wr_clocks (a v : Nat) : (wr s a v).clocks = s.clocks := State.clocks_of_csr _ _
@[simp] theorem wr_steward (a v : Nat) : (wr s a v).steward = s.steward := State.steward_of_csr _ _
@[simp] theorem wr_i3c (a v : Nat) : (wr s a v).i3c = s.i3c := State.i3c_of_csr _ _
@[simp] theorem wr_jtag (a v : Nat) : (wr s a v).jtag = s.jtag := State.jtag_of_csr _ _
@[simp] theorem wr_load (a v : Nat) : (wr s a v).load = s.load := State.load_of_csr _ _
@[simp] theorem wr_exch (a v : Nat) : (wr s a v).exch = s.exch := State.exch_of_csr _ _
@[simp] theorem wr_hinge (a v : Nat) : (wr s a v).hinge = s.hinge := State.hinge_of_csr _ _
@[simp] theorem wr_edge (a v : Nat) : (wr s a v).edge = s.edge := State.edge_of_csr _ _
@[simp] theorem wr_streams (a v : Nat) : (wr s a v).streams = s.streams := State.streams_of_csr _ _
@[simp] theorem wr_ports (a v : Nat) : (wr s a v).ports = s.ports := State.ports_of_csr _ _
@[simp] theorem wr_dom (a v : Nat) : (wr s a v).dom = s.dom := State.dom_of_csr _ _
@[simp] theorem wr_cocoons (a v : Nat) : (wr s a v).cocoons = s.cocoons := State.cocoons_of_csr _ _

/-! `putF` changes csr only. -/

@[simp] theorem putF_pending (b : Nat) (f : Fld) (v : Nat) : (putF s b f v).pending = s.pending := State.pending_of_csr _ _
@[simp] theorem putF_tc (b : Nat) (f : Fld) (v : Nat) : (putF s b f v).tc = s.tc := State.tc_of_csr _ _
@[simp] theorem putF_free (b : Nat) (f : Fld) (v : Nat) : (putF s b f v).free = s.free := State.free_of_csr _ _
@[simp] theorem putF_rdata (b : Nat) (f : Fld) (v : Nat) : (putF s b f v).rdata = s.rdata := State.rdata_of_csr _ _
@[simp] theorem putF_bus (b : Nat) (f : Fld) (v : Nat) : (putF s b f v).bus = s.bus := State.bus_of_csr _ _
@[simp] theorem putF_tiles (b : Nat) (f : Fld) (v : Nat) : (putF s b f v).tiles = s.tiles := State.tiles_of_csr _ _
@[simp] theorem putF_clusters (b : Nat) (f : Fld) (v : Nat) : (putF s b f v).clusters = s.clusters := State.clusters_of_csr _ _
@[simp] theorem putF_fields (b : Nat) (f : Fld) (v : Nat) : (putF s b f v).fields = s.fields := State.fields_of_csr _ _
@[simp] theorem putF_lifeT (b : Nat) (f : Fld) (v : Nat) : (putF s b f v).lifeT = s.lifeT := State.lifeT_of_csr _ _
@[simp] theorem putF_lifeF (b : Nat) (f : Fld) (v : Nat) : (putF s b f v).lifeF = s.lifeF := State.lifeF_of_csr _ _
@[simp] theorem putF_scratch (b : Nat) (f : Fld) (v : Nat) : (putF s b f v).scratch = s.scratch := State.scratch_of_csr _ _
@[simp] theorem putF_badPar (b : Nat) (f : Fld) (v : Nat) : (putF s b f v).badPar = s.badPar := State.badPar_of_csr _ _
@[simp] theorem putF_poisonRow (b : Nat) (f : Fld) (v : Nat) : (putF s b f v).poisonRow = s.poisonRow := State.poisonRow_of_csr _ _
@[simp] theorem putF_firn (b : Nat) (f : Fld) (v : Nat) : (putF s b f v).firn = s.firn := State.firn_of_csr _ _
@[simp] theorem putF_firnPoison (b : Nat) (f : Fld) (v : Nat) : (putF s b f v).firnPoison = s.firnPoison := State.firnPoison_of_csr _ _
@[simp] theorem putF_firnQ (b : Nat) (f : Fld) (v : Nat) : (putF s b f v).firnQ = s.firnQ := State.firnQ_of_csr _ _
@[simp] theorem putF_stepFail (b : Nat) (f : Fld) (v : Nat) : (putF s b f v).stepFail = s.stepFail := State.stepFail_of_csr _ _
@[simp] theorem putF_dep (b : Nat) (f : Fld) (v : Nat) : (putF s b f v).dep = s.dep := State.dep_of_csr _ _
@[simp] theorem putF_beats (b : Nat) (f : Fld) (v : Nat) : (putF s b f v).beats = s.beats := State.beats_of_csr _ _
@[simp] theorem putF_evc (b : Nat) (f : Fld) (v : Nat) : (putF s b f v).evc = s.evc := State.evc_of_csr _ _
@[simp] theorem putF_power (b : Nat) (f : Fld) (v : Nat) : (putF s b f v).power = s.power := State.power_of_csr _ _
@[simp] theorem putF_thermal (b : Nat) (f : Fld) (v : Nat) : (putF s b f v).thermal = s.thermal := State.thermal_of_csr _ _
@[simp] theorem putF_clocks (b : Nat) (f : Fld) (v : Nat) : (putF s b f v).clocks = s.clocks := State.clocks_of_csr _ _
@[simp] theorem putF_steward (b : Nat) (f : Fld) (v : Nat) : (putF s b f v).steward = s.steward := State.steward_of_csr _ _
@[simp] theorem putF_i3c (b : Nat) (f : Fld) (v : Nat) : (putF s b f v).i3c = s.i3c := State.i3c_of_csr _ _
@[simp] theorem putF_jtag (b : Nat) (f : Fld) (v : Nat) : (putF s b f v).jtag = s.jtag := State.jtag_of_csr _ _
@[simp] theorem putF_load (b : Nat) (f : Fld) (v : Nat) : (putF s b f v).load = s.load := State.load_of_csr _ _
@[simp] theorem putF_exch (b : Nat) (f : Fld) (v : Nat) : (putF s b f v).exch = s.exch := State.exch_of_csr _ _
@[simp] theorem putF_hinge (b : Nat) (f : Fld) (v : Nat) : (putF s b f v).hinge = s.hinge := State.hinge_of_csr _ _
@[simp] theorem putF_edge (b : Nat) (f : Fld) (v : Nat) : (putF s b f v).edge = s.edge := State.edge_of_csr _ _
@[simp] theorem putF_streams (b : Nat) (f : Fld) (v : Nat) : (putF s b f v).streams = s.streams := State.streams_of_csr _ _
@[simp] theorem putF_ports (b : Nat) (f : Fld) (v : Nat) : (putF s b f v).ports = s.ports := State.ports_of_csr _ _
@[simp] theorem putF_dom (b : Nat) (f : Fld) (v : Nat) : (putF s b f v).dom = s.dom := State.dom_of_csr _ _
@[simp] theorem putF_cocoons (b : Nat) (f : Fld) (v : Nat) : (putF s b f v).cocoons = s.cocoons := State.cocoons_of_csr _ _

/-! `incF` changes csr only. -/

@[simp] theorem incF_pending (b : Nat) (f : Fld) (v : Nat) : (incF s b f v).pending = s.pending := State.pending_of_csr _ _
@[simp] theorem incF_tc (b : Nat) (f : Fld) (v : Nat) : (incF s b f v).tc = s.tc := State.tc_of_csr _ _
@[simp] theorem incF_free (b : Nat) (f : Fld) (v : Nat) : (incF s b f v).free = s.free := State.free_of_csr _ _
@[simp] theorem incF_rdata (b : Nat) (f : Fld) (v : Nat) : (incF s b f v).rdata = s.rdata := State.rdata_of_csr _ _
@[simp] theorem incF_bus (b : Nat) (f : Fld) (v : Nat) : (incF s b f v).bus = s.bus := State.bus_of_csr _ _
@[simp] theorem incF_tiles (b : Nat) (f : Fld) (v : Nat) : (incF s b f v).tiles = s.tiles := State.tiles_of_csr _ _
@[simp] theorem incF_clusters (b : Nat) (f : Fld) (v : Nat) : (incF s b f v).clusters = s.clusters := State.clusters_of_csr _ _
@[simp] theorem incF_fields (b : Nat) (f : Fld) (v : Nat) : (incF s b f v).fields = s.fields := State.fields_of_csr _ _
@[simp] theorem incF_lifeT (b : Nat) (f : Fld) (v : Nat) : (incF s b f v).lifeT = s.lifeT := State.lifeT_of_csr _ _
@[simp] theorem incF_lifeF (b : Nat) (f : Fld) (v : Nat) : (incF s b f v).lifeF = s.lifeF := State.lifeF_of_csr _ _
@[simp] theorem incF_scratch (b : Nat) (f : Fld) (v : Nat) : (incF s b f v).scratch = s.scratch := State.scratch_of_csr _ _
@[simp] theorem incF_badPar (b : Nat) (f : Fld) (v : Nat) : (incF s b f v).badPar = s.badPar := State.badPar_of_csr _ _
@[simp] theorem incF_poisonRow (b : Nat) (f : Fld) (v : Nat) : (incF s b f v).poisonRow = s.poisonRow := State.poisonRow_of_csr _ _
@[simp] theorem incF_firn (b : Nat) (f : Fld) (v : Nat) : (incF s b f v).firn = s.firn := State.firn_of_csr _ _
@[simp] theorem incF_firnPoison (b : Nat) (f : Fld) (v : Nat) : (incF s b f v).firnPoison = s.firnPoison := State.firnPoison_of_csr _ _
@[simp] theorem incF_firnQ (b : Nat) (f : Fld) (v : Nat) : (incF s b f v).firnQ = s.firnQ := State.firnQ_of_csr _ _
@[simp] theorem incF_stepFail (b : Nat) (f : Fld) (v : Nat) : (incF s b f v).stepFail = s.stepFail := State.stepFail_of_csr _ _
@[simp] theorem incF_dep (b : Nat) (f : Fld) (v : Nat) : (incF s b f v).dep = s.dep := State.dep_of_csr _ _
@[simp] theorem incF_beats (b : Nat) (f : Fld) (v : Nat) : (incF s b f v).beats = s.beats := State.beats_of_csr _ _
@[simp] theorem incF_evc (b : Nat) (f : Fld) (v : Nat) : (incF s b f v).evc = s.evc := State.evc_of_csr _ _
@[simp] theorem incF_power (b : Nat) (f : Fld) (v : Nat) : (incF s b f v).power = s.power := State.power_of_csr _ _
@[simp] theorem incF_thermal (b : Nat) (f : Fld) (v : Nat) : (incF s b f v).thermal = s.thermal := State.thermal_of_csr _ _
@[simp] theorem incF_clocks (b : Nat) (f : Fld) (v : Nat) : (incF s b f v).clocks = s.clocks := State.clocks_of_csr _ _
@[simp] theorem incF_steward (b : Nat) (f : Fld) (v : Nat) : (incF s b f v).steward = s.steward := State.steward_of_csr _ _
@[simp] theorem incF_i3c (b : Nat) (f : Fld) (v : Nat) : (incF s b f v).i3c = s.i3c := State.i3c_of_csr _ _
@[simp] theorem incF_jtag (b : Nat) (f : Fld) (v : Nat) : (incF s b f v).jtag = s.jtag := State.jtag_of_csr _ _
@[simp] theorem incF_load (b : Nat) (f : Fld) (v : Nat) : (incF s b f v).load = s.load := State.load_of_csr _ _
@[simp] theorem incF_exch (b : Nat) (f : Fld) (v : Nat) : (incF s b f v).exch = s.exch := State.exch_of_csr _ _
@[simp] theorem incF_hinge (b : Nat) (f : Fld) (v : Nat) : (incF s b f v).hinge = s.hinge := State.hinge_of_csr _ _
@[simp] theorem incF_edge (b : Nat) (f : Fld) (v : Nat) : (incF s b f v).edge = s.edge := State.edge_of_csr _ _
@[simp] theorem incF_streams (b : Nat) (f : Fld) (v : Nat) : (incF s b f v).streams = s.streams := State.streams_of_csr _ _
@[simp] theorem incF_ports (b : Nat) (f : Fld) (v : Nat) : (incF s b f v).ports = s.ports := State.ports_of_csr _ _
@[simp] theorem incF_dom (b : Nat) (f : Fld) (v : Nat) : (incF s b f v).dom = s.dom := State.dom_of_csr _ _
@[simp] theorem incF_cocoons (b : Nat) (f : Fld) (v : Nat) : (incF s b f v).cocoons = s.cocoons := State.cocoons_of_csr _ _

/-! `wrapF` changes csr only. -/

@[simp] theorem wrapF_pending (b : Nat) (f : Fld) (v : Nat) : (wrapF s b f v).pending = s.pending := State.pending_of_csr _ _
@[simp] theorem wrapF_tc (b : Nat) (f : Fld) (v : Nat) : (wrapF s b f v).tc = s.tc := State.tc_of_csr _ _
@[simp] theorem wrapF_free (b : Nat) (f : Fld) (v : Nat) : (wrapF s b f v).free = s.free := State.free_of_csr _ _
@[simp] theorem wrapF_rdata (b : Nat) (f : Fld) (v : Nat) : (wrapF s b f v).rdata = s.rdata := State.rdata_of_csr _ _
@[simp] theorem wrapF_bus (b : Nat) (f : Fld) (v : Nat) : (wrapF s b f v).bus = s.bus := State.bus_of_csr _ _
@[simp] theorem wrapF_tiles (b : Nat) (f : Fld) (v : Nat) : (wrapF s b f v).tiles = s.tiles := State.tiles_of_csr _ _
@[simp] theorem wrapF_clusters (b : Nat) (f : Fld) (v : Nat) : (wrapF s b f v).clusters = s.clusters := State.clusters_of_csr _ _
@[simp] theorem wrapF_fields (b : Nat) (f : Fld) (v : Nat) : (wrapF s b f v).fields = s.fields := State.fields_of_csr _ _
@[simp] theorem wrapF_lifeT (b : Nat) (f : Fld) (v : Nat) : (wrapF s b f v).lifeT = s.lifeT := State.lifeT_of_csr _ _
@[simp] theorem wrapF_lifeF (b : Nat) (f : Fld) (v : Nat) : (wrapF s b f v).lifeF = s.lifeF := State.lifeF_of_csr _ _
@[simp] theorem wrapF_scratch (b : Nat) (f : Fld) (v : Nat) : (wrapF s b f v).scratch = s.scratch := State.scratch_of_csr _ _
@[simp] theorem wrapF_badPar (b : Nat) (f : Fld) (v : Nat) : (wrapF s b f v).badPar = s.badPar := State.badPar_of_csr _ _
@[simp] theorem wrapF_poisonRow (b : Nat) (f : Fld) (v : Nat) : (wrapF s b f v).poisonRow = s.poisonRow := State.poisonRow_of_csr _ _
@[simp] theorem wrapF_firn (b : Nat) (f : Fld) (v : Nat) : (wrapF s b f v).firn = s.firn := State.firn_of_csr _ _
@[simp] theorem wrapF_firnPoison (b : Nat) (f : Fld) (v : Nat) : (wrapF s b f v).firnPoison = s.firnPoison := State.firnPoison_of_csr _ _
@[simp] theorem wrapF_firnQ (b : Nat) (f : Fld) (v : Nat) : (wrapF s b f v).firnQ = s.firnQ := State.firnQ_of_csr _ _
@[simp] theorem wrapF_stepFail (b : Nat) (f : Fld) (v : Nat) : (wrapF s b f v).stepFail = s.stepFail := State.stepFail_of_csr _ _
@[simp] theorem wrapF_dep (b : Nat) (f : Fld) (v : Nat) : (wrapF s b f v).dep = s.dep := State.dep_of_csr _ _
@[simp] theorem wrapF_beats (b : Nat) (f : Fld) (v : Nat) : (wrapF s b f v).beats = s.beats := State.beats_of_csr _ _
@[simp] theorem wrapF_evc (b : Nat) (f : Fld) (v : Nat) : (wrapF s b f v).evc = s.evc := State.evc_of_csr _ _
@[simp] theorem wrapF_power (b : Nat) (f : Fld) (v : Nat) : (wrapF s b f v).power = s.power := State.power_of_csr _ _
@[simp] theorem wrapF_thermal (b : Nat) (f : Fld) (v : Nat) : (wrapF s b f v).thermal = s.thermal := State.thermal_of_csr _ _
@[simp] theorem wrapF_clocks (b : Nat) (f : Fld) (v : Nat) : (wrapF s b f v).clocks = s.clocks := State.clocks_of_csr _ _
@[simp] theorem wrapF_steward (b : Nat) (f : Fld) (v : Nat) : (wrapF s b f v).steward = s.steward := State.steward_of_csr _ _
@[simp] theorem wrapF_i3c (b : Nat) (f : Fld) (v : Nat) : (wrapF s b f v).i3c = s.i3c := State.i3c_of_csr _ _
@[simp] theorem wrapF_jtag (b : Nat) (f : Fld) (v : Nat) : (wrapF s b f v).jtag = s.jtag := State.jtag_of_csr _ _
@[simp] theorem wrapF_load (b : Nat) (f : Fld) (v : Nat) : (wrapF s b f v).load = s.load := State.load_of_csr _ _
@[simp] theorem wrapF_exch (b : Nat) (f : Fld) (v : Nat) : (wrapF s b f v).exch = s.exch := State.exch_of_csr _ _
@[simp] theorem wrapF_hinge (b : Nat) (f : Fld) (v : Nat) : (wrapF s b f v).hinge = s.hinge := State.hinge_of_csr _ _
@[simp] theorem wrapF_edge (b : Nat) (f : Fld) (v : Nat) : (wrapF s b f v).edge = s.edge := State.edge_of_csr _ _
@[simp] theorem wrapF_streams (b : Nat) (f : Fld) (v : Nat) : (wrapF s b f v).streams = s.streams := State.streams_of_csr _ _
@[simp] theorem wrapF_ports (b : Nat) (f : Fld) (v : Nat) : (wrapF s b f v).ports = s.ports := State.ports_of_csr _ _
@[simp] theorem wrapF_dom (b : Nat) (f : Fld) (v : Nat) : (wrapF s b f v).dom = s.dom := State.dom_of_csr _ _
@[simp] theorem wrapF_cocoons (b : Nat) (f : Fld) (v : Nat) : (wrapF s b f v).cocoons = s.cocoons := State.cocoons_of_csr _ _

/-! `maxF` changes csr only. -/

@[simp] theorem maxF_pending (b : Nat) (f : Fld) (v : Nat) : (maxF s b f v).pending = s.pending := State.pending_of_csr _ _
@[simp] theorem maxF_tc (b : Nat) (f : Fld) (v : Nat) : (maxF s b f v).tc = s.tc := State.tc_of_csr _ _
@[simp] theorem maxF_free (b : Nat) (f : Fld) (v : Nat) : (maxF s b f v).free = s.free := State.free_of_csr _ _
@[simp] theorem maxF_rdata (b : Nat) (f : Fld) (v : Nat) : (maxF s b f v).rdata = s.rdata := State.rdata_of_csr _ _
@[simp] theorem maxF_bus (b : Nat) (f : Fld) (v : Nat) : (maxF s b f v).bus = s.bus := State.bus_of_csr _ _
@[simp] theorem maxF_tiles (b : Nat) (f : Fld) (v : Nat) : (maxF s b f v).tiles = s.tiles := State.tiles_of_csr _ _
@[simp] theorem maxF_clusters (b : Nat) (f : Fld) (v : Nat) : (maxF s b f v).clusters = s.clusters := State.clusters_of_csr _ _
@[simp] theorem maxF_fields (b : Nat) (f : Fld) (v : Nat) : (maxF s b f v).fields = s.fields := State.fields_of_csr _ _
@[simp] theorem maxF_lifeT (b : Nat) (f : Fld) (v : Nat) : (maxF s b f v).lifeT = s.lifeT := State.lifeT_of_csr _ _
@[simp] theorem maxF_lifeF (b : Nat) (f : Fld) (v : Nat) : (maxF s b f v).lifeF = s.lifeF := State.lifeF_of_csr _ _
@[simp] theorem maxF_scratch (b : Nat) (f : Fld) (v : Nat) : (maxF s b f v).scratch = s.scratch := State.scratch_of_csr _ _
@[simp] theorem maxF_badPar (b : Nat) (f : Fld) (v : Nat) : (maxF s b f v).badPar = s.badPar := State.badPar_of_csr _ _
@[simp] theorem maxF_poisonRow (b : Nat) (f : Fld) (v : Nat) : (maxF s b f v).poisonRow = s.poisonRow := State.poisonRow_of_csr _ _
@[simp] theorem maxF_firn (b : Nat) (f : Fld) (v : Nat) : (maxF s b f v).firn = s.firn := State.firn_of_csr _ _
@[simp] theorem maxF_firnPoison (b : Nat) (f : Fld) (v : Nat) : (maxF s b f v).firnPoison = s.firnPoison := State.firnPoison_of_csr _ _
@[simp] theorem maxF_firnQ (b : Nat) (f : Fld) (v : Nat) : (maxF s b f v).firnQ = s.firnQ := State.firnQ_of_csr _ _
@[simp] theorem maxF_stepFail (b : Nat) (f : Fld) (v : Nat) : (maxF s b f v).stepFail = s.stepFail := State.stepFail_of_csr _ _
@[simp] theorem maxF_dep (b : Nat) (f : Fld) (v : Nat) : (maxF s b f v).dep = s.dep := State.dep_of_csr _ _
@[simp] theorem maxF_beats (b : Nat) (f : Fld) (v : Nat) : (maxF s b f v).beats = s.beats := State.beats_of_csr _ _
@[simp] theorem maxF_evc (b : Nat) (f : Fld) (v : Nat) : (maxF s b f v).evc = s.evc := State.evc_of_csr _ _
@[simp] theorem maxF_power (b : Nat) (f : Fld) (v : Nat) : (maxF s b f v).power = s.power := State.power_of_csr _ _
@[simp] theorem maxF_thermal (b : Nat) (f : Fld) (v : Nat) : (maxF s b f v).thermal = s.thermal := State.thermal_of_csr _ _
@[simp] theorem maxF_clocks (b : Nat) (f : Fld) (v : Nat) : (maxF s b f v).clocks = s.clocks := State.clocks_of_csr _ _
@[simp] theorem maxF_steward (b : Nat) (f : Fld) (v : Nat) : (maxF s b f v).steward = s.steward := State.steward_of_csr _ _
@[simp] theorem maxF_i3c (b : Nat) (f : Fld) (v : Nat) : (maxF s b f v).i3c = s.i3c := State.i3c_of_csr _ _
@[simp] theorem maxF_jtag (b : Nat) (f : Fld) (v : Nat) : (maxF s b f v).jtag = s.jtag := State.jtag_of_csr _ _
@[simp] theorem maxF_load (b : Nat) (f : Fld) (v : Nat) : (maxF s b f v).load = s.load := State.load_of_csr _ _
@[simp] theorem maxF_exch (b : Nat) (f : Fld) (v : Nat) : (maxF s b f v).exch = s.exch := State.exch_of_csr _ _
@[simp] theorem maxF_hinge (b : Nat) (f : Fld) (v : Nat) : (maxF s b f v).hinge = s.hinge := State.hinge_of_csr _ _
@[simp] theorem maxF_edge (b : Nat) (f : Fld) (v : Nat) : (maxF s b f v).edge = s.edge := State.edge_of_csr _ _
@[simp] theorem maxF_streams (b : Nat) (f : Fld) (v : Nat) : (maxF s b f v).streams = s.streams := State.streams_of_csr _ _
@[simp] theorem maxF_ports (b : Nat) (f : Fld) (v : Nat) : (maxF s b f v).ports = s.ports := State.ports_of_csr _ _
@[simp] theorem maxF_dom (b : Nat) (f : Fld) (v : Nat) : (maxF s b f v).dom = s.dom := State.dom_of_csr _ _
@[simp] theorem maxF_cocoons (b : Nat) (f : Fld) (v : Nat) : (maxF s b f v).cocoons = s.cocoons := State.cocoons_of_csr _ _

/-! `setF` changes csr only. -/

@[simp] theorem setF_pending (b : Nat) (f : Fld) : (setF s b f).pending = s.pending := State.pending_of_csr _ _
@[simp] theorem setF_tc (b : Nat) (f : Fld) : (setF s b f).tc = s.tc := State.tc_of_csr _ _
@[simp] theorem setF_free (b : Nat) (f : Fld) : (setF s b f).free = s.free := State.free_of_csr _ _
@[simp] theorem setF_rdata (b : Nat) (f : Fld) : (setF s b f).rdata = s.rdata := State.rdata_of_csr _ _
@[simp] theorem setF_bus (b : Nat) (f : Fld) : (setF s b f).bus = s.bus := State.bus_of_csr _ _
@[simp] theorem setF_tiles (b : Nat) (f : Fld) : (setF s b f).tiles = s.tiles := State.tiles_of_csr _ _
@[simp] theorem setF_clusters (b : Nat) (f : Fld) : (setF s b f).clusters = s.clusters := State.clusters_of_csr _ _
@[simp] theorem setF_fields (b : Nat) (f : Fld) : (setF s b f).fields = s.fields := State.fields_of_csr _ _
@[simp] theorem setF_lifeT (b : Nat) (f : Fld) : (setF s b f).lifeT = s.lifeT := State.lifeT_of_csr _ _
@[simp] theorem setF_lifeF (b : Nat) (f : Fld) : (setF s b f).lifeF = s.lifeF := State.lifeF_of_csr _ _
@[simp] theorem setF_scratch (b : Nat) (f : Fld) : (setF s b f).scratch = s.scratch := State.scratch_of_csr _ _
@[simp] theorem setF_badPar (b : Nat) (f : Fld) : (setF s b f).badPar = s.badPar := State.badPar_of_csr _ _
@[simp] theorem setF_poisonRow (b : Nat) (f : Fld) : (setF s b f).poisonRow = s.poisonRow := State.poisonRow_of_csr _ _
@[simp] theorem setF_firn (b : Nat) (f : Fld) : (setF s b f).firn = s.firn := State.firn_of_csr _ _
@[simp] theorem setF_firnPoison (b : Nat) (f : Fld) : (setF s b f).firnPoison = s.firnPoison := State.firnPoison_of_csr _ _
@[simp] theorem setF_firnQ (b : Nat) (f : Fld) : (setF s b f).firnQ = s.firnQ := State.firnQ_of_csr _ _
@[simp] theorem setF_stepFail (b : Nat) (f : Fld) : (setF s b f).stepFail = s.stepFail := State.stepFail_of_csr _ _
@[simp] theorem setF_dep (b : Nat) (f : Fld) : (setF s b f).dep = s.dep := State.dep_of_csr _ _
@[simp] theorem setF_beats (b : Nat) (f : Fld) : (setF s b f).beats = s.beats := State.beats_of_csr _ _
@[simp] theorem setF_evc (b : Nat) (f : Fld) : (setF s b f).evc = s.evc := State.evc_of_csr _ _
@[simp] theorem setF_power (b : Nat) (f : Fld) : (setF s b f).power = s.power := State.power_of_csr _ _
@[simp] theorem setF_thermal (b : Nat) (f : Fld) : (setF s b f).thermal = s.thermal := State.thermal_of_csr _ _
@[simp] theorem setF_clocks (b : Nat) (f : Fld) : (setF s b f).clocks = s.clocks := State.clocks_of_csr _ _
@[simp] theorem setF_steward (b : Nat) (f : Fld) : (setF s b f).steward = s.steward := State.steward_of_csr _ _
@[simp] theorem setF_i3c (b : Nat) (f : Fld) : (setF s b f).i3c = s.i3c := State.i3c_of_csr _ _
@[simp] theorem setF_jtag (b : Nat) (f : Fld) : (setF s b f).jtag = s.jtag := State.jtag_of_csr _ _
@[simp] theorem setF_load (b : Nat) (f : Fld) : (setF s b f).load = s.load := State.load_of_csr _ _
@[simp] theorem setF_exch (b : Nat) (f : Fld) : (setF s b f).exch = s.exch := State.exch_of_csr _ _
@[simp] theorem setF_hinge (b : Nat) (f : Fld) : (setF s b f).hinge = s.hinge := State.hinge_of_csr _ _
@[simp] theorem setF_edge (b : Nat) (f : Fld) : (setF s b f).edge = s.edge := State.edge_of_csr _ _
@[simp] theorem setF_streams (b : Nat) (f : Fld) : (setF s b f).streams = s.streams := State.streams_of_csr _ _
@[simp] theorem setF_ports (b : Nat) (f : Fld) : (setF s b f).ports = s.ports := State.ports_of_csr _ _
@[simp] theorem setF_dom (b : Nat) (f : Fld) : (setF s b f).dom = s.dom := State.dom_of_csr _ _
@[simp] theorem setF_cocoons (b : Nat) (f : Fld) : (setF s b f).cocoons = s.cocoons := State.cocoons_of_csr _ _

/-! `resetRegs` changes csr only. -/

@[simp] theorem resetRegs_pending (p : Nat → Bool) : (resetRegs s p).pending = s.pending := State.pending_of_csr _ _
@[simp] theorem resetRegs_tc (p : Nat → Bool) : (resetRegs s p).tc = s.tc := State.tc_of_csr _ _
@[simp] theorem resetRegs_free (p : Nat → Bool) : (resetRegs s p).free = s.free := State.free_of_csr _ _
@[simp] theorem resetRegs_rdata (p : Nat → Bool) : (resetRegs s p).rdata = s.rdata := State.rdata_of_csr _ _
@[simp] theorem resetRegs_bus (p : Nat → Bool) : (resetRegs s p).bus = s.bus := State.bus_of_csr _ _
@[simp] theorem resetRegs_tiles (p : Nat → Bool) : (resetRegs s p).tiles = s.tiles := State.tiles_of_csr _ _
@[simp] theorem resetRegs_clusters (p : Nat → Bool) : (resetRegs s p).clusters = s.clusters := State.clusters_of_csr _ _
@[simp] theorem resetRegs_fields (p : Nat → Bool) : (resetRegs s p).fields = s.fields := State.fields_of_csr _ _
@[simp] theorem resetRegs_lifeT (p : Nat → Bool) : (resetRegs s p).lifeT = s.lifeT := State.lifeT_of_csr _ _
@[simp] theorem resetRegs_lifeF (p : Nat → Bool) : (resetRegs s p).lifeF = s.lifeF := State.lifeF_of_csr _ _
@[simp] theorem resetRegs_scratch (p : Nat → Bool) : (resetRegs s p).scratch = s.scratch := State.scratch_of_csr _ _
@[simp] theorem resetRegs_badPar (p : Nat → Bool) : (resetRegs s p).badPar = s.badPar := State.badPar_of_csr _ _
@[simp] theorem resetRegs_poisonRow (p : Nat → Bool) : (resetRegs s p).poisonRow = s.poisonRow := State.poisonRow_of_csr _ _
@[simp] theorem resetRegs_firn (p : Nat → Bool) : (resetRegs s p).firn = s.firn := State.firn_of_csr _ _
@[simp] theorem resetRegs_firnPoison (p : Nat → Bool) : (resetRegs s p).firnPoison = s.firnPoison := State.firnPoison_of_csr _ _
@[simp] theorem resetRegs_firnQ (p : Nat → Bool) : (resetRegs s p).firnQ = s.firnQ := State.firnQ_of_csr _ _
@[simp] theorem resetRegs_stepFail (p : Nat → Bool) : (resetRegs s p).stepFail = s.stepFail := State.stepFail_of_csr _ _
@[simp] theorem resetRegs_dep (p : Nat → Bool) : (resetRegs s p).dep = s.dep := State.dep_of_csr _ _
@[simp] theorem resetRegs_beats (p : Nat → Bool) : (resetRegs s p).beats = s.beats := State.beats_of_csr _ _
@[simp] theorem resetRegs_evc (p : Nat → Bool) : (resetRegs s p).evc = s.evc := State.evc_of_csr _ _
@[simp] theorem resetRegs_power (p : Nat → Bool) : (resetRegs s p).power = s.power := State.power_of_csr _ _
@[simp] theorem resetRegs_thermal (p : Nat → Bool) : (resetRegs s p).thermal = s.thermal := State.thermal_of_csr _ _
@[simp] theorem resetRegs_clocks (p : Nat → Bool) : (resetRegs s p).clocks = s.clocks := State.clocks_of_csr _ _
@[simp] theorem resetRegs_steward (p : Nat → Bool) : (resetRegs s p).steward = s.steward := State.steward_of_csr _ _
@[simp] theorem resetRegs_i3c (p : Nat → Bool) : (resetRegs s p).i3c = s.i3c := State.i3c_of_csr _ _
@[simp] theorem resetRegs_jtag (p : Nat → Bool) : (resetRegs s p).jtag = s.jtag := State.jtag_of_csr _ _
@[simp] theorem resetRegs_load (p : Nat → Bool) : (resetRegs s p).load = s.load := State.load_of_csr _ _
@[simp] theorem resetRegs_exch (p : Nat → Bool) : (resetRegs s p).exch = s.exch := State.exch_of_csr _ _
@[simp] theorem resetRegs_hinge (p : Nat → Bool) : (resetRegs s p).hinge = s.hinge := State.hinge_of_csr _ _
@[simp] theorem resetRegs_edge (p : Nat → Bool) : (resetRegs s p).edge = s.edge := State.edge_of_csr _ _
@[simp] theorem resetRegs_streams (p : Nat → Bool) : (resetRegs s p).streams = s.streams := State.streams_of_csr _ _
@[simp] theorem resetRegs_ports (p : Nat → Bool) : (resetRegs s p).ports = s.ports := State.ports_of_csr _ _
@[simp] theorem resetRegs_dom (p : Nat → Bool) : (resetRegs s p).dom = s.dom := State.dom_of_csr _ _
@[simp] theorem resetRegs_cocoons (p : Nat → Bool) : (resetRegs s p).cocoons = s.cocoons := State.cocoons_of_csr _ _

/-! `setTile` changes tiles only. -/

@[simp] theorem setTile_pending (k : Nat) (t : Tile) : (setTile s k t).pending = s.pending := State.pending_of_tiles _ _
@[simp] theorem setTile_tc (k : Nat) (t : Tile) : (setTile s k t).tc = s.tc := State.tc_of_tiles _ _
@[simp] theorem setTile_free (k : Nat) (t : Tile) : (setTile s k t).free = s.free := State.free_of_tiles _ _
@[simp] theorem setTile_rdata (k : Nat) (t : Tile) : (setTile s k t).rdata = s.rdata := State.rdata_of_tiles _ _
@[simp] theorem setTile_bus (k : Nat) (t : Tile) : (setTile s k t).bus = s.bus := State.bus_of_tiles _ _
@[simp] theorem setTile_csr (k : Nat) (t : Tile) : (setTile s k t).csr = s.csr := State.csr_of_tiles _ _
@[simp] theorem setTile_clusters (k : Nat) (t : Tile) : (setTile s k t).clusters = s.clusters := State.clusters_of_tiles _ _
@[simp] theorem setTile_fields (k : Nat) (t : Tile) : (setTile s k t).fields = s.fields := State.fields_of_tiles _ _
@[simp] theorem setTile_lifeT (k : Nat) (t : Tile) : (setTile s k t).lifeT = s.lifeT := State.lifeT_of_tiles _ _
@[simp] theorem setTile_lifeF (k : Nat) (t : Tile) : (setTile s k t).lifeF = s.lifeF := State.lifeF_of_tiles _ _
@[simp] theorem setTile_scratch (k : Nat) (t : Tile) : (setTile s k t).scratch = s.scratch := State.scratch_of_tiles _ _
@[simp] theorem setTile_badPar (k : Nat) (t : Tile) : (setTile s k t).badPar = s.badPar := State.badPar_of_tiles _ _
@[simp] theorem setTile_poisonRow (k : Nat) (t : Tile) : (setTile s k t).poisonRow = s.poisonRow := State.poisonRow_of_tiles _ _
@[simp] theorem setTile_firn (k : Nat) (t : Tile) : (setTile s k t).firn = s.firn := State.firn_of_tiles _ _
@[simp] theorem setTile_firnPoison (k : Nat) (t : Tile) : (setTile s k t).firnPoison = s.firnPoison := State.firnPoison_of_tiles _ _
@[simp] theorem setTile_firnQ (k : Nat) (t : Tile) : (setTile s k t).firnQ = s.firnQ := State.firnQ_of_tiles _ _
@[simp] theorem setTile_stepFail (k : Nat) (t : Tile) : (setTile s k t).stepFail = s.stepFail := State.stepFail_of_tiles _ _
@[simp] theorem setTile_dep (k : Nat) (t : Tile) : (setTile s k t).dep = s.dep := State.dep_of_tiles _ _
@[simp] theorem setTile_beats (k : Nat) (t : Tile) : (setTile s k t).beats = s.beats := State.beats_of_tiles _ _
@[simp] theorem setTile_evc (k : Nat) (t : Tile) : (setTile s k t).evc = s.evc := State.evc_of_tiles _ _
@[simp] theorem setTile_power (k : Nat) (t : Tile) : (setTile s k t).power = s.power := State.power_of_tiles _ _
@[simp] theorem setTile_thermal (k : Nat) (t : Tile) : (setTile s k t).thermal = s.thermal := State.thermal_of_tiles _ _
@[simp] theorem setTile_clocks (k : Nat) (t : Tile) : (setTile s k t).clocks = s.clocks := State.clocks_of_tiles _ _
@[simp] theorem setTile_steward (k : Nat) (t : Tile) : (setTile s k t).steward = s.steward := State.steward_of_tiles _ _
@[simp] theorem setTile_i3c (k : Nat) (t : Tile) : (setTile s k t).i3c = s.i3c := State.i3c_of_tiles _ _
@[simp] theorem setTile_jtag (k : Nat) (t : Tile) : (setTile s k t).jtag = s.jtag := State.jtag_of_tiles _ _
@[simp] theorem setTile_load (k : Nat) (t : Tile) : (setTile s k t).load = s.load := State.load_of_tiles _ _
@[simp] theorem setTile_exch (k : Nat) (t : Tile) : (setTile s k t).exch = s.exch := State.exch_of_tiles _ _
@[simp] theorem setTile_hinge (k : Nat) (t : Tile) : (setTile s k t).hinge = s.hinge := State.hinge_of_tiles _ _
@[simp] theorem setTile_edge (k : Nat) (t : Tile) : (setTile s k t).edge = s.edge := State.edge_of_tiles _ _
@[simp] theorem setTile_streams (k : Nat) (t : Tile) : (setTile s k t).streams = s.streams := State.streams_of_tiles _ _
@[simp] theorem setTile_ports (k : Nat) (t : Tile) : (setTile s k t).ports = s.ports := State.ports_of_tiles _ _
@[simp] theorem setTile_dom (k : Nat) (t : Tile) : (setTile s k t).dom = s.dom := State.dom_of_tiles _ _
@[simp] theorem setTile_cocoons (k : Nat) (t : Tile) : (setTile s k t).cocoons = s.cocoons := State.cocoons_of_tiles _ _

/-! `modTile` changes tiles only. -/

@[simp] theorem modTile_pending (k : Nat) (g : Tile → Tile) : (modTile s k g).pending = s.pending := State.pending_of_tiles _ _
@[simp] theorem modTile_tc (k : Nat) (g : Tile → Tile) : (modTile s k g).tc = s.tc := State.tc_of_tiles _ _
@[simp] theorem modTile_free (k : Nat) (g : Tile → Tile) : (modTile s k g).free = s.free := State.free_of_tiles _ _
@[simp] theorem modTile_rdata (k : Nat) (g : Tile → Tile) : (modTile s k g).rdata = s.rdata := State.rdata_of_tiles _ _
@[simp] theorem modTile_bus (k : Nat) (g : Tile → Tile) : (modTile s k g).bus = s.bus := State.bus_of_tiles _ _
@[simp] theorem modTile_csr (k : Nat) (g : Tile → Tile) : (modTile s k g).csr = s.csr := State.csr_of_tiles _ _
@[simp] theorem modTile_clusters (k : Nat) (g : Tile → Tile) : (modTile s k g).clusters = s.clusters := State.clusters_of_tiles _ _
@[simp] theorem modTile_fields (k : Nat) (g : Tile → Tile) : (modTile s k g).fields = s.fields := State.fields_of_tiles _ _
@[simp] theorem modTile_lifeT (k : Nat) (g : Tile → Tile) : (modTile s k g).lifeT = s.lifeT := State.lifeT_of_tiles _ _
@[simp] theorem modTile_lifeF (k : Nat) (g : Tile → Tile) : (modTile s k g).lifeF = s.lifeF := State.lifeF_of_tiles _ _
@[simp] theorem modTile_scratch (k : Nat) (g : Tile → Tile) : (modTile s k g).scratch = s.scratch := State.scratch_of_tiles _ _
@[simp] theorem modTile_badPar (k : Nat) (g : Tile → Tile) : (modTile s k g).badPar = s.badPar := State.badPar_of_tiles _ _
@[simp] theorem modTile_poisonRow (k : Nat) (g : Tile → Tile) : (modTile s k g).poisonRow = s.poisonRow := State.poisonRow_of_tiles _ _
@[simp] theorem modTile_firn (k : Nat) (g : Tile → Tile) : (modTile s k g).firn = s.firn := State.firn_of_tiles _ _
@[simp] theorem modTile_firnPoison (k : Nat) (g : Tile → Tile) : (modTile s k g).firnPoison = s.firnPoison := State.firnPoison_of_tiles _ _
@[simp] theorem modTile_firnQ (k : Nat) (g : Tile → Tile) : (modTile s k g).firnQ = s.firnQ := State.firnQ_of_tiles _ _
@[simp] theorem modTile_stepFail (k : Nat) (g : Tile → Tile) : (modTile s k g).stepFail = s.stepFail := State.stepFail_of_tiles _ _
@[simp] theorem modTile_dep (k : Nat) (g : Tile → Tile) : (modTile s k g).dep = s.dep := State.dep_of_tiles _ _
@[simp] theorem modTile_beats (k : Nat) (g : Tile → Tile) : (modTile s k g).beats = s.beats := State.beats_of_tiles _ _
@[simp] theorem modTile_evc (k : Nat) (g : Tile → Tile) : (modTile s k g).evc = s.evc := State.evc_of_tiles _ _
@[simp] theorem modTile_power (k : Nat) (g : Tile → Tile) : (modTile s k g).power = s.power := State.power_of_tiles _ _
@[simp] theorem modTile_thermal (k : Nat) (g : Tile → Tile) : (modTile s k g).thermal = s.thermal := State.thermal_of_tiles _ _
@[simp] theorem modTile_clocks (k : Nat) (g : Tile → Tile) : (modTile s k g).clocks = s.clocks := State.clocks_of_tiles _ _
@[simp] theorem modTile_steward (k : Nat) (g : Tile → Tile) : (modTile s k g).steward = s.steward := State.steward_of_tiles _ _
@[simp] theorem modTile_i3c (k : Nat) (g : Tile → Tile) : (modTile s k g).i3c = s.i3c := State.i3c_of_tiles _ _
@[simp] theorem modTile_jtag (k : Nat) (g : Tile → Tile) : (modTile s k g).jtag = s.jtag := State.jtag_of_tiles _ _
@[simp] theorem modTile_load (k : Nat) (g : Tile → Tile) : (modTile s k g).load = s.load := State.load_of_tiles _ _
@[simp] theorem modTile_exch (k : Nat) (g : Tile → Tile) : (modTile s k g).exch = s.exch := State.exch_of_tiles _ _
@[simp] theorem modTile_hinge (k : Nat) (g : Tile → Tile) : (modTile s k g).hinge = s.hinge := State.hinge_of_tiles _ _
@[simp] theorem modTile_edge (k : Nat) (g : Tile → Tile) : (modTile s k g).edge = s.edge := State.edge_of_tiles _ _
@[simp] theorem modTile_streams (k : Nat) (g : Tile → Tile) : (modTile s k g).streams = s.streams := State.streams_of_tiles _ _
@[simp] theorem modTile_ports (k : Nat) (g : Tile → Tile) : (modTile s k g).ports = s.ports := State.ports_of_tiles _ _
@[simp] theorem modTile_dom (k : Nat) (g : Tile → Tile) : (modTile s k g).dom = s.dom := State.dom_of_tiles _ _
@[simp] theorem modTile_cocoons (k : Nat) (g : Tile → Tile) : (modTile s k g).cocoons = s.cocoons := State.cocoons_of_tiles _ _

/-! `setCtx` changes tiles only. -/

@[simp] theorem setCtx_pending (k n : Nat) (c : Ctx) : (setCtx s k n c).pending = s.pending := State.pending_of_tiles _ _
@[simp] theorem setCtx_tc (k n : Nat) (c : Ctx) : (setCtx s k n c).tc = s.tc := State.tc_of_tiles _ _
@[simp] theorem setCtx_free (k n : Nat) (c : Ctx) : (setCtx s k n c).free = s.free := State.free_of_tiles _ _
@[simp] theorem setCtx_rdata (k n : Nat) (c : Ctx) : (setCtx s k n c).rdata = s.rdata := State.rdata_of_tiles _ _
@[simp] theorem setCtx_bus (k n : Nat) (c : Ctx) : (setCtx s k n c).bus = s.bus := State.bus_of_tiles _ _
@[simp] theorem setCtx_csr (k n : Nat) (c : Ctx) : (setCtx s k n c).csr = s.csr := State.csr_of_tiles _ _
@[simp] theorem setCtx_clusters (k n : Nat) (c : Ctx) : (setCtx s k n c).clusters = s.clusters := State.clusters_of_tiles _ _
@[simp] theorem setCtx_fields (k n : Nat) (c : Ctx) : (setCtx s k n c).fields = s.fields := State.fields_of_tiles _ _
@[simp] theorem setCtx_lifeT (k n : Nat) (c : Ctx) : (setCtx s k n c).lifeT = s.lifeT := State.lifeT_of_tiles _ _
@[simp] theorem setCtx_lifeF (k n : Nat) (c : Ctx) : (setCtx s k n c).lifeF = s.lifeF := State.lifeF_of_tiles _ _
@[simp] theorem setCtx_scratch (k n : Nat) (c : Ctx) : (setCtx s k n c).scratch = s.scratch := State.scratch_of_tiles _ _
@[simp] theorem setCtx_badPar (k n : Nat) (c : Ctx) : (setCtx s k n c).badPar = s.badPar := State.badPar_of_tiles _ _
@[simp] theorem setCtx_poisonRow (k n : Nat) (c : Ctx) : (setCtx s k n c).poisonRow = s.poisonRow := State.poisonRow_of_tiles _ _
@[simp] theorem setCtx_firn (k n : Nat) (c : Ctx) : (setCtx s k n c).firn = s.firn := State.firn_of_tiles _ _
@[simp] theorem setCtx_firnPoison (k n : Nat) (c : Ctx) : (setCtx s k n c).firnPoison = s.firnPoison := State.firnPoison_of_tiles _ _
@[simp] theorem setCtx_firnQ (k n : Nat) (c : Ctx) : (setCtx s k n c).firnQ = s.firnQ := State.firnQ_of_tiles _ _
@[simp] theorem setCtx_stepFail (k n : Nat) (c : Ctx) : (setCtx s k n c).stepFail = s.stepFail := State.stepFail_of_tiles _ _
@[simp] theorem setCtx_dep (k n : Nat) (c : Ctx) : (setCtx s k n c).dep = s.dep := State.dep_of_tiles _ _
@[simp] theorem setCtx_beats (k n : Nat) (c : Ctx) : (setCtx s k n c).beats = s.beats := State.beats_of_tiles _ _
@[simp] theorem setCtx_evc (k n : Nat) (c : Ctx) : (setCtx s k n c).evc = s.evc := State.evc_of_tiles _ _
@[simp] theorem setCtx_power (k n : Nat) (c : Ctx) : (setCtx s k n c).power = s.power := State.power_of_tiles _ _
@[simp] theorem setCtx_thermal (k n : Nat) (c : Ctx) : (setCtx s k n c).thermal = s.thermal := State.thermal_of_tiles _ _
@[simp] theorem setCtx_clocks (k n : Nat) (c : Ctx) : (setCtx s k n c).clocks = s.clocks := State.clocks_of_tiles _ _
@[simp] theorem setCtx_steward (k n : Nat) (c : Ctx) : (setCtx s k n c).steward = s.steward := State.steward_of_tiles _ _
@[simp] theorem setCtx_i3c (k n : Nat) (c : Ctx) : (setCtx s k n c).i3c = s.i3c := State.i3c_of_tiles _ _
@[simp] theorem setCtx_jtag (k n : Nat) (c : Ctx) : (setCtx s k n c).jtag = s.jtag := State.jtag_of_tiles _ _
@[simp] theorem setCtx_load (k n : Nat) (c : Ctx) : (setCtx s k n c).load = s.load := State.load_of_tiles _ _
@[simp] theorem setCtx_exch (k n : Nat) (c : Ctx) : (setCtx s k n c).exch = s.exch := State.exch_of_tiles _ _
@[simp] theorem setCtx_hinge (k n : Nat) (c : Ctx) : (setCtx s k n c).hinge = s.hinge := State.hinge_of_tiles _ _
@[simp] theorem setCtx_edge (k n : Nat) (c : Ctx) : (setCtx s k n c).edge = s.edge := State.edge_of_tiles _ _
@[simp] theorem setCtx_streams (k n : Nat) (c : Ctx) : (setCtx s k n c).streams = s.streams := State.streams_of_tiles _ _
@[simp] theorem setCtx_ports (k n : Nat) (c : Ctx) : (setCtx s k n c).ports = s.ports := State.ports_of_tiles _ _
@[simp] theorem setCtx_dom (k n : Nat) (c : Ctx) : (setCtx s k n c).dom = s.dom := State.dom_of_tiles _ _
@[simp] theorem setCtx_cocoons (k n : Nat) (c : Ctx) : (setCtx s k n c).cocoons = s.cocoons := State.cocoons_of_tiles _ _

/-! `modCtx` changes tiles only. -/

@[simp] theorem modCtx_pending (k n : Nat) (g : Ctx → Ctx) : (modCtx s k n g).pending = s.pending := State.pending_of_tiles _ _
@[simp] theorem modCtx_tc (k n : Nat) (g : Ctx → Ctx) : (modCtx s k n g).tc = s.tc := State.tc_of_tiles _ _
@[simp] theorem modCtx_free (k n : Nat) (g : Ctx → Ctx) : (modCtx s k n g).free = s.free := State.free_of_tiles _ _
@[simp] theorem modCtx_rdata (k n : Nat) (g : Ctx → Ctx) : (modCtx s k n g).rdata = s.rdata := State.rdata_of_tiles _ _
@[simp] theorem modCtx_bus (k n : Nat) (g : Ctx → Ctx) : (modCtx s k n g).bus = s.bus := State.bus_of_tiles _ _
@[simp] theorem modCtx_csr (k n : Nat) (g : Ctx → Ctx) : (modCtx s k n g).csr = s.csr := State.csr_of_tiles _ _
@[simp] theorem modCtx_clusters (k n : Nat) (g : Ctx → Ctx) : (modCtx s k n g).clusters = s.clusters := State.clusters_of_tiles _ _
@[simp] theorem modCtx_fields (k n : Nat) (g : Ctx → Ctx) : (modCtx s k n g).fields = s.fields := State.fields_of_tiles _ _
@[simp] theorem modCtx_lifeT (k n : Nat) (g : Ctx → Ctx) : (modCtx s k n g).lifeT = s.lifeT := State.lifeT_of_tiles _ _
@[simp] theorem modCtx_lifeF (k n : Nat) (g : Ctx → Ctx) : (modCtx s k n g).lifeF = s.lifeF := State.lifeF_of_tiles _ _
@[simp] theorem modCtx_scratch (k n : Nat) (g : Ctx → Ctx) : (modCtx s k n g).scratch = s.scratch := State.scratch_of_tiles _ _
@[simp] theorem modCtx_badPar (k n : Nat) (g : Ctx → Ctx) : (modCtx s k n g).badPar = s.badPar := State.badPar_of_tiles _ _
@[simp] theorem modCtx_poisonRow (k n : Nat) (g : Ctx → Ctx) : (modCtx s k n g).poisonRow = s.poisonRow := State.poisonRow_of_tiles _ _
@[simp] theorem modCtx_firn (k n : Nat) (g : Ctx → Ctx) : (modCtx s k n g).firn = s.firn := State.firn_of_tiles _ _
@[simp] theorem modCtx_firnPoison (k n : Nat) (g : Ctx → Ctx) : (modCtx s k n g).firnPoison = s.firnPoison := State.firnPoison_of_tiles _ _
@[simp] theorem modCtx_firnQ (k n : Nat) (g : Ctx → Ctx) : (modCtx s k n g).firnQ = s.firnQ := State.firnQ_of_tiles _ _
@[simp] theorem modCtx_stepFail (k n : Nat) (g : Ctx → Ctx) : (modCtx s k n g).stepFail = s.stepFail := State.stepFail_of_tiles _ _
@[simp] theorem modCtx_dep (k n : Nat) (g : Ctx → Ctx) : (modCtx s k n g).dep = s.dep := State.dep_of_tiles _ _
@[simp] theorem modCtx_beats (k n : Nat) (g : Ctx → Ctx) : (modCtx s k n g).beats = s.beats := State.beats_of_tiles _ _
@[simp] theorem modCtx_evc (k n : Nat) (g : Ctx → Ctx) : (modCtx s k n g).evc = s.evc := State.evc_of_tiles _ _
@[simp] theorem modCtx_power (k n : Nat) (g : Ctx → Ctx) : (modCtx s k n g).power = s.power := State.power_of_tiles _ _
@[simp] theorem modCtx_thermal (k n : Nat) (g : Ctx → Ctx) : (modCtx s k n g).thermal = s.thermal := State.thermal_of_tiles _ _
@[simp] theorem modCtx_clocks (k n : Nat) (g : Ctx → Ctx) : (modCtx s k n g).clocks = s.clocks := State.clocks_of_tiles _ _
@[simp] theorem modCtx_steward (k n : Nat) (g : Ctx → Ctx) : (modCtx s k n g).steward = s.steward := State.steward_of_tiles _ _
@[simp] theorem modCtx_i3c (k n : Nat) (g : Ctx → Ctx) : (modCtx s k n g).i3c = s.i3c := State.i3c_of_tiles _ _
@[simp] theorem modCtx_jtag (k n : Nat) (g : Ctx → Ctx) : (modCtx s k n g).jtag = s.jtag := State.jtag_of_tiles _ _
@[simp] theorem modCtx_load (k n : Nat) (g : Ctx → Ctx) : (modCtx s k n g).load = s.load := State.load_of_tiles _ _
@[simp] theorem modCtx_exch (k n : Nat) (g : Ctx → Ctx) : (modCtx s k n g).exch = s.exch := State.exch_of_tiles _ _
@[simp] theorem modCtx_hinge (k n : Nat) (g : Ctx → Ctx) : (modCtx s k n g).hinge = s.hinge := State.hinge_of_tiles _ _
@[simp] theorem modCtx_edge (k n : Nat) (g : Ctx → Ctx) : (modCtx s k n g).edge = s.edge := State.edge_of_tiles _ _
@[simp] theorem modCtx_streams (k n : Nat) (g : Ctx → Ctx) : (modCtx s k n g).streams = s.streams := State.streams_of_tiles _ _
@[simp] theorem modCtx_ports (k n : Nat) (g : Ctx → Ctx) : (modCtx s k n g).ports = s.ports := State.ports_of_tiles _ _
@[simp] theorem modCtx_dom (k n : Nat) (g : Ctx → Ctx) : (modCtx s k n g).dom = s.dom := State.dom_of_tiles _ _
@[simp] theorem modCtx_cocoons (k n : Nat) (g : Ctx → Ctx) : (modCtx s k n g).cocoons = s.cocoons := State.cocoons_of_tiles _ _

/-! `setQueue` changes tiles only. -/

@[simp] theorem setQueue_pending (k q : Nat) (l : List Slot) : (setQueue s k q l).pending = s.pending := State.pending_of_tiles _ _
@[simp] theorem setQueue_tc (k q : Nat) (l : List Slot) : (setQueue s k q l).tc = s.tc := State.tc_of_tiles _ _
@[simp] theorem setQueue_free (k q : Nat) (l : List Slot) : (setQueue s k q l).free = s.free := State.free_of_tiles _ _
@[simp] theorem setQueue_rdata (k q : Nat) (l : List Slot) : (setQueue s k q l).rdata = s.rdata := State.rdata_of_tiles _ _
@[simp] theorem setQueue_bus (k q : Nat) (l : List Slot) : (setQueue s k q l).bus = s.bus := State.bus_of_tiles _ _
@[simp] theorem setQueue_csr (k q : Nat) (l : List Slot) : (setQueue s k q l).csr = s.csr := State.csr_of_tiles _ _
@[simp] theorem setQueue_clusters (k q : Nat) (l : List Slot) : (setQueue s k q l).clusters = s.clusters := State.clusters_of_tiles _ _
@[simp] theorem setQueue_fields (k q : Nat) (l : List Slot) : (setQueue s k q l).fields = s.fields := State.fields_of_tiles _ _
@[simp] theorem setQueue_lifeT (k q : Nat) (l : List Slot) : (setQueue s k q l).lifeT = s.lifeT := State.lifeT_of_tiles _ _
@[simp] theorem setQueue_lifeF (k q : Nat) (l : List Slot) : (setQueue s k q l).lifeF = s.lifeF := State.lifeF_of_tiles _ _
@[simp] theorem setQueue_scratch (k q : Nat) (l : List Slot) : (setQueue s k q l).scratch = s.scratch := State.scratch_of_tiles _ _
@[simp] theorem setQueue_badPar (k q : Nat) (l : List Slot) : (setQueue s k q l).badPar = s.badPar := State.badPar_of_tiles _ _
@[simp] theorem setQueue_poisonRow (k q : Nat) (l : List Slot) : (setQueue s k q l).poisonRow = s.poisonRow := State.poisonRow_of_tiles _ _
@[simp] theorem setQueue_firn (k q : Nat) (l : List Slot) : (setQueue s k q l).firn = s.firn := State.firn_of_tiles _ _
@[simp] theorem setQueue_firnPoison (k q : Nat) (l : List Slot) : (setQueue s k q l).firnPoison = s.firnPoison := State.firnPoison_of_tiles _ _
@[simp] theorem setQueue_firnQ (k q : Nat) (l : List Slot) : (setQueue s k q l).firnQ = s.firnQ := State.firnQ_of_tiles _ _
@[simp] theorem setQueue_stepFail (k q : Nat) (l : List Slot) : (setQueue s k q l).stepFail = s.stepFail := State.stepFail_of_tiles _ _
@[simp] theorem setQueue_dep (k q : Nat) (l : List Slot) : (setQueue s k q l).dep = s.dep := State.dep_of_tiles _ _
@[simp] theorem setQueue_beats (k q : Nat) (l : List Slot) : (setQueue s k q l).beats = s.beats := State.beats_of_tiles _ _
@[simp] theorem setQueue_evc (k q : Nat) (l : List Slot) : (setQueue s k q l).evc = s.evc := State.evc_of_tiles _ _
@[simp] theorem setQueue_power (k q : Nat) (l : List Slot) : (setQueue s k q l).power = s.power := State.power_of_tiles _ _
@[simp] theorem setQueue_thermal (k q : Nat) (l : List Slot) : (setQueue s k q l).thermal = s.thermal := State.thermal_of_tiles _ _
@[simp] theorem setQueue_clocks (k q : Nat) (l : List Slot) : (setQueue s k q l).clocks = s.clocks := State.clocks_of_tiles _ _
@[simp] theorem setQueue_steward (k q : Nat) (l : List Slot) : (setQueue s k q l).steward = s.steward := State.steward_of_tiles _ _
@[simp] theorem setQueue_i3c (k q : Nat) (l : List Slot) : (setQueue s k q l).i3c = s.i3c := State.i3c_of_tiles _ _
@[simp] theorem setQueue_jtag (k q : Nat) (l : List Slot) : (setQueue s k q l).jtag = s.jtag := State.jtag_of_tiles _ _
@[simp] theorem setQueue_load (k q : Nat) (l : List Slot) : (setQueue s k q l).load = s.load := State.load_of_tiles _ _
@[simp] theorem setQueue_exch (k q : Nat) (l : List Slot) : (setQueue s k q l).exch = s.exch := State.exch_of_tiles _ _
@[simp] theorem setQueue_hinge (k q : Nat) (l : List Slot) : (setQueue s k q l).hinge = s.hinge := State.hinge_of_tiles _ _
@[simp] theorem setQueue_edge (k q : Nat) (l : List Slot) : (setQueue s k q l).edge = s.edge := State.edge_of_tiles _ _
@[simp] theorem setQueue_streams (k q : Nat) (l : List Slot) : (setQueue s k q l).streams = s.streams := State.streams_of_tiles _ _
@[simp] theorem setQueue_ports (k q : Nat) (l : List Slot) : (setQueue s k q l).ports = s.ports := State.ports_of_tiles _ _
@[simp] theorem setQueue_dom (k q : Nat) (l : List Slot) : (setQueue s k q l).dom = s.dom := State.dom_of_tiles _ _
@[simp] theorem setQueue_cocoons (k q : Nat) (l : List Slot) : (setQueue s k q l).cocoons = s.cocoons := State.cocoons_of_tiles _ _

/-! `setReqs` changes tiles only. -/

@[simp] theorem setReqs_pending (k r : Nat) (l : List XReq) : (setReqs s k r l).pending = s.pending := State.pending_of_tiles _ _
@[simp] theorem setReqs_tc (k r : Nat) (l : List XReq) : (setReqs s k r l).tc = s.tc := State.tc_of_tiles _ _
@[simp] theorem setReqs_free (k r : Nat) (l : List XReq) : (setReqs s k r l).free = s.free := State.free_of_tiles _ _
@[simp] theorem setReqs_rdata (k r : Nat) (l : List XReq) : (setReqs s k r l).rdata = s.rdata := State.rdata_of_tiles _ _
@[simp] theorem setReqs_bus (k r : Nat) (l : List XReq) : (setReqs s k r l).bus = s.bus := State.bus_of_tiles _ _
@[simp] theorem setReqs_csr (k r : Nat) (l : List XReq) : (setReqs s k r l).csr = s.csr := State.csr_of_tiles _ _
@[simp] theorem setReqs_clusters (k r : Nat) (l : List XReq) : (setReqs s k r l).clusters = s.clusters := State.clusters_of_tiles _ _
@[simp] theorem setReqs_fields (k r : Nat) (l : List XReq) : (setReqs s k r l).fields = s.fields := State.fields_of_tiles _ _
@[simp] theorem setReqs_lifeT (k r : Nat) (l : List XReq) : (setReqs s k r l).lifeT = s.lifeT := State.lifeT_of_tiles _ _
@[simp] theorem setReqs_lifeF (k r : Nat) (l : List XReq) : (setReqs s k r l).lifeF = s.lifeF := State.lifeF_of_tiles _ _
@[simp] theorem setReqs_scratch (k r : Nat) (l : List XReq) : (setReqs s k r l).scratch = s.scratch := State.scratch_of_tiles _ _
@[simp] theorem setReqs_badPar (k r : Nat) (l : List XReq) : (setReqs s k r l).badPar = s.badPar := State.badPar_of_tiles _ _
@[simp] theorem setReqs_poisonRow (k r : Nat) (l : List XReq) : (setReqs s k r l).poisonRow = s.poisonRow := State.poisonRow_of_tiles _ _
@[simp] theorem setReqs_firn (k r : Nat) (l : List XReq) : (setReqs s k r l).firn = s.firn := State.firn_of_tiles _ _
@[simp] theorem setReqs_firnPoison (k r : Nat) (l : List XReq) : (setReqs s k r l).firnPoison = s.firnPoison := State.firnPoison_of_tiles _ _
@[simp] theorem setReqs_firnQ (k r : Nat) (l : List XReq) : (setReqs s k r l).firnQ = s.firnQ := State.firnQ_of_tiles _ _
@[simp] theorem setReqs_stepFail (k r : Nat) (l : List XReq) : (setReqs s k r l).stepFail = s.stepFail := State.stepFail_of_tiles _ _
@[simp] theorem setReqs_dep (k r : Nat) (l : List XReq) : (setReqs s k r l).dep = s.dep := State.dep_of_tiles _ _
@[simp] theorem setReqs_beats (k r : Nat) (l : List XReq) : (setReqs s k r l).beats = s.beats := State.beats_of_tiles _ _
@[simp] theorem setReqs_evc (k r : Nat) (l : List XReq) : (setReqs s k r l).evc = s.evc := State.evc_of_tiles _ _
@[simp] theorem setReqs_power (k r : Nat) (l : List XReq) : (setReqs s k r l).power = s.power := State.power_of_tiles _ _
@[simp] theorem setReqs_thermal (k r : Nat) (l : List XReq) : (setReqs s k r l).thermal = s.thermal := State.thermal_of_tiles _ _
@[simp] theorem setReqs_clocks (k r : Nat) (l : List XReq) : (setReqs s k r l).clocks = s.clocks := State.clocks_of_tiles _ _
@[simp] theorem setReqs_steward (k r : Nat) (l : List XReq) : (setReqs s k r l).steward = s.steward := State.steward_of_tiles _ _
@[simp] theorem setReqs_i3c (k r : Nat) (l : List XReq) : (setReqs s k r l).i3c = s.i3c := State.i3c_of_tiles _ _
@[simp] theorem setReqs_jtag (k r : Nat) (l : List XReq) : (setReqs s k r l).jtag = s.jtag := State.jtag_of_tiles _ _
@[simp] theorem setReqs_load (k r : Nat) (l : List XReq) : (setReqs s k r l).load = s.load := State.load_of_tiles _ _
@[simp] theorem setReqs_exch (k r : Nat) (l : List XReq) : (setReqs s k r l).exch = s.exch := State.exch_of_tiles _ _
@[simp] theorem setReqs_hinge (k r : Nat) (l : List XReq) : (setReqs s k r l).hinge = s.hinge := State.hinge_of_tiles _ _
@[simp] theorem setReqs_edge (k r : Nat) (l : List XReq) : (setReqs s k r l).edge = s.edge := State.edge_of_tiles _ _
@[simp] theorem setReqs_streams (k r : Nat) (l : List XReq) : (setReqs s k r l).streams = s.streams := State.streams_of_tiles _ _
@[simp] theorem setReqs_ports (k r : Nat) (l : List XReq) : (setReqs s k r l).ports = s.ports := State.ports_of_tiles _ _
@[simp] theorem setReqs_dom (k r : Nat) (l : List XReq) : (setReqs s k r l).dom = s.dom := State.dom_of_tiles _ _
@[simp] theorem setReqs_cocoons (k r : Nat) (l : List XReq) : (setReqs s k r l).cocoons = s.cocoons := State.cocoons_of_tiles _ _

/-! `present` changes tiles only. -/

@[simp] theorem present_pending (k r : Nat) (x : XReq) : (present s k r x).pending = s.pending := State.pending_of_tiles _ _
@[simp] theorem present_tc (k r : Nat) (x : XReq) : (present s k r x).tc = s.tc := State.tc_of_tiles _ _
@[simp] theorem present_free (k r : Nat) (x : XReq) : (present s k r x).free = s.free := State.free_of_tiles _ _
@[simp] theorem present_rdata (k r : Nat) (x : XReq) : (present s k r x).rdata = s.rdata := State.rdata_of_tiles _ _
@[simp] theorem present_bus (k r : Nat) (x : XReq) : (present s k r x).bus = s.bus := State.bus_of_tiles _ _
@[simp] theorem present_csr (k r : Nat) (x : XReq) : (present s k r x).csr = s.csr := State.csr_of_tiles _ _
@[simp] theorem present_clusters (k r : Nat) (x : XReq) : (present s k r x).clusters = s.clusters := State.clusters_of_tiles _ _
@[simp] theorem present_fields (k r : Nat) (x : XReq) : (present s k r x).fields = s.fields := State.fields_of_tiles _ _
@[simp] theorem present_lifeT (k r : Nat) (x : XReq) : (present s k r x).lifeT = s.lifeT := State.lifeT_of_tiles _ _
@[simp] theorem present_lifeF (k r : Nat) (x : XReq) : (present s k r x).lifeF = s.lifeF := State.lifeF_of_tiles _ _
@[simp] theorem present_scratch (k r : Nat) (x : XReq) : (present s k r x).scratch = s.scratch := State.scratch_of_tiles _ _
@[simp] theorem present_badPar (k r : Nat) (x : XReq) : (present s k r x).badPar = s.badPar := State.badPar_of_tiles _ _
@[simp] theorem present_poisonRow (k r : Nat) (x : XReq) : (present s k r x).poisonRow = s.poisonRow := State.poisonRow_of_tiles _ _
@[simp] theorem present_firn (k r : Nat) (x : XReq) : (present s k r x).firn = s.firn := State.firn_of_tiles _ _
@[simp] theorem present_firnPoison (k r : Nat) (x : XReq) : (present s k r x).firnPoison = s.firnPoison := State.firnPoison_of_tiles _ _
@[simp] theorem present_firnQ (k r : Nat) (x : XReq) : (present s k r x).firnQ = s.firnQ := State.firnQ_of_tiles _ _
@[simp] theorem present_stepFail (k r : Nat) (x : XReq) : (present s k r x).stepFail = s.stepFail := State.stepFail_of_tiles _ _
@[simp] theorem present_dep (k r : Nat) (x : XReq) : (present s k r x).dep = s.dep := State.dep_of_tiles _ _
@[simp] theorem present_beats (k r : Nat) (x : XReq) : (present s k r x).beats = s.beats := State.beats_of_tiles _ _
@[simp] theorem present_evc (k r : Nat) (x : XReq) : (present s k r x).evc = s.evc := State.evc_of_tiles _ _
@[simp] theorem present_power (k r : Nat) (x : XReq) : (present s k r x).power = s.power := State.power_of_tiles _ _
@[simp] theorem present_thermal (k r : Nat) (x : XReq) : (present s k r x).thermal = s.thermal := State.thermal_of_tiles _ _
@[simp] theorem present_clocks (k r : Nat) (x : XReq) : (present s k r x).clocks = s.clocks := State.clocks_of_tiles _ _
@[simp] theorem present_steward (k r : Nat) (x : XReq) : (present s k r x).steward = s.steward := State.steward_of_tiles _ _
@[simp] theorem present_i3c (k r : Nat) (x : XReq) : (present s k r x).i3c = s.i3c := State.i3c_of_tiles _ _
@[simp] theorem present_jtag (k r : Nat) (x : XReq) : (present s k r x).jtag = s.jtag := State.jtag_of_tiles _ _
@[simp] theorem present_load (k r : Nat) (x : XReq) : (present s k r x).load = s.load := State.load_of_tiles _ _
@[simp] theorem present_exch (k r : Nat) (x : XReq) : (present s k r x).exch = s.exch := State.exch_of_tiles _ _
@[simp] theorem present_hinge (k r : Nat) (x : XReq) : (present s k r x).hinge = s.hinge := State.hinge_of_tiles _ _
@[simp] theorem present_edge (k r : Nat) (x : XReq) : (present s k r x).edge = s.edge := State.edge_of_tiles _ _
@[simp] theorem present_streams (k r : Nat) (x : XReq) : (present s k r x).streams = s.streams := State.streams_of_tiles _ _
@[simp] theorem present_ports (k r : Nat) (x : XReq) : (present s k r x).ports = s.ports := State.ports_of_tiles _ _
@[simp] theorem present_dom (k r : Nat) (x : XReq) : (present s k r x).dom = s.dom := State.dom_of_tiles _ _
@[simp] theorem present_cocoons (k r : Nat) (x : XReq) : (present s k r x).cocoons = s.cocoons := State.cocoons_of_tiles _ _

/-! `event` changes tiles only. -/

@[simp] theorem event_pending (k c e : Nat) : (event s k c e).pending = s.pending := State.pending_of_tiles _ _
@[simp] theorem event_tc (k c e : Nat) : (event s k c e).tc = s.tc := State.tc_of_tiles _ _
@[simp] theorem event_free (k c e : Nat) : (event s k c e).free = s.free := State.free_of_tiles _ _
@[simp] theorem event_rdata (k c e : Nat) : (event s k c e).rdata = s.rdata := State.rdata_of_tiles _ _
@[simp] theorem event_bus (k c e : Nat) : (event s k c e).bus = s.bus := State.bus_of_tiles _ _
@[simp] theorem event_csr (k c e : Nat) : (event s k c e).csr = s.csr := State.csr_of_tiles _ _
@[simp] theorem event_clusters (k c e : Nat) : (event s k c e).clusters = s.clusters := State.clusters_of_tiles _ _
@[simp] theorem event_fields (k c e : Nat) : (event s k c e).fields = s.fields := State.fields_of_tiles _ _
@[simp] theorem event_lifeT (k c e : Nat) : (event s k c e).lifeT = s.lifeT := State.lifeT_of_tiles _ _
@[simp] theorem event_lifeF (k c e : Nat) : (event s k c e).lifeF = s.lifeF := State.lifeF_of_tiles _ _
@[simp] theorem event_scratch (k c e : Nat) : (event s k c e).scratch = s.scratch := State.scratch_of_tiles _ _
@[simp] theorem event_badPar (k c e : Nat) : (event s k c e).badPar = s.badPar := State.badPar_of_tiles _ _
@[simp] theorem event_poisonRow (k c e : Nat) : (event s k c e).poisonRow = s.poisonRow := State.poisonRow_of_tiles _ _
@[simp] theorem event_firn (k c e : Nat) : (event s k c e).firn = s.firn := State.firn_of_tiles _ _
@[simp] theorem event_firnPoison (k c e : Nat) : (event s k c e).firnPoison = s.firnPoison := State.firnPoison_of_tiles _ _
@[simp] theorem event_firnQ (k c e : Nat) : (event s k c e).firnQ = s.firnQ := State.firnQ_of_tiles _ _
@[simp] theorem event_stepFail (k c e : Nat) : (event s k c e).stepFail = s.stepFail := State.stepFail_of_tiles _ _
@[simp] theorem event_dep (k c e : Nat) : (event s k c e).dep = s.dep := State.dep_of_tiles _ _
@[simp] theorem event_beats (k c e : Nat) : (event s k c e).beats = s.beats := State.beats_of_tiles _ _
@[simp] theorem event_evc (k c e : Nat) : (event s k c e).evc = s.evc := State.evc_of_tiles _ _
@[simp] theorem event_power (k c e : Nat) : (event s k c e).power = s.power := State.power_of_tiles _ _
@[simp] theorem event_thermal (k c e : Nat) : (event s k c e).thermal = s.thermal := State.thermal_of_tiles _ _
@[simp] theorem event_clocks (k c e : Nat) : (event s k c e).clocks = s.clocks := State.clocks_of_tiles _ _
@[simp] theorem event_steward (k c e : Nat) : (event s k c e).steward = s.steward := State.steward_of_tiles _ _
@[simp] theorem event_i3c (k c e : Nat) : (event s k c e).i3c = s.i3c := State.i3c_of_tiles _ _
@[simp] theorem event_jtag (k c e : Nat) : (event s k c e).jtag = s.jtag := State.jtag_of_tiles _ _
@[simp] theorem event_load (k c e : Nat) : (event s k c e).load = s.load := State.load_of_tiles _ _
@[simp] theorem event_exch (k c e : Nat) : (event s k c e).exch = s.exch := State.exch_of_tiles _ _
@[simp] theorem event_hinge (k c e : Nat) : (event s k c e).hinge = s.hinge := State.hinge_of_tiles _ _
@[simp] theorem event_edge (k c e : Nat) : (event s k c e).edge = s.edge := State.edge_of_tiles _ _
@[simp] theorem event_streams (k c e : Nat) : (event s k c e).streams = s.streams := State.streams_of_tiles _ _
@[simp] theorem event_ports (k c e : Nat) : (event s k c e).ports = s.ports := State.ports_of_tiles _ _
@[simp] theorem event_dom (k c e : Nat) : (event s k c e).dom = s.dom := State.dom_of_tiles _ _
@[simp] theorem event_cocoons (k c e : Nat) : (event s k c e).cocoons = s.cocoons := State.cocoons_of_tiles _ _

/-! `setIb` changes tiles only. -/

@[simp] theorem setIb_pending (k pc : Nat) (v : Word) (bad : Bool) : (setIb s k pc v bad).pending = s.pending := State.pending_of_tiles _ _
@[simp] theorem setIb_tc (k pc : Nat) (v : Word) (bad : Bool) : (setIb s k pc v bad).tc = s.tc := State.tc_of_tiles _ _
@[simp] theorem setIb_free (k pc : Nat) (v : Word) (bad : Bool) : (setIb s k pc v bad).free = s.free := State.free_of_tiles _ _
@[simp] theorem setIb_rdata (k pc : Nat) (v : Word) (bad : Bool) : (setIb s k pc v bad).rdata = s.rdata := State.rdata_of_tiles _ _
@[simp] theorem setIb_bus (k pc : Nat) (v : Word) (bad : Bool) : (setIb s k pc v bad).bus = s.bus := State.bus_of_tiles _ _
@[simp] theorem setIb_csr (k pc : Nat) (v : Word) (bad : Bool) : (setIb s k pc v bad).csr = s.csr := State.csr_of_tiles _ _
@[simp] theorem setIb_clusters (k pc : Nat) (v : Word) (bad : Bool) : (setIb s k pc v bad).clusters = s.clusters := State.clusters_of_tiles _ _
@[simp] theorem setIb_fields (k pc : Nat) (v : Word) (bad : Bool) : (setIb s k pc v bad).fields = s.fields := State.fields_of_tiles _ _
@[simp] theorem setIb_lifeT (k pc : Nat) (v : Word) (bad : Bool) : (setIb s k pc v bad).lifeT = s.lifeT := State.lifeT_of_tiles _ _
@[simp] theorem setIb_lifeF (k pc : Nat) (v : Word) (bad : Bool) : (setIb s k pc v bad).lifeF = s.lifeF := State.lifeF_of_tiles _ _
@[simp] theorem setIb_scratch (k pc : Nat) (v : Word) (bad : Bool) : (setIb s k pc v bad).scratch = s.scratch := State.scratch_of_tiles _ _
@[simp] theorem setIb_badPar (k pc : Nat) (v : Word) (bad : Bool) : (setIb s k pc v bad).badPar = s.badPar := State.badPar_of_tiles _ _
@[simp] theorem setIb_poisonRow (k pc : Nat) (v : Word) (bad : Bool) : (setIb s k pc v bad).poisonRow = s.poisonRow := State.poisonRow_of_tiles _ _
@[simp] theorem setIb_firn (k pc : Nat) (v : Word) (bad : Bool) : (setIb s k pc v bad).firn = s.firn := State.firn_of_tiles _ _
@[simp] theorem setIb_firnPoison (k pc : Nat) (v : Word) (bad : Bool) : (setIb s k pc v bad).firnPoison = s.firnPoison := State.firnPoison_of_tiles _ _
@[simp] theorem setIb_firnQ (k pc : Nat) (v : Word) (bad : Bool) : (setIb s k pc v bad).firnQ = s.firnQ := State.firnQ_of_tiles _ _
@[simp] theorem setIb_stepFail (k pc : Nat) (v : Word) (bad : Bool) : (setIb s k pc v bad).stepFail = s.stepFail := State.stepFail_of_tiles _ _
@[simp] theorem setIb_dep (k pc : Nat) (v : Word) (bad : Bool) : (setIb s k pc v bad).dep = s.dep := State.dep_of_tiles _ _
@[simp] theorem setIb_beats (k pc : Nat) (v : Word) (bad : Bool) : (setIb s k pc v bad).beats = s.beats := State.beats_of_tiles _ _
@[simp] theorem setIb_evc (k pc : Nat) (v : Word) (bad : Bool) : (setIb s k pc v bad).evc = s.evc := State.evc_of_tiles _ _
@[simp] theorem setIb_power (k pc : Nat) (v : Word) (bad : Bool) : (setIb s k pc v bad).power = s.power := State.power_of_tiles _ _
@[simp] theorem setIb_thermal (k pc : Nat) (v : Word) (bad : Bool) : (setIb s k pc v bad).thermal = s.thermal := State.thermal_of_tiles _ _
@[simp] theorem setIb_clocks (k pc : Nat) (v : Word) (bad : Bool) : (setIb s k pc v bad).clocks = s.clocks := State.clocks_of_tiles _ _
@[simp] theorem setIb_steward (k pc : Nat) (v : Word) (bad : Bool) : (setIb s k pc v bad).steward = s.steward := State.steward_of_tiles _ _
@[simp] theorem setIb_i3c (k pc : Nat) (v : Word) (bad : Bool) : (setIb s k pc v bad).i3c = s.i3c := State.i3c_of_tiles _ _
@[simp] theorem setIb_jtag (k pc : Nat) (v : Word) (bad : Bool) : (setIb s k pc v bad).jtag = s.jtag := State.jtag_of_tiles _ _
@[simp] theorem setIb_load (k pc : Nat) (v : Word) (bad : Bool) : (setIb s k pc v bad).load = s.load := State.load_of_tiles _ _
@[simp] theorem setIb_exch (k pc : Nat) (v : Word) (bad : Bool) : (setIb s k pc v bad).exch = s.exch := State.exch_of_tiles _ _
@[simp] theorem setIb_hinge (k pc : Nat) (v : Word) (bad : Bool) : (setIb s k pc v bad).hinge = s.hinge := State.hinge_of_tiles _ _
@[simp] theorem setIb_edge (k pc : Nat) (v : Word) (bad : Bool) : (setIb s k pc v bad).edge = s.edge := State.edge_of_tiles _ _
@[simp] theorem setIb_streams (k pc : Nat) (v : Word) (bad : Bool) : (setIb s k pc v bad).streams = s.streams := State.streams_of_tiles _ _
@[simp] theorem setIb_ports (k pc : Nat) (v : Word) (bad : Bool) : (setIb s k pc v bad).ports = s.ports := State.ports_of_tiles _ _
@[simp] theorem setIb_dom (k pc : Nat) (v : Word) (bad : Bool) : (setIb s k pc v bad).dom = s.dom := State.dom_of_tiles _ _
@[simp] theorem setIb_cocoons (k pc : Nat) (v : Word) (bad : Bool) : (setIb s k pc v bad).cocoons = s.cocoons := State.cocoons_of_tiles _ _

/-! `rowDone` changes tiles only. -/

@[simp] theorem rowDone_pending (k n a : Nat) : (rowDone s k n a).pending = s.pending := State.pending_of_tiles _ _
@[simp] theorem rowDone_tc (k n a : Nat) : (rowDone s k n a).tc = s.tc := State.tc_of_tiles _ _
@[simp] theorem rowDone_free (k n a : Nat) : (rowDone s k n a).free = s.free := State.free_of_tiles _ _
@[simp] theorem rowDone_rdata (k n a : Nat) : (rowDone s k n a).rdata = s.rdata := State.rdata_of_tiles _ _
@[simp] theorem rowDone_bus (k n a : Nat) : (rowDone s k n a).bus = s.bus := State.bus_of_tiles _ _
@[simp] theorem rowDone_csr (k n a : Nat) : (rowDone s k n a).csr = s.csr := State.csr_of_tiles _ _
@[simp] theorem rowDone_clusters (k n a : Nat) : (rowDone s k n a).clusters = s.clusters := State.clusters_of_tiles _ _
@[simp] theorem rowDone_fields (k n a : Nat) : (rowDone s k n a).fields = s.fields := State.fields_of_tiles _ _
@[simp] theorem rowDone_lifeT (k n a : Nat) : (rowDone s k n a).lifeT = s.lifeT := State.lifeT_of_tiles _ _
@[simp] theorem rowDone_lifeF (k n a : Nat) : (rowDone s k n a).lifeF = s.lifeF := State.lifeF_of_tiles _ _
@[simp] theorem rowDone_scratch (k n a : Nat) : (rowDone s k n a).scratch = s.scratch := State.scratch_of_tiles _ _
@[simp] theorem rowDone_badPar (k n a : Nat) : (rowDone s k n a).badPar = s.badPar := State.badPar_of_tiles _ _
@[simp] theorem rowDone_poisonRow (k n a : Nat) : (rowDone s k n a).poisonRow = s.poisonRow := State.poisonRow_of_tiles _ _
@[simp] theorem rowDone_firn (k n a : Nat) : (rowDone s k n a).firn = s.firn := State.firn_of_tiles _ _
@[simp] theorem rowDone_firnPoison (k n a : Nat) : (rowDone s k n a).firnPoison = s.firnPoison := State.firnPoison_of_tiles _ _
@[simp] theorem rowDone_firnQ (k n a : Nat) : (rowDone s k n a).firnQ = s.firnQ := State.firnQ_of_tiles _ _
@[simp] theorem rowDone_stepFail (k n a : Nat) : (rowDone s k n a).stepFail = s.stepFail := State.stepFail_of_tiles _ _
@[simp] theorem rowDone_dep (k n a : Nat) : (rowDone s k n a).dep = s.dep := State.dep_of_tiles _ _
@[simp] theorem rowDone_beats (k n a : Nat) : (rowDone s k n a).beats = s.beats := State.beats_of_tiles _ _
@[simp] theorem rowDone_evc (k n a : Nat) : (rowDone s k n a).evc = s.evc := State.evc_of_tiles _ _
@[simp] theorem rowDone_power (k n a : Nat) : (rowDone s k n a).power = s.power := State.power_of_tiles _ _
@[simp] theorem rowDone_thermal (k n a : Nat) : (rowDone s k n a).thermal = s.thermal := State.thermal_of_tiles _ _
@[simp] theorem rowDone_clocks (k n a : Nat) : (rowDone s k n a).clocks = s.clocks := State.clocks_of_tiles _ _
@[simp] theorem rowDone_steward (k n a : Nat) : (rowDone s k n a).steward = s.steward := State.steward_of_tiles _ _
@[simp] theorem rowDone_i3c (k n a : Nat) : (rowDone s k n a).i3c = s.i3c := State.i3c_of_tiles _ _
@[simp] theorem rowDone_jtag (k n a : Nat) : (rowDone s k n a).jtag = s.jtag := State.jtag_of_tiles _ _
@[simp] theorem rowDone_load (k n a : Nat) : (rowDone s k n a).load = s.load := State.load_of_tiles _ _
@[simp] theorem rowDone_exch (k n a : Nat) : (rowDone s k n a).exch = s.exch := State.exch_of_tiles _ _
@[simp] theorem rowDone_hinge (k n a : Nat) : (rowDone s k n a).hinge = s.hinge := State.hinge_of_tiles _ _
@[simp] theorem rowDone_edge (k n a : Nat) : (rowDone s k n a).edge = s.edge := State.edge_of_tiles _ _
@[simp] theorem rowDone_streams (k n a : Nat) : (rowDone s k n a).streams = s.streams := State.streams_of_tiles _ _
@[simp] theorem rowDone_ports (k n a : Nat) : (rowDone s k n a).ports = s.ports := State.ports_of_tiles _ _
@[simp] theorem rowDone_dom (k n a : Nat) : (rowDone s k n a).dom = s.dom := State.dom_of_tiles _ _
@[simp] theorem rowDone_cocoons (k n a : Nat) : (rowDone s k n a).cocoons = s.cocoons := State.cocoons_of_tiles _ _

/-! `storeDone` changes tiles only. -/

@[simp] theorem storeDone_pending (k n bp : Nat) : (storeDone s k n bp).pending = s.pending := State.pending_of_tiles _ _
@[simp] theorem storeDone_tc (k n bp : Nat) : (storeDone s k n bp).tc = s.tc := State.tc_of_tiles _ _
@[simp] theorem storeDone_free (k n bp : Nat) : (storeDone s k n bp).free = s.free := State.free_of_tiles _ _
@[simp] theorem storeDone_rdata (k n bp : Nat) : (storeDone s k n bp).rdata = s.rdata := State.rdata_of_tiles _ _
@[simp] theorem storeDone_bus (k n bp : Nat) : (storeDone s k n bp).bus = s.bus := State.bus_of_tiles _ _
@[simp] theorem storeDone_csr (k n bp : Nat) : (storeDone s k n bp).csr = s.csr := State.csr_of_tiles _ _
@[simp] theorem storeDone_clusters (k n bp : Nat) : (storeDone s k n bp).clusters = s.clusters := State.clusters_of_tiles _ _
@[simp] theorem storeDone_fields (k n bp : Nat) : (storeDone s k n bp).fields = s.fields := State.fields_of_tiles _ _
@[simp] theorem storeDone_lifeT (k n bp : Nat) : (storeDone s k n bp).lifeT = s.lifeT := State.lifeT_of_tiles _ _
@[simp] theorem storeDone_lifeF (k n bp : Nat) : (storeDone s k n bp).lifeF = s.lifeF := State.lifeF_of_tiles _ _
@[simp] theorem storeDone_scratch (k n bp : Nat) : (storeDone s k n bp).scratch = s.scratch := State.scratch_of_tiles _ _
@[simp] theorem storeDone_badPar (k n bp : Nat) : (storeDone s k n bp).badPar = s.badPar := State.badPar_of_tiles _ _
@[simp] theorem storeDone_poisonRow (k n bp : Nat) : (storeDone s k n bp).poisonRow = s.poisonRow := State.poisonRow_of_tiles _ _
@[simp] theorem storeDone_firn (k n bp : Nat) : (storeDone s k n bp).firn = s.firn := State.firn_of_tiles _ _
@[simp] theorem storeDone_firnPoison (k n bp : Nat) : (storeDone s k n bp).firnPoison = s.firnPoison := State.firnPoison_of_tiles _ _
@[simp] theorem storeDone_firnQ (k n bp : Nat) : (storeDone s k n bp).firnQ = s.firnQ := State.firnQ_of_tiles _ _
@[simp] theorem storeDone_stepFail (k n bp : Nat) : (storeDone s k n bp).stepFail = s.stepFail := State.stepFail_of_tiles _ _
@[simp] theorem storeDone_dep (k n bp : Nat) : (storeDone s k n bp).dep = s.dep := State.dep_of_tiles _ _
@[simp] theorem storeDone_beats (k n bp : Nat) : (storeDone s k n bp).beats = s.beats := State.beats_of_tiles _ _
@[simp] theorem storeDone_evc (k n bp : Nat) : (storeDone s k n bp).evc = s.evc := State.evc_of_tiles _ _
@[simp] theorem storeDone_power (k n bp : Nat) : (storeDone s k n bp).power = s.power := State.power_of_tiles _ _
@[simp] theorem storeDone_thermal (k n bp : Nat) : (storeDone s k n bp).thermal = s.thermal := State.thermal_of_tiles _ _
@[simp] theorem storeDone_clocks (k n bp : Nat) : (storeDone s k n bp).clocks = s.clocks := State.clocks_of_tiles _ _
@[simp] theorem storeDone_steward (k n bp : Nat) : (storeDone s k n bp).steward = s.steward := State.steward_of_tiles _ _
@[simp] theorem storeDone_i3c (k n bp : Nat) : (storeDone s k n bp).i3c = s.i3c := State.i3c_of_tiles _ _
@[simp] theorem storeDone_jtag (k n bp : Nat) : (storeDone s k n bp).jtag = s.jtag := State.jtag_of_tiles _ _
@[simp] theorem storeDone_load (k n bp : Nat) : (storeDone s k n bp).load = s.load := State.load_of_tiles _ _
@[simp] theorem storeDone_exch (k n bp : Nat) : (storeDone s k n bp).exch = s.exch := State.exch_of_tiles _ _
@[simp] theorem storeDone_hinge (k n bp : Nat) : (storeDone s k n bp).hinge = s.hinge := State.hinge_of_tiles _ _
@[simp] theorem storeDone_edge (k n bp : Nat) : (storeDone s k n bp).edge = s.edge := State.edge_of_tiles _ _
@[simp] theorem storeDone_streams (k n bp : Nat) : (storeDone s k n bp).streams = s.streams := State.streams_of_tiles _ _
@[simp] theorem storeDone_ports (k n bp : Nat) : (storeDone s k n bp).ports = s.ports := State.ports_of_tiles _ _
@[simp] theorem storeDone_dom (k n bp : Nat) : (storeDone s k n bp).dom = s.dom := State.dom_of_tiles _ _
@[simp] theorem storeDone_cocoons (k n bp : Nat) : (storeDone s k n bp).cocoons = s.cocoons := State.cocoons_of_tiles _ _

/-! `setCluster` changes clusters only. -/

@[simp] theorem setCluster_pending (c : Nat) (v : Cluster) : (setCluster s c v).pending = s.pending := State.pending_of_clusters _ _
@[simp] theorem setCluster_tc (c : Nat) (v : Cluster) : (setCluster s c v).tc = s.tc := State.tc_of_clusters _ _
@[simp] theorem setCluster_free (c : Nat) (v : Cluster) : (setCluster s c v).free = s.free := State.free_of_clusters _ _
@[simp] theorem setCluster_rdata (c : Nat) (v : Cluster) : (setCluster s c v).rdata = s.rdata := State.rdata_of_clusters _ _
@[simp] theorem setCluster_bus (c : Nat) (v : Cluster) : (setCluster s c v).bus = s.bus := State.bus_of_clusters _ _
@[simp] theorem setCluster_csr (c : Nat) (v : Cluster) : (setCluster s c v).csr = s.csr := State.csr_of_clusters _ _
@[simp] theorem setCluster_tiles (c : Nat) (v : Cluster) : (setCluster s c v).tiles = s.tiles := State.tiles_of_clusters _ _
@[simp] theorem setCluster_fields (c : Nat) (v : Cluster) : (setCluster s c v).fields = s.fields := State.fields_of_clusters _ _
@[simp] theorem setCluster_lifeT (c : Nat) (v : Cluster) : (setCluster s c v).lifeT = s.lifeT := State.lifeT_of_clusters _ _
@[simp] theorem setCluster_lifeF (c : Nat) (v : Cluster) : (setCluster s c v).lifeF = s.lifeF := State.lifeF_of_clusters _ _
@[simp] theorem setCluster_scratch (c : Nat) (v : Cluster) : (setCluster s c v).scratch = s.scratch := State.scratch_of_clusters _ _
@[simp] theorem setCluster_badPar (c : Nat) (v : Cluster) : (setCluster s c v).badPar = s.badPar := State.badPar_of_clusters _ _
@[simp] theorem setCluster_poisonRow (c : Nat) (v : Cluster) : (setCluster s c v).poisonRow = s.poisonRow := State.poisonRow_of_clusters _ _
@[simp] theorem setCluster_firn (c : Nat) (v : Cluster) : (setCluster s c v).firn = s.firn := State.firn_of_clusters _ _
@[simp] theorem setCluster_firnPoison (c : Nat) (v : Cluster) : (setCluster s c v).firnPoison = s.firnPoison := State.firnPoison_of_clusters _ _
@[simp] theorem setCluster_firnQ (c : Nat) (v : Cluster) : (setCluster s c v).firnQ = s.firnQ := State.firnQ_of_clusters _ _
@[simp] theorem setCluster_stepFail (c : Nat) (v : Cluster) : (setCluster s c v).stepFail = s.stepFail := State.stepFail_of_clusters _ _
@[simp] theorem setCluster_dep (c : Nat) (v : Cluster) : (setCluster s c v).dep = s.dep := State.dep_of_clusters _ _
@[simp] theorem setCluster_beats (c : Nat) (v : Cluster) : (setCluster s c v).beats = s.beats := State.beats_of_clusters _ _
@[simp] theorem setCluster_evc (c : Nat) (v : Cluster) : (setCluster s c v).evc = s.evc := State.evc_of_clusters _ _
@[simp] theorem setCluster_power (c : Nat) (v : Cluster) : (setCluster s c v).power = s.power := State.power_of_clusters _ _
@[simp] theorem setCluster_thermal (c : Nat) (v : Cluster) : (setCluster s c v).thermal = s.thermal := State.thermal_of_clusters _ _
@[simp] theorem setCluster_clocks (c : Nat) (v : Cluster) : (setCluster s c v).clocks = s.clocks := State.clocks_of_clusters _ _
@[simp] theorem setCluster_steward (c : Nat) (v : Cluster) : (setCluster s c v).steward = s.steward := State.steward_of_clusters _ _
@[simp] theorem setCluster_i3c (c : Nat) (v : Cluster) : (setCluster s c v).i3c = s.i3c := State.i3c_of_clusters _ _
@[simp] theorem setCluster_jtag (c : Nat) (v : Cluster) : (setCluster s c v).jtag = s.jtag := State.jtag_of_clusters _ _
@[simp] theorem setCluster_load (c : Nat) (v : Cluster) : (setCluster s c v).load = s.load := State.load_of_clusters _ _
@[simp] theorem setCluster_exch (c : Nat) (v : Cluster) : (setCluster s c v).exch = s.exch := State.exch_of_clusters _ _
@[simp] theorem setCluster_hinge (c : Nat) (v : Cluster) : (setCluster s c v).hinge = s.hinge := State.hinge_of_clusters _ _
@[simp] theorem setCluster_edge (c : Nat) (v : Cluster) : (setCluster s c v).edge = s.edge := State.edge_of_clusters _ _
@[simp] theorem setCluster_streams (c : Nat) (v : Cluster) : (setCluster s c v).streams = s.streams := State.streams_of_clusters _ _
@[simp] theorem setCluster_ports (c : Nat) (v : Cluster) : (setCluster s c v).ports = s.ports := State.ports_of_clusters _ _
@[simp] theorem setCluster_dom (c : Nat) (v : Cluster) : (setCluster s c v).dom = s.dom := State.dom_of_clusters _ _
@[simp] theorem setCluster_cocoons (c : Nat) (v : Cluster) : (setCluster s c v).cocoons = s.cocoons := State.cocoons_of_clusters _ _

/-! `modCluster` changes clusters only. -/

@[simp] theorem modCluster_pending (c : Nat) (g : Cluster → Cluster) : (modCluster s c g).pending = s.pending := State.pending_of_clusters _ _
@[simp] theorem modCluster_tc (c : Nat) (g : Cluster → Cluster) : (modCluster s c g).tc = s.tc := State.tc_of_clusters _ _
@[simp] theorem modCluster_free (c : Nat) (g : Cluster → Cluster) : (modCluster s c g).free = s.free := State.free_of_clusters _ _
@[simp] theorem modCluster_rdata (c : Nat) (g : Cluster → Cluster) : (modCluster s c g).rdata = s.rdata := State.rdata_of_clusters _ _
@[simp] theorem modCluster_bus (c : Nat) (g : Cluster → Cluster) : (modCluster s c g).bus = s.bus := State.bus_of_clusters _ _
@[simp] theorem modCluster_csr (c : Nat) (g : Cluster → Cluster) : (modCluster s c g).csr = s.csr := State.csr_of_clusters _ _
@[simp] theorem modCluster_tiles (c : Nat) (g : Cluster → Cluster) : (modCluster s c g).tiles = s.tiles := State.tiles_of_clusters _ _
@[simp] theorem modCluster_fields (c : Nat) (g : Cluster → Cluster) : (modCluster s c g).fields = s.fields := State.fields_of_clusters _ _
@[simp] theorem modCluster_lifeT (c : Nat) (g : Cluster → Cluster) : (modCluster s c g).lifeT = s.lifeT := State.lifeT_of_clusters _ _
@[simp] theorem modCluster_lifeF (c : Nat) (g : Cluster → Cluster) : (modCluster s c g).lifeF = s.lifeF := State.lifeF_of_clusters _ _
@[simp] theorem modCluster_scratch (c : Nat) (g : Cluster → Cluster) : (modCluster s c g).scratch = s.scratch := State.scratch_of_clusters _ _
@[simp] theorem modCluster_badPar (c : Nat) (g : Cluster → Cluster) : (modCluster s c g).badPar = s.badPar := State.badPar_of_clusters _ _
@[simp] theorem modCluster_poisonRow (c : Nat) (g : Cluster → Cluster) : (modCluster s c g).poisonRow = s.poisonRow := State.poisonRow_of_clusters _ _
@[simp] theorem modCluster_firn (c : Nat) (g : Cluster → Cluster) : (modCluster s c g).firn = s.firn := State.firn_of_clusters _ _
@[simp] theorem modCluster_firnPoison (c : Nat) (g : Cluster → Cluster) : (modCluster s c g).firnPoison = s.firnPoison := State.firnPoison_of_clusters _ _
@[simp] theorem modCluster_firnQ (c : Nat) (g : Cluster → Cluster) : (modCluster s c g).firnQ = s.firnQ := State.firnQ_of_clusters _ _
@[simp] theorem modCluster_stepFail (c : Nat) (g : Cluster → Cluster) : (modCluster s c g).stepFail = s.stepFail := State.stepFail_of_clusters _ _
@[simp] theorem modCluster_dep (c : Nat) (g : Cluster → Cluster) : (modCluster s c g).dep = s.dep := State.dep_of_clusters _ _
@[simp] theorem modCluster_beats (c : Nat) (g : Cluster → Cluster) : (modCluster s c g).beats = s.beats := State.beats_of_clusters _ _
@[simp] theorem modCluster_evc (c : Nat) (g : Cluster → Cluster) : (modCluster s c g).evc = s.evc := State.evc_of_clusters _ _
@[simp] theorem modCluster_power (c : Nat) (g : Cluster → Cluster) : (modCluster s c g).power = s.power := State.power_of_clusters _ _
@[simp] theorem modCluster_thermal (c : Nat) (g : Cluster → Cluster) : (modCluster s c g).thermal = s.thermal := State.thermal_of_clusters _ _
@[simp] theorem modCluster_clocks (c : Nat) (g : Cluster → Cluster) : (modCluster s c g).clocks = s.clocks := State.clocks_of_clusters _ _
@[simp] theorem modCluster_steward (c : Nat) (g : Cluster → Cluster) : (modCluster s c g).steward = s.steward := State.steward_of_clusters _ _
@[simp] theorem modCluster_i3c (c : Nat) (g : Cluster → Cluster) : (modCluster s c g).i3c = s.i3c := State.i3c_of_clusters _ _
@[simp] theorem modCluster_jtag (c : Nat) (g : Cluster → Cluster) : (modCluster s c g).jtag = s.jtag := State.jtag_of_clusters _ _
@[simp] theorem modCluster_load (c : Nat) (g : Cluster → Cluster) : (modCluster s c g).load = s.load := State.load_of_clusters _ _
@[simp] theorem modCluster_exch (c : Nat) (g : Cluster → Cluster) : (modCluster s c g).exch = s.exch := State.exch_of_clusters _ _
@[simp] theorem modCluster_hinge (c : Nat) (g : Cluster → Cluster) : (modCluster s c g).hinge = s.hinge := State.hinge_of_clusters _ _
@[simp] theorem modCluster_edge (c : Nat) (g : Cluster → Cluster) : (modCluster s c g).edge = s.edge := State.edge_of_clusters _ _
@[simp] theorem modCluster_streams (c : Nat) (g : Cluster → Cluster) : (modCluster s c g).streams = s.streams := State.streams_of_clusters _ _
@[simp] theorem modCluster_ports (c : Nat) (g : Cluster → Cluster) : (modCluster s c g).ports = s.ports := State.ports_of_clusters _ _
@[simp] theorem modCluster_dom (c : Nat) (g : Cluster → Cluster) : (modCluster s c g).dom = s.dom := State.dom_of_clusters _ _
@[simp] theorem modCluster_cocoons (c : Nat) (g : Cluster → Cluster) : (modCluster s c g).cocoons = s.cocoons := State.cocoons_of_clusters _ _

/-! `setField` changes fields only. -/

@[simp] theorem setField_pending (f : Nat) (v : Field) : (setField s f v).pending = s.pending := State.pending_of_fields _ _
@[simp] theorem setField_tc (f : Nat) (v : Field) : (setField s f v).tc = s.tc := State.tc_of_fields _ _
@[simp] theorem setField_free (f : Nat) (v : Field) : (setField s f v).free = s.free := State.free_of_fields _ _
@[simp] theorem setField_rdata (f : Nat) (v : Field) : (setField s f v).rdata = s.rdata := State.rdata_of_fields _ _
@[simp] theorem setField_bus (f : Nat) (v : Field) : (setField s f v).bus = s.bus := State.bus_of_fields _ _
@[simp] theorem setField_csr (f : Nat) (v : Field) : (setField s f v).csr = s.csr := State.csr_of_fields _ _
@[simp] theorem setField_tiles (f : Nat) (v : Field) : (setField s f v).tiles = s.tiles := State.tiles_of_fields _ _
@[simp] theorem setField_clusters (f : Nat) (v : Field) : (setField s f v).clusters = s.clusters := State.clusters_of_fields _ _
@[simp] theorem setField_lifeT (f : Nat) (v : Field) : (setField s f v).lifeT = s.lifeT := State.lifeT_of_fields _ _
@[simp] theorem setField_lifeF (f : Nat) (v : Field) : (setField s f v).lifeF = s.lifeF := State.lifeF_of_fields _ _
@[simp] theorem setField_scratch (f : Nat) (v : Field) : (setField s f v).scratch = s.scratch := State.scratch_of_fields _ _
@[simp] theorem setField_badPar (f : Nat) (v : Field) : (setField s f v).badPar = s.badPar := State.badPar_of_fields _ _
@[simp] theorem setField_poisonRow (f : Nat) (v : Field) : (setField s f v).poisonRow = s.poisonRow := State.poisonRow_of_fields _ _
@[simp] theorem setField_firn (f : Nat) (v : Field) : (setField s f v).firn = s.firn := State.firn_of_fields _ _
@[simp] theorem setField_firnPoison (f : Nat) (v : Field) : (setField s f v).firnPoison = s.firnPoison := State.firnPoison_of_fields _ _
@[simp] theorem setField_firnQ (f : Nat) (v : Field) : (setField s f v).firnQ = s.firnQ := State.firnQ_of_fields _ _
@[simp] theorem setField_stepFail (f : Nat) (v : Field) : (setField s f v).stepFail = s.stepFail := State.stepFail_of_fields _ _
@[simp] theorem setField_dep (f : Nat) (v : Field) : (setField s f v).dep = s.dep := State.dep_of_fields _ _
@[simp] theorem setField_beats (f : Nat) (v : Field) : (setField s f v).beats = s.beats := State.beats_of_fields _ _
@[simp] theorem setField_evc (f : Nat) (v : Field) : (setField s f v).evc = s.evc := State.evc_of_fields _ _
@[simp] theorem setField_power (f : Nat) (v : Field) : (setField s f v).power = s.power := State.power_of_fields _ _
@[simp] theorem setField_thermal (f : Nat) (v : Field) : (setField s f v).thermal = s.thermal := State.thermal_of_fields _ _
@[simp] theorem setField_clocks (f : Nat) (v : Field) : (setField s f v).clocks = s.clocks := State.clocks_of_fields _ _
@[simp] theorem setField_steward (f : Nat) (v : Field) : (setField s f v).steward = s.steward := State.steward_of_fields _ _
@[simp] theorem setField_i3c (f : Nat) (v : Field) : (setField s f v).i3c = s.i3c := State.i3c_of_fields _ _
@[simp] theorem setField_jtag (f : Nat) (v : Field) : (setField s f v).jtag = s.jtag := State.jtag_of_fields _ _
@[simp] theorem setField_load (f : Nat) (v : Field) : (setField s f v).load = s.load := State.load_of_fields _ _
@[simp] theorem setField_exch (f : Nat) (v : Field) : (setField s f v).exch = s.exch := State.exch_of_fields _ _
@[simp] theorem setField_hinge (f : Nat) (v : Field) : (setField s f v).hinge = s.hinge := State.hinge_of_fields _ _
@[simp] theorem setField_edge (f : Nat) (v : Field) : (setField s f v).edge = s.edge := State.edge_of_fields _ _
@[simp] theorem setField_streams (f : Nat) (v : Field) : (setField s f v).streams = s.streams := State.streams_of_fields _ _
@[simp] theorem setField_ports (f : Nat) (v : Field) : (setField s f v).ports = s.ports := State.ports_of_fields _ _
@[simp] theorem setField_dom (f : Nat) (v : Field) : (setField s f v).dom = s.dom := State.dom_of_fields _ _
@[simp] theorem setField_cocoons (f : Nat) (v : Field) : (setField s f v).cocoons = s.cocoons := State.cocoons_of_fields _ _

/-! `modField` changes fields only. -/

@[simp] theorem modField_pending (f : Nat) (g : Field → Field) : (modField s f g).pending = s.pending := State.pending_of_fields _ _
@[simp] theorem modField_tc (f : Nat) (g : Field → Field) : (modField s f g).tc = s.tc := State.tc_of_fields _ _
@[simp] theorem modField_free (f : Nat) (g : Field → Field) : (modField s f g).free = s.free := State.free_of_fields _ _
@[simp] theorem modField_rdata (f : Nat) (g : Field → Field) : (modField s f g).rdata = s.rdata := State.rdata_of_fields _ _
@[simp] theorem modField_bus (f : Nat) (g : Field → Field) : (modField s f g).bus = s.bus := State.bus_of_fields _ _
@[simp] theorem modField_csr (f : Nat) (g : Field → Field) : (modField s f g).csr = s.csr := State.csr_of_fields _ _
@[simp] theorem modField_tiles (f : Nat) (g : Field → Field) : (modField s f g).tiles = s.tiles := State.tiles_of_fields _ _
@[simp] theorem modField_clusters (f : Nat) (g : Field → Field) : (modField s f g).clusters = s.clusters := State.clusters_of_fields _ _
@[simp] theorem modField_lifeT (f : Nat) (g : Field → Field) : (modField s f g).lifeT = s.lifeT := State.lifeT_of_fields _ _
@[simp] theorem modField_lifeF (f : Nat) (g : Field → Field) : (modField s f g).lifeF = s.lifeF := State.lifeF_of_fields _ _
@[simp] theorem modField_scratch (f : Nat) (g : Field → Field) : (modField s f g).scratch = s.scratch := State.scratch_of_fields _ _
@[simp] theorem modField_badPar (f : Nat) (g : Field → Field) : (modField s f g).badPar = s.badPar := State.badPar_of_fields _ _
@[simp] theorem modField_poisonRow (f : Nat) (g : Field → Field) : (modField s f g).poisonRow = s.poisonRow := State.poisonRow_of_fields _ _
@[simp] theorem modField_firn (f : Nat) (g : Field → Field) : (modField s f g).firn = s.firn := State.firn_of_fields _ _
@[simp] theorem modField_firnPoison (f : Nat) (g : Field → Field) : (modField s f g).firnPoison = s.firnPoison := State.firnPoison_of_fields _ _
@[simp] theorem modField_firnQ (f : Nat) (g : Field → Field) : (modField s f g).firnQ = s.firnQ := State.firnQ_of_fields _ _
@[simp] theorem modField_stepFail (f : Nat) (g : Field → Field) : (modField s f g).stepFail = s.stepFail := State.stepFail_of_fields _ _
@[simp] theorem modField_dep (f : Nat) (g : Field → Field) : (modField s f g).dep = s.dep := State.dep_of_fields _ _
@[simp] theorem modField_beats (f : Nat) (g : Field → Field) : (modField s f g).beats = s.beats := State.beats_of_fields _ _
@[simp] theorem modField_evc (f : Nat) (g : Field → Field) : (modField s f g).evc = s.evc := State.evc_of_fields _ _
@[simp] theorem modField_power (f : Nat) (g : Field → Field) : (modField s f g).power = s.power := State.power_of_fields _ _
@[simp] theorem modField_thermal (f : Nat) (g : Field → Field) : (modField s f g).thermal = s.thermal := State.thermal_of_fields _ _
@[simp] theorem modField_clocks (f : Nat) (g : Field → Field) : (modField s f g).clocks = s.clocks := State.clocks_of_fields _ _
@[simp] theorem modField_steward (f : Nat) (g : Field → Field) : (modField s f g).steward = s.steward := State.steward_of_fields _ _
@[simp] theorem modField_i3c (f : Nat) (g : Field → Field) : (modField s f g).i3c = s.i3c := State.i3c_of_fields _ _
@[simp] theorem modField_jtag (f : Nat) (g : Field → Field) : (modField s f g).jtag = s.jtag := State.jtag_of_fields _ _
@[simp] theorem modField_load (f : Nat) (g : Field → Field) : (modField s f g).load = s.load := State.load_of_fields _ _
@[simp] theorem modField_exch (f : Nat) (g : Field → Field) : (modField s f g).exch = s.exch := State.exch_of_fields _ _
@[simp] theorem modField_hinge (f : Nat) (g : Field → Field) : (modField s f g).hinge = s.hinge := State.hinge_of_fields _ _
@[simp] theorem modField_edge (f : Nat) (g : Field → Field) : (modField s f g).edge = s.edge := State.edge_of_fields _ _
@[simp] theorem modField_streams (f : Nat) (g : Field → Field) : (modField s f g).streams = s.streams := State.streams_of_fields _ _
@[simp] theorem modField_ports (f : Nat) (g : Field → Field) : (modField s f g).ports = s.ports := State.ports_of_fields _ _
@[simp] theorem modField_dom (f : Nat) (g : Field → Field) : (modField s f g).dom = s.dom := State.dom_of_fields _ _
@[simp] theorem modField_cocoons (f : Nat) (g : Field → Field) : (modField s f g).cocoons = s.cocoons := State.cocoons_of_fields _ _

/-! `setLife` changes lifeT only. -/

@[simp] theorem setLife_pending (k : Nat) (l : LifeSt) : (setLife s k l).pending = s.pending := State.pending_of_lifeT _ _
@[simp] theorem setLife_tc (k : Nat) (l : LifeSt) : (setLife s k l).tc = s.tc := State.tc_of_lifeT _ _
@[simp] theorem setLife_free (k : Nat) (l : LifeSt) : (setLife s k l).free = s.free := State.free_of_lifeT _ _
@[simp] theorem setLife_rdata (k : Nat) (l : LifeSt) : (setLife s k l).rdata = s.rdata := State.rdata_of_lifeT _ _
@[simp] theorem setLife_bus (k : Nat) (l : LifeSt) : (setLife s k l).bus = s.bus := State.bus_of_lifeT _ _
@[simp] theorem setLife_csr (k : Nat) (l : LifeSt) : (setLife s k l).csr = s.csr := State.csr_of_lifeT _ _
@[simp] theorem setLife_tiles (k : Nat) (l : LifeSt) : (setLife s k l).tiles = s.tiles := State.tiles_of_lifeT _ _
@[simp] theorem setLife_clusters (k : Nat) (l : LifeSt) : (setLife s k l).clusters = s.clusters := State.clusters_of_lifeT _ _
@[simp] theorem setLife_fields (k : Nat) (l : LifeSt) : (setLife s k l).fields = s.fields := State.fields_of_lifeT _ _
@[simp] theorem setLife_lifeF (k : Nat) (l : LifeSt) : (setLife s k l).lifeF = s.lifeF := State.lifeF_of_lifeT _ _
@[simp] theorem setLife_scratch (k : Nat) (l : LifeSt) : (setLife s k l).scratch = s.scratch := State.scratch_of_lifeT _ _
@[simp] theorem setLife_badPar (k : Nat) (l : LifeSt) : (setLife s k l).badPar = s.badPar := State.badPar_of_lifeT _ _
@[simp] theorem setLife_poisonRow (k : Nat) (l : LifeSt) : (setLife s k l).poisonRow = s.poisonRow := State.poisonRow_of_lifeT _ _
@[simp] theorem setLife_firn (k : Nat) (l : LifeSt) : (setLife s k l).firn = s.firn := State.firn_of_lifeT _ _
@[simp] theorem setLife_firnPoison (k : Nat) (l : LifeSt) : (setLife s k l).firnPoison = s.firnPoison := State.firnPoison_of_lifeT _ _
@[simp] theorem setLife_firnQ (k : Nat) (l : LifeSt) : (setLife s k l).firnQ = s.firnQ := State.firnQ_of_lifeT _ _
@[simp] theorem setLife_stepFail (k : Nat) (l : LifeSt) : (setLife s k l).stepFail = s.stepFail := State.stepFail_of_lifeT _ _
@[simp] theorem setLife_dep (k : Nat) (l : LifeSt) : (setLife s k l).dep = s.dep := State.dep_of_lifeT _ _
@[simp] theorem setLife_beats (k : Nat) (l : LifeSt) : (setLife s k l).beats = s.beats := State.beats_of_lifeT _ _
@[simp] theorem setLife_evc (k : Nat) (l : LifeSt) : (setLife s k l).evc = s.evc := State.evc_of_lifeT _ _
@[simp] theorem setLife_power (k : Nat) (l : LifeSt) : (setLife s k l).power = s.power := State.power_of_lifeT _ _
@[simp] theorem setLife_thermal (k : Nat) (l : LifeSt) : (setLife s k l).thermal = s.thermal := State.thermal_of_lifeT _ _
@[simp] theorem setLife_clocks (k : Nat) (l : LifeSt) : (setLife s k l).clocks = s.clocks := State.clocks_of_lifeT _ _
@[simp] theorem setLife_steward (k : Nat) (l : LifeSt) : (setLife s k l).steward = s.steward := State.steward_of_lifeT _ _
@[simp] theorem setLife_i3c (k : Nat) (l : LifeSt) : (setLife s k l).i3c = s.i3c := State.i3c_of_lifeT _ _
@[simp] theorem setLife_jtag (k : Nat) (l : LifeSt) : (setLife s k l).jtag = s.jtag := State.jtag_of_lifeT _ _
@[simp] theorem setLife_load (k : Nat) (l : LifeSt) : (setLife s k l).load = s.load := State.load_of_lifeT _ _
@[simp] theorem setLife_exch (k : Nat) (l : LifeSt) : (setLife s k l).exch = s.exch := State.exch_of_lifeT _ _
@[simp] theorem setLife_hinge (k : Nat) (l : LifeSt) : (setLife s k l).hinge = s.hinge := State.hinge_of_lifeT _ _
@[simp] theorem setLife_edge (k : Nat) (l : LifeSt) : (setLife s k l).edge = s.edge := State.edge_of_lifeT _ _
@[simp] theorem setLife_streams (k : Nat) (l : LifeSt) : (setLife s k l).streams = s.streams := State.streams_of_lifeT _ _
@[simp] theorem setLife_ports (k : Nat) (l : LifeSt) : (setLife s k l).ports = s.ports := State.ports_of_lifeT _ _
@[simp] theorem setLife_dom (k : Nat) (l : LifeSt) : (setLife s k l).dom = s.dom := State.dom_of_lifeT _ _
@[simp] theorem setLife_cocoons (k : Nat) (l : LifeSt) : (setLife s k l).cocoons = s.cocoons := State.cocoons_of_lifeT _ _

/-! `setLifeField` changes lifeF, lifeT only. -/

@[simp] theorem setLifeField_pending (f : Nat) (l : LifeSt) : (setLifeField s f l).pending = s.pending := State.pending_of_lifeF_lifeT _ _ _
@[simp] theorem setLifeField_tc (f : Nat) (l : LifeSt) : (setLifeField s f l).tc = s.tc := State.tc_of_lifeF_lifeT _ _ _
@[simp] theorem setLifeField_free (f : Nat) (l : LifeSt) : (setLifeField s f l).free = s.free := State.free_of_lifeF_lifeT _ _ _
@[simp] theorem setLifeField_rdata (f : Nat) (l : LifeSt) : (setLifeField s f l).rdata = s.rdata := State.rdata_of_lifeF_lifeT _ _ _
@[simp] theorem setLifeField_bus (f : Nat) (l : LifeSt) : (setLifeField s f l).bus = s.bus := State.bus_of_lifeF_lifeT _ _ _
@[simp] theorem setLifeField_csr (f : Nat) (l : LifeSt) : (setLifeField s f l).csr = s.csr := State.csr_of_lifeF_lifeT _ _ _
@[simp] theorem setLifeField_tiles (f : Nat) (l : LifeSt) : (setLifeField s f l).tiles = s.tiles := State.tiles_of_lifeF_lifeT _ _ _
@[simp] theorem setLifeField_clusters (f : Nat) (l : LifeSt) : (setLifeField s f l).clusters = s.clusters := State.clusters_of_lifeF_lifeT _ _ _
@[simp] theorem setLifeField_fields (f : Nat) (l : LifeSt) : (setLifeField s f l).fields = s.fields := State.fields_of_lifeF_lifeT _ _ _
@[simp] theorem setLifeField_scratch (f : Nat) (l : LifeSt) : (setLifeField s f l).scratch = s.scratch := State.scratch_of_lifeF_lifeT _ _ _
@[simp] theorem setLifeField_badPar (f : Nat) (l : LifeSt) : (setLifeField s f l).badPar = s.badPar := State.badPar_of_lifeF_lifeT _ _ _
@[simp] theorem setLifeField_poisonRow (f : Nat) (l : LifeSt) : (setLifeField s f l).poisonRow = s.poisonRow := State.poisonRow_of_lifeF_lifeT _ _ _
@[simp] theorem setLifeField_firn (f : Nat) (l : LifeSt) : (setLifeField s f l).firn = s.firn := State.firn_of_lifeF_lifeT _ _ _
@[simp] theorem setLifeField_firnPoison (f : Nat) (l : LifeSt) : (setLifeField s f l).firnPoison = s.firnPoison := State.firnPoison_of_lifeF_lifeT _ _ _
@[simp] theorem setLifeField_firnQ (f : Nat) (l : LifeSt) : (setLifeField s f l).firnQ = s.firnQ := State.firnQ_of_lifeF_lifeT _ _ _
@[simp] theorem setLifeField_stepFail (f : Nat) (l : LifeSt) : (setLifeField s f l).stepFail = s.stepFail := State.stepFail_of_lifeF_lifeT _ _ _
@[simp] theorem setLifeField_dep (f : Nat) (l : LifeSt) : (setLifeField s f l).dep = s.dep := State.dep_of_lifeF_lifeT _ _ _
@[simp] theorem setLifeField_beats (f : Nat) (l : LifeSt) : (setLifeField s f l).beats = s.beats := State.beats_of_lifeF_lifeT _ _ _
@[simp] theorem setLifeField_evc (f : Nat) (l : LifeSt) : (setLifeField s f l).evc = s.evc := State.evc_of_lifeF_lifeT _ _ _
@[simp] theorem setLifeField_power (f : Nat) (l : LifeSt) : (setLifeField s f l).power = s.power := State.power_of_lifeF_lifeT _ _ _
@[simp] theorem setLifeField_thermal (f : Nat) (l : LifeSt) : (setLifeField s f l).thermal = s.thermal := State.thermal_of_lifeF_lifeT _ _ _
@[simp] theorem setLifeField_clocks (f : Nat) (l : LifeSt) : (setLifeField s f l).clocks = s.clocks := State.clocks_of_lifeF_lifeT _ _ _
@[simp] theorem setLifeField_steward (f : Nat) (l : LifeSt) : (setLifeField s f l).steward = s.steward := State.steward_of_lifeF_lifeT _ _ _
@[simp] theorem setLifeField_i3c (f : Nat) (l : LifeSt) : (setLifeField s f l).i3c = s.i3c := State.i3c_of_lifeF_lifeT _ _ _
@[simp] theorem setLifeField_jtag (f : Nat) (l : LifeSt) : (setLifeField s f l).jtag = s.jtag := State.jtag_of_lifeF_lifeT _ _ _
@[simp] theorem setLifeField_load (f : Nat) (l : LifeSt) : (setLifeField s f l).load = s.load := State.load_of_lifeF_lifeT _ _ _
@[simp] theorem setLifeField_exch (f : Nat) (l : LifeSt) : (setLifeField s f l).exch = s.exch := State.exch_of_lifeF_lifeT _ _ _
@[simp] theorem setLifeField_hinge (f : Nat) (l : LifeSt) : (setLifeField s f l).hinge = s.hinge := State.hinge_of_lifeF_lifeT _ _ _
@[simp] theorem setLifeField_edge (f : Nat) (l : LifeSt) : (setLifeField s f l).edge = s.edge := State.edge_of_lifeF_lifeT _ _ _
@[simp] theorem setLifeField_streams (f : Nat) (l : LifeSt) : (setLifeField s f l).streams = s.streams := State.streams_of_lifeF_lifeT _ _ _
@[simp] theorem setLifeField_ports (f : Nat) (l : LifeSt) : (setLifeField s f l).ports = s.ports := State.ports_of_lifeF_lifeT _ _ _
@[simp] theorem setLifeField_dom (f : Nat) (l : LifeSt) : (setLifeField s f l).dom = s.dom := State.dom_of_lifeF_lifeT _ _ _
@[simp] theorem setLifeField_cocoons (f : Nat) (l : LifeSt) : (setLifeField s f l).cocoons = s.cocoons := State.cocoons_of_lifeF_lifeT _ _ _

/-! `setTag` changes csr only. -/

@[simp] theorem setTag_pending (k n i : Nat) (p : Bool) : (setTag s k n i p).pending = s.pending := State.pending_of_csr _ _
@[simp] theorem setTag_tc (k n i : Nat) (p : Bool) : (setTag s k n i p).tc = s.tc := State.tc_of_csr _ _
@[simp] theorem setTag_free (k n i : Nat) (p : Bool) : (setTag s k n i p).free = s.free := State.free_of_csr _ _
@[simp] theorem setTag_rdata (k n i : Nat) (p : Bool) : (setTag s k n i p).rdata = s.rdata := State.rdata_of_csr _ _
@[simp] theorem setTag_bus (k n i : Nat) (p : Bool) : (setTag s k n i p).bus = s.bus := State.bus_of_csr _ _
@[simp] theorem setTag_tiles (k n i : Nat) (p : Bool) : (setTag s k n i p).tiles = s.tiles := State.tiles_of_csr _ _
@[simp] theorem setTag_clusters (k n i : Nat) (p : Bool) : (setTag s k n i p).clusters = s.clusters := State.clusters_of_csr _ _
@[simp] theorem setTag_fields (k n i : Nat) (p : Bool) : (setTag s k n i p).fields = s.fields := State.fields_of_csr _ _
@[simp] theorem setTag_lifeT (k n i : Nat) (p : Bool) : (setTag s k n i p).lifeT = s.lifeT := State.lifeT_of_csr _ _
@[simp] theorem setTag_lifeF (k n i : Nat) (p : Bool) : (setTag s k n i p).lifeF = s.lifeF := State.lifeF_of_csr _ _
@[simp] theorem setTag_scratch (k n i : Nat) (p : Bool) : (setTag s k n i p).scratch = s.scratch := State.scratch_of_csr _ _
@[simp] theorem setTag_badPar (k n i : Nat) (p : Bool) : (setTag s k n i p).badPar = s.badPar := State.badPar_of_csr _ _
@[simp] theorem setTag_poisonRow (k n i : Nat) (p : Bool) : (setTag s k n i p).poisonRow = s.poisonRow := State.poisonRow_of_csr _ _
@[simp] theorem setTag_firn (k n i : Nat) (p : Bool) : (setTag s k n i p).firn = s.firn := State.firn_of_csr _ _
@[simp] theorem setTag_firnPoison (k n i : Nat) (p : Bool) : (setTag s k n i p).firnPoison = s.firnPoison := State.firnPoison_of_csr _ _
@[simp] theorem setTag_firnQ (k n i : Nat) (p : Bool) : (setTag s k n i p).firnQ = s.firnQ := State.firnQ_of_csr _ _
@[simp] theorem setTag_stepFail (k n i : Nat) (p : Bool) : (setTag s k n i p).stepFail = s.stepFail := State.stepFail_of_csr _ _
@[simp] theorem setTag_dep (k n i : Nat) (p : Bool) : (setTag s k n i p).dep = s.dep := State.dep_of_csr _ _
@[simp] theorem setTag_beats (k n i : Nat) (p : Bool) : (setTag s k n i p).beats = s.beats := State.beats_of_csr _ _
@[simp] theorem setTag_evc (k n i : Nat) (p : Bool) : (setTag s k n i p).evc = s.evc := State.evc_of_csr _ _
@[simp] theorem setTag_power (k n i : Nat) (p : Bool) : (setTag s k n i p).power = s.power := State.power_of_csr _ _
@[simp] theorem setTag_thermal (k n i : Nat) (p : Bool) : (setTag s k n i p).thermal = s.thermal := State.thermal_of_csr _ _
@[simp] theorem setTag_clocks (k n i : Nat) (p : Bool) : (setTag s k n i p).clocks = s.clocks := State.clocks_of_csr _ _
@[simp] theorem setTag_steward (k n i : Nat) (p : Bool) : (setTag s k n i p).steward = s.steward := State.steward_of_csr _ _
@[simp] theorem setTag_i3c (k n i : Nat) (p : Bool) : (setTag s k n i p).i3c = s.i3c := State.i3c_of_csr _ _
@[simp] theorem setTag_jtag (k n i : Nat) (p : Bool) : (setTag s k n i p).jtag = s.jtag := State.jtag_of_csr _ _
@[simp] theorem setTag_load (k n i : Nat) (p : Bool) : (setTag s k n i p).load = s.load := State.load_of_csr _ _
@[simp] theorem setTag_exch (k n i : Nat) (p : Bool) : (setTag s k n i p).exch = s.exch := State.exch_of_csr _ _
@[simp] theorem setTag_hinge (k n i : Nat) (p : Bool) : (setTag s k n i p).hinge = s.hinge := State.hinge_of_csr _ _
@[simp] theorem setTag_edge (k n i : Nat) (p : Bool) : (setTag s k n i p).edge = s.edge := State.edge_of_csr _ _
@[simp] theorem setTag_streams (k n i : Nat) (p : Bool) : (setTag s k n i p).streams = s.streams := State.streams_of_csr _ _
@[simp] theorem setTag_ports (k n i : Nat) (p : Bool) : (setTag s k n i p).ports = s.ports := State.ports_of_csr _ _
@[simp] theorem setTag_dom (k n i : Nat) (p : Bool) : (setTag s k n i p).dom = s.dom := State.dom_of_csr _ _
@[simp] theorem setTag_cocoons (k n i : Nat) (p : Bool) : (setTag s k n i p).cocoons = s.cocoons := State.cocoons_of_csr _ _

/-! `setCtxState` changes csr only. -/

@[simp] theorem setCtxState_pending (k n v : Nat) : (setCtxState s k n v).pending = s.pending := State.pending_of_csr _ _
@[simp] theorem setCtxState_tc (k n v : Nat) : (setCtxState s k n v).tc = s.tc := State.tc_of_csr _ _
@[simp] theorem setCtxState_free (k n v : Nat) : (setCtxState s k n v).free = s.free := State.free_of_csr _ _
@[simp] theorem setCtxState_rdata (k n v : Nat) : (setCtxState s k n v).rdata = s.rdata := State.rdata_of_csr _ _
@[simp] theorem setCtxState_bus (k n v : Nat) : (setCtxState s k n v).bus = s.bus := State.bus_of_csr _ _
@[simp] theorem setCtxState_tiles (k n v : Nat) : (setCtxState s k n v).tiles = s.tiles := State.tiles_of_csr _ _
@[simp] theorem setCtxState_clusters (k n v : Nat) : (setCtxState s k n v).clusters = s.clusters := State.clusters_of_csr _ _
@[simp] theorem setCtxState_fields (k n v : Nat) : (setCtxState s k n v).fields = s.fields := State.fields_of_csr _ _
@[simp] theorem setCtxState_lifeT (k n v : Nat) : (setCtxState s k n v).lifeT = s.lifeT := State.lifeT_of_csr _ _
@[simp] theorem setCtxState_lifeF (k n v : Nat) : (setCtxState s k n v).lifeF = s.lifeF := State.lifeF_of_csr _ _
@[simp] theorem setCtxState_scratch (k n v : Nat) : (setCtxState s k n v).scratch = s.scratch := State.scratch_of_csr _ _
@[simp] theorem setCtxState_badPar (k n v : Nat) : (setCtxState s k n v).badPar = s.badPar := State.badPar_of_csr _ _
@[simp] theorem setCtxState_poisonRow (k n v : Nat) : (setCtxState s k n v).poisonRow = s.poisonRow := State.poisonRow_of_csr _ _
@[simp] theorem setCtxState_firn (k n v : Nat) : (setCtxState s k n v).firn = s.firn := State.firn_of_csr _ _
@[simp] theorem setCtxState_firnPoison (k n v : Nat) : (setCtxState s k n v).firnPoison = s.firnPoison := State.firnPoison_of_csr _ _
@[simp] theorem setCtxState_firnQ (k n v : Nat) : (setCtxState s k n v).firnQ = s.firnQ := State.firnQ_of_csr _ _
@[simp] theorem setCtxState_stepFail (k n v : Nat) : (setCtxState s k n v).stepFail = s.stepFail := State.stepFail_of_csr _ _
@[simp] theorem setCtxState_dep (k n v : Nat) : (setCtxState s k n v).dep = s.dep := State.dep_of_csr _ _
@[simp] theorem setCtxState_beats (k n v : Nat) : (setCtxState s k n v).beats = s.beats := State.beats_of_csr _ _
@[simp] theorem setCtxState_evc (k n v : Nat) : (setCtxState s k n v).evc = s.evc := State.evc_of_csr _ _
@[simp] theorem setCtxState_power (k n v : Nat) : (setCtxState s k n v).power = s.power := State.power_of_csr _ _
@[simp] theorem setCtxState_thermal (k n v : Nat) : (setCtxState s k n v).thermal = s.thermal := State.thermal_of_csr _ _
@[simp] theorem setCtxState_clocks (k n v : Nat) : (setCtxState s k n v).clocks = s.clocks := State.clocks_of_csr _ _
@[simp] theorem setCtxState_steward (k n v : Nat) : (setCtxState s k n v).steward = s.steward := State.steward_of_csr _ _
@[simp] theorem setCtxState_i3c (k n v : Nat) : (setCtxState s k n v).i3c = s.i3c := State.i3c_of_csr _ _
@[simp] theorem setCtxState_jtag (k n v : Nat) : (setCtxState s k n v).jtag = s.jtag := State.jtag_of_csr _ _
@[simp] theorem setCtxState_load (k n v : Nat) : (setCtxState s k n v).load = s.load := State.load_of_csr _ _
@[simp] theorem setCtxState_exch (k n v : Nat) : (setCtxState s k n v).exch = s.exch := State.exch_of_csr _ _
@[simp] theorem setCtxState_hinge (k n v : Nat) : (setCtxState s k n v).hinge = s.hinge := State.hinge_of_csr _ _
@[simp] theorem setCtxState_edge (k n v : Nat) : (setCtxState s k n v).edge = s.edge := State.edge_of_csr _ _
@[simp] theorem setCtxState_streams (k n v : Nat) : (setCtxState s k n v).streams = s.streams := State.streams_of_csr _ _
@[simp] theorem setCtxState_ports (k n v : Nat) : (setCtxState s k n v).ports = s.ports := State.ports_of_csr _ _
@[simp] theorem setCtxState_dom (k n v : Nat) : (setCtxState s k n v).dom = s.dom := State.dom_of_csr _ _
@[simp] theorem setCtxState_cocoons (k n v : Nat) : (setCtxState s k n v).cocoons = s.cocoons := State.cocoons_of_csr _ _

/-! `setPc` changes csr only. -/

@[simp] theorem setPc_pending (k n v : Nat) : (setPc s k n v).pending = s.pending := State.pending_of_csr _ _
@[simp] theorem setPc_tc (k n v : Nat) : (setPc s k n v).tc = s.tc := State.tc_of_csr _ _
@[simp] theorem setPc_free (k n v : Nat) : (setPc s k n v).free = s.free := State.free_of_csr _ _
@[simp] theorem setPc_rdata (k n v : Nat) : (setPc s k n v).rdata = s.rdata := State.rdata_of_csr _ _
@[simp] theorem setPc_bus (k n v : Nat) : (setPc s k n v).bus = s.bus := State.bus_of_csr _ _
@[simp] theorem setPc_tiles (k n v : Nat) : (setPc s k n v).tiles = s.tiles := State.tiles_of_csr _ _
@[simp] theorem setPc_clusters (k n v : Nat) : (setPc s k n v).clusters = s.clusters := State.clusters_of_csr _ _
@[simp] theorem setPc_fields (k n v : Nat) : (setPc s k n v).fields = s.fields := State.fields_of_csr _ _
@[simp] theorem setPc_lifeT (k n v : Nat) : (setPc s k n v).lifeT = s.lifeT := State.lifeT_of_csr _ _
@[simp] theorem setPc_lifeF (k n v : Nat) : (setPc s k n v).lifeF = s.lifeF := State.lifeF_of_csr _ _
@[simp] theorem setPc_scratch (k n v : Nat) : (setPc s k n v).scratch = s.scratch := State.scratch_of_csr _ _
@[simp] theorem setPc_badPar (k n v : Nat) : (setPc s k n v).badPar = s.badPar := State.badPar_of_csr _ _
@[simp] theorem setPc_poisonRow (k n v : Nat) : (setPc s k n v).poisonRow = s.poisonRow := State.poisonRow_of_csr _ _
@[simp] theorem setPc_firn (k n v : Nat) : (setPc s k n v).firn = s.firn := State.firn_of_csr _ _
@[simp] theorem setPc_firnPoison (k n v : Nat) : (setPc s k n v).firnPoison = s.firnPoison := State.firnPoison_of_csr _ _
@[simp] theorem setPc_firnQ (k n v : Nat) : (setPc s k n v).firnQ = s.firnQ := State.firnQ_of_csr _ _
@[simp] theorem setPc_stepFail (k n v : Nat) : (setPc s k n v).stepFail = s.stepFail := State.stepFail_of_csr _ _
@[simp] theorem setPc_dep (k n v : Nat) : (setPc s k n v).dep = s.dep := State.dep_of_csr _ _
@[simp] theorem setPc_beats (k n v : Nat) : (setPc s k n v).beats = s.beats := State.beats_of_csr _ _
@[simp] theorem setPc_evc (k n v : Nat) : (setPc s k n v).evc = s.evc := State.evc_of_csr _ _
@[simp] theorem setPc_power (k n v : Nat) : (setPc s k n v).power = s.power := State.power_of_csr _ _
@[simp] theorem setPc_thermal (k n v : Nat) : (setPc s k n v).thermal = s.thermal := State.thermal_of_csr _ _
@[simp] theorem setPc_clocks (k n v : Nat) : (setPc s k n v).clocks = s.clocks := State.clocks_of_csr _ _
@[simp] theorem setPc_steward (k n v : Nat) : (setPc s k n v).steward = s.steward := State.steward_of_csr _ _
@[simp] theorem setPc_i3c (k n v : Nat) : (setPc s k n v).i3c = s.i3c := State.i3c_of_csr _ _
@[simp] theorem setPc_jtag (k n v : Nat) : (setPc s k n v).jtag = s.jtag := State.jtag_of_csr _ _
@[simp] theorem setPc_load (k n v : Nat) : (setPc s k n v).load = s.load := State.load_of_csr _ _
@[simp] theorem setPc_exch (k n v : Nat) : (setPc s k n v).exch = s.exch := State.exch_of_csr _ _
@[simp] theorem setPc_hinge (k n v : Nat) : (setPc s k n v).hinge = s.hinge := State.hinge_of_csr _ _
@[simp] theorem setPc_edge (k n v : Nat) : (setPc s k n v).edge = s.edge := State.edge_of_csr _ _
@[simp] theorem setPc_streams (k n v : Nat) : (setPc s k n v).streams = s.streams := State.streams_of_csr _ _
@[simp] theorem setPc_ports (k n v : Nat) : (setPc s k n v).ports = s.ports := State.ports_of_csr _ _
@[simp] theorem setPc_dom (k n v : Nat) : (setPc s k n v).dom = s.dom := State.dom_of_csr _ _
@[simp] theorem setPc_cocoons (k n v : Nat) : (setPc s k n v).cocoons = s.cocoons := State.cocoons_of_csr _ _

/-! `poisonRowSet` changes poisonRow only. -/

@[simp] theorem poisonRowSet_pending (c r : Nat) : (poisonRowSet s c r).pending = s.pending := State.pending_of_poisonRow _ _
@[simp] theorem poisonRowSet_tc (c r : Nat) : (poisonRowSet s c r).tc = s.tc := State.tc_of_poisonRow _ _
@[simp] theorem poisonRowSet_free (c r : Nat) : (poisonRowSet s c r).free = s.free := State.free_of_poisonRow _ _
@[simp] theorem poisonRowSet_rdata (c r : Nat) : (poisonRowSet s c r).rdata = s.rdata := State.rdata_of_poisonRow _ _
@[simp] theorem poisonRowSet_bus (c r : Nat) : (poisonRowSet s c r).bus = s.bus := State.bus_of_poisonRow _ _
@[simp] theorem poisonRowSet_csr (c r : Nat) : (poisonRowSet s c r).csr = s.csr := State.csr_of_poisonRow _ _
@[simp] theorem poisonRowSet_tiles (c r : Nat) : (poisonRowSet s c r).tiles = s.tiles := State.tiles_of_poisonRow _ _
@[simp] theorem poisonRowSet_clusters (c r : Nat) : (poisonRowSet s c r).clusters = s.clusters := State.clusters_of_poisonRow _ _
@[simp] theorem poisonRowSet_fields (c r : Nat) : (poisonRowSet s c r).fields = s.fields := State.fields_of_poisonRow _ _
@[simp] theorem poisonRowSet_lifeT (c r : Nat) : (poisonRowSet s c r).lifeT = s.lifeT := State.lifeT_of_poisonRow _ _
@[simp] theorem poisonRowSet_lifeF (c r : Nat) : (poisonRowSet s c r).lifeF = s.lifeF := State.lifeF_of_poisonRow _ _
@[simp] theorem poisonRowSet_scratch (c r : Nat) : (poisonRowSet s c r).scratch = s.scratch := State.scratch_of_poisonRow _ _
@[simp] theorem poisonRowSet_badPar (c r : Nat) : (poisonRowSet s c r).badPar = s.badPar := State.badPar_of_poisonRow _ _
@[simp] theorem poisonRowSet_firn (c r : Nat) : (poisonRowSet s c r).firn = s.firn := State.firn_of_poisonRow _ _
@[simp] theorem poisonRowSet_firnPoison (c r : Nat) : (poisonRowSet s c r).firnPoison = s.firnPoison := State.firnPoison_of_poisonRow _ _
@[simp] theorem poisonRowSet_firnQ (c r : Nat) : (poisonRowSet s c r).firnQ = s.firnQ := State.firnQ_of_poisonRow _ _
@[simp] theorem poisonRowSet_stepFail (c r : Nat) : (poisonRowSet s c r).stepFail = s.stepFail := State.stepFail_of_poisonRow _ _
@[simp] theorem poisonRowSet_dep (c r : Nat) : (poisonRowSet s c r).dep = s.dep := State.dep_of_poisonRow _ _
@[simp] theorem poisonRowSet_beats (c r : Nat) : (poisonRowSet s c r).beats = s.beats := State.beats_of_poisonRow _ _
@[simp] theorem poisonRowSet_evc (c r : Nat) : (poisonRowSet s c r).evc = s.evc := State.evc_of_poisonRow _ _
@[simp] theorem poisonRowSet_power (c r : Nat) : (poisonRowSet s c r).power = s.power := State.power_of_poisonRow _ _
@[simp] theorem poisonRowSet_thermal (c r : Nat) : (poisonRowSet s c r).thermal = s.thermal := State.thermal_of_poisonRow _ _
@[simp] theorem poisonRowSet_clocks (c r : Nat) : (poisonRowSet s c r).clocks = s.clocks := State.clocks_of_poisonRow _ _
@[simp] theorem poisonRowSet_steward (c r : Nat) : (poisonRowSet s c r).steward = s.steward := State.steward_of_poisonRow _ _
@[simp] theorem poisonRowSet_i3c (c r : Nat) : (poisonRowSet s c r).i3c = s.i3c := State.i3c_of_poisonRow _ _
@[simp] theorem poisonRowSet_jtag (c r : Nat) : (poisonRowSet s c r).jtag = s.jtag := State.jtag_of_poisonRow _ _
@[simp] theorem poisonRowSet_load (c r : Nat) : (poisonRowSet s c r).load = s.load := State.load_of_poisonRow _ _
@[simp] theorem poisonRowSet_exch (c r : Nat) : (poisonRowSet s c r).exch = s.exch := State.exch_of_poisonRow _ _
@[simp] theorem poisonRowSet_hinge (c r : Nat) : (poisonRowSet s c r).hinge = s.hinge := State.hinge_of_poisonRow _ _
@[simp] theorem poisonRowSet_edge (c r : Nat) : (poisonRowSet s c r).edge = s.edge := State.edge_of_poisonRow _ _
@[simp] theorem poisonRowSet_streams (c r : Nat) : (poisonRowSet s c r).streams = s.streams := State.streams_of_poisonRow _ _
@[simp] theorem poisonRowSet_ports (c r : Nat) : (poisonRowSet s c r).ports = s.ports := State.ports_of_poisonRow _ _
@[simp] theorem poisonRowSet_dom (c r : Nat) : (poisonRowSet s c r).dom = s.dom := State.dom_of_poisonRow _ _
@[simp] theorem poisonRowSet_cocoons (c r : Nat) : (poisonRowSet s c r).cocoons = s.cocoons := State.cocoons_of_poisonRow _ _

/-! `putBytes` changes firn, firnPoison only. -/

@[simp] theorem putBytes_pending (a : Nat) (bs : List Byte) : (putBytes s a bs).pending = s.pending := State.pending_of_firn_firnPoison _ _ _
@[simp] theorem putBytes_tc (a : Nat) (bs : List Byte) : (putBytes s a bs).tc = s.tc := State.tc_of_firn_firnPoison _ _ _
@[simp] theorem putBytes_free (a : Nat) (bs : List Byte) : (putBytes s a bs).free = s.free := State.free_of_firn_firnPoison _ _ _
@[simp] theorem putBytes_rdata (a : Nat) (bs : List Byte) : (putBytes s a bs).rdata = s.rdata := State.rdata_of_firn_firnPoison _ _ _
@[simp] theorem putBytes_bus (a : Nat) (bs : List Byte) : (putBytes s a bs).bus = s.bus := State.bus_of_firn_firnPoison _ _ _
@[simp] theorem putBytes_csr (a : Nat) (bs : List Byte) : (putBytes s a bs).csr = s.csr := State.csr_of_firn_firnPoison _ _ _
@[simp] theorem putBytes_tiles (a : Nat) (bs : List Byte) : (putBytes s a bs).tiles = s.tiles := State.tiles_of_firn_firnPoison _ _ _
@[simp] theorem putBytes_clusters (a : Nat) (bs : List Byte) : (putBytes s a bs).clusters = s.clusters := State.clusters_of_firn_firnPoison _ _ _
@[simp] theorem putBytes_fields (a : Nat) (bs : List Byte) : (putBytes s a bs).fields = s.fields := State.fields_of_firn_firnPoison _ _ _
@[simp] theorem putBytes_lifeT (a : Nat) (bs : List Byte) : (putBytes s a bs).lifeT = s.lifeT := State.lifeT_of_firn_firnPoison _ _ _
@[simp] theorem putBytes_lifeF (a : Nat) (bs : List Byte) : (putBytes s a bs).lifeF = s.lifeF := State.lifeF_of_firn_firnPoison _ _ _
@[simp] theorem putBytes_scratch (a : Nat) (bs : List Byte) : (putBytes s a bs).scratch = s.scratch := State.scratch_of_firn_firnPoison _ _ _
@[simp] theorem putBytes_badPar (a : Nat) (bs : List Byte) : (putBytes s a bs).badPar = s.badPar := State.badPar_of_firn_firnPoison _ _ _
@[simp] theorem putBytes_poisonRow (a : Nat) (bs : List Byte) : (putBytes s a bs).poisonRow = s.poisonRow := State.poisonRow_of_firn_firnPoison _ _ _
@[simp] theorem putBytes_firnQ (a : Nat) (bs : List Byte) : (putBytes s a bs).firnQ = s.firnQ := State.firnQ_of_firn_firnPoison _ _ _
@[simp] theorem putBytes_stepFail (a : Nat) (bs : List Byte) : (putBytes s a bs).stepFail = s.stepFail := State.stepFail_of_firn_firnPoison _ _ _
@[simp] theorem putBytes_dep (a : Nat) (bs : List Byte) : (putBytes s a bs).dep = s.dep := State.dep_of_firn_firnPoison _ _ _
@[simp] theorem putBytes_beats (a : Nat) (bs : List Byte) : (putBytes s a bs).beats = s.beats := State.beats_of_firn_firnPoison _ _ _
@[simp] theorem putBytes_evc (a : Nat) (bs : List Byte) : (putBytes s a bs).evc = s.evc := State.evc_of_firn_firnPoison _ _ _
@[simp] theorem putBytes_power (a : Nat) (bs : List Byte) : (putBytes s a bs).power = s.power := State.power_of_firn_firnPoison _ _ _
@[simp] theorem putBytes_thermal (a : Nat) (bs : List Byte) : (putBytes s a bs).thermal = s.thermal := State.thermal_of_firn_firnPoison _ _ _
@[simp] theorem putBytes_clocks (a : Nat) (bs : List Byte) : (putBytes s a bs).clocks = s.clocks := State.clocks_of_firn_firnPoison _ _ _
@[simp] theorem putBytes_steward (a : Nat) (bs : List Byte) : (putBytes s a bs).steward = s.steward := State.steward_of_firn_firnPoison _ _ _
@[simp] theorem putBytes_i3c (a : Nat) (bs : List Byte) : (putBytes s a bs).i3c = s.i3c := State.i3c_of_firn_firnPoison _ _ _
@[simp] theorem putBytes_jtag (a : Nat) (bs : List Byte) : (putBytes s a bs).jtag = s.jtag := State.jtag_of_firn_firnPoison _ _ _
@[simp] theorem putBytes_load (a : Nat) (bs : List Byte) : (putBytes s a bs).load = s.load := State.load_of_firn_firnPoison _ _ _
@[simp] theorem putBytes_exch (a : Nat) (bs : List Byte) : (putBytes s a bs).exch = s.exch := State.exch_of_firn_firnPoison _ _ _
@[simp] theorem putBytes_hinge (a : Nat) (bs : List Byte) : (putBytes s a bs).hinge = s.hinge := State.hinge_of_firn_firnPoison _ _ _
@[simp] theorem putBytes_edge (a : Nat) (bs : List Byte) : (putBytes s a bs).edge = s.edge := State.edge_of_firn_firnPoison _ _ _
@[simp] theorem putBytes_streams (a : Nat) (bs : List Byte) : (putBytes s a bs).streams = s.streams := State.streams_of_firn_firnPoison _ _ _
@[simp] theorem putBytes_ports (a : Nat) (bs : List Byte) : (putBytes s a bs).ports = s.ports := State.ports_of_firn_firnPoison _ _ _
@[simp] theorem putBytes_dom (a : Nat) (bs : List Byte) : (putBytes s a bs).dom = s.dom := State.dom_of_firn_firnPoison _ _ _
@[simp] theorem putBytes_cocoons (a : Nat) (bs : List Byte) : (putBytes s a bs).cocoons = s.cocoons := State.cocoons_of_firn_firnPoison _ _ _

/-! `condition` changes csr only. -/

@[simp] theorem condition_pending (n code : Nat) : (condition s n code).pending = s.pending := by simp only [condition, putF_pending]
@[simp] theorem condition_tc (n code : Nat) : (condition s n code).tc = s.tc := by simp only [condition, putF_tc]
@[simp] theorem condition_free (n code : Nat) : (condition s n code).free = s.free := by simp only [condition, putF_free]
@[simp] theorem condition_rdata (n code : Nat) : (condition s n code).rdata = s.rdata := by simp only [condition, putF_rdata]
@[simp] theorem condition_bus (n code : Nat) : (condition s n code).bus = s.bus := by simp only [condition, putF_bus]
@[simp] theorem condition_tiles (n code : Nat) : (condition s n code).tiles = s.tiles := by simp only [condition, putF_tiles]
@[simp] theorem condition_clusters (n code : Nat) : (condition s n code).clusters = s.clusters := by simp only [condition, putF_clusters]
@[simp] theorem condition_fields (n code : Nat) : (condition s n code).fields = s.fields := by simp only [condition, putF_fields]
@[simp] theorem condition_lifeT (n code : Nat) : (condition s n code).lifeT = s.lifeT := by simp only [condition, putF_lifeT]
@[simp] theorem condition_lifeF (n code : Nat) : (condition s n code).lifeF = s.lifeF := by simp only [condition, putF_lifeF]
@[simp] theorem condition_scratch (n code : Nat) : (condition s n code).scratch = s.scratch := by simp only [condition, putF_scratch]
@[simp] theorem condition_badPar (n code : Nat) : (condition s n code).badPar = s.badPar := by simp only [condition, putF_badPar]
@[simp] theorem condition_poisonRow (n code : Nat) : (condition s n code).poisonRow = s.poisonRow := by simp only [condition, putF_poisonRow]
@[simp] theorem condition_firn (n code : Nat) : (condition s n code).firn = s.firn := by simp only [condition, putF_firn]
@[simp] theorem condition_firnPoison (n code : Nat) : (condition s n code).firnPoison = s.firnPoison := by simp only [condition, putF_firnPoison]
@[simp] theorem condition_firnQ (n code : Nat) : (condition s n code).firnQ = s.firnQ := by simp only [condition, putF_firnQ]
@[simp] theorem condition_stepFail (n code : Nat) : (condition s n code).stepFail = s.stepFail := by simp only [condition, putF_stepFail]
@[simp] theorem condition_dep (n code : Nat) : (condition s n code).dep = s.dep := by simp only [condition, putF_dep]
@[simp] theorem condition_beats (n code : Nat) : (condition s n code).beats = s.beats := by simp only [condition, putF_beats]
@[simp] theorem condition_evc (n code : Nat) : (condition s n code).evc = s.evc := by simp only [condition, putF_evc]
@[simp] theorem condition_power (n code : Nat) : (condition s n code).power = s.power := by simp only [condition, putF_power]
@[simp] theorem condition_thermal (n code : Nat) : (condition s n code).thermal = s.thermal := by simp only [condition, putF_thermal]
@[simp] theorem condition_clocks (n code : Nat) : (condition s n code).clocks = s.clocks := by simp only [condition, putF_clocks]
@[simp] theorem condition_steward (n code : Nat) : (condition s n code).steward = s.steward := by simp only [condition, putF_steward]
@[simp] theorem condition_i3c (n code : Nat) : (condition s n code).i3c = s.i3c := by simp only [condition, putF_i3c]
@[simp] theorem condition_jtag (n code : Nat) : (condition s n code).jtag = s.jtag := by simp only [condition, putF_jtag]
@[simp] theorem condition_load (n code : Nat) : (condition s n code).load = s.load := by simp only [condition, putF_load]
@[simp] theorem condition_exch (n code : Nat) : (condition s n code).exch = s.exch := by simp only [condition, putF_exch]
@[simp] theorem condition_hinge (n code : Nat) : (condition s n code).hinge = s.hinge := by simp only [condition, putF_hinge]
@[simp] theorem condition_edge (n code : Nat) : (condition s n code).edge = s.edge := by simp only [condition, putF_edge]
@[simp] theorem condition_streams (n code : Nat) : (condition s n code).streams = s.streams := by simp only [condition, putF_streams]
@[simp] theorem condition_ports (n code : Nat) : (condition s n code).ports = s.ports := by simp only [condition, putF_ports]
@[simp] theorem condition_dom (n code : Nat) : (condition s n code).dom = s.dom := by simp only [condition, putF_dom]
@[simp] theorem condition_cocoons (n code : Nat) : (condition s n code).cocoons = s.cocoons := by simp only [condition, putF_cocoons]

/-! `pulse` changes evc only. -/

@[simp] theorem pulse_pending (n : Nat) : (pulse s n).pending = s.pending := State.pending_of_evc _ _
@[simp] theorem pulse_tc (n : Nat) : (pulse s n).tc = s.tc := State.tc_of_evc _ _
@[simp] theorem pulse_free (n : Nat) : (pulse s n).free = s.free := State.free_of_evc _ _
@[simp] theorem pulse_rdata (n : Nat) : (pulse s n).rdata = s.rdata := State.rdata_of_evc _ _
@[simp] theorem pulse_bus (n : Nat) : (pulse s n).bus = s.bus := State.bus_of_evc _ _
@[simp] theorem pulse_csr (n : Nat) : (pulse s n).csr = s.csr := State.csr_of_evc _ _
@[simp] theorem pulse_tiles (n : Nat) : (pulse s n).tiles = s.tiles := State.tiles_of_evc _ _
@[simp] theorem pulse_clusters (n : Nat) : (pulse s n).clusters = s.clusters := State.clusters_of_evc _ _
@[simp] theorem pulse_fields (n : Nat) : (pulse s n).fields = s.fields := State.fields_of_evc _ _
@[simp] theorem pulse_lifeT (n : Nat) : (pulse s n).lifeT = s.lifeT := State.lifeT_of_evc _ _
@[simp] theorem pulse_lifeF (n : Nat) : (pulse s n).lifeF = s.lifeF := State.lifeF_of_evc _ _
@[simp] theorem pulse_scratch (n : Nat) : (pulse s n).scratch = s.scratch := State.scratch_of_evc _ _
@[simp] theorem pulse_badPar (n : Nat) : (pulse s n).badPar = s.badPar := State.badPar_of_evc _ _
@[simp] theorem pulse_poisonRow (n : Nat) : (pulse s n).poisonRow = s.poisonRow := State.poisonRow_of_evc _ _
@[simp] theorem pulse_firn (n : Nat) : (pulse s n).firn = s.firn := State.firn_of_evc _ _
@[simp] theorem pulse_firnPoison (n : Nat) : (pulse s n).firnPoison = s.firnPoison := State.firnPoison_of_evc _ _
@[simp] theorem pulse_firnQ (n : Nat) : (pulse s n).firnQ = s.firnQ := State.firnQ_of_evc _ _
@[simp] theorem pulse_stepFail (n : Nat) : (pulse s n).stepFail = s.stepFail := State.stepFail_of_evc _ _
@[simp] theorem pulse_dep (n : Nat) : (pulse s n).dep = s.dep := State.dep_of_evc _ _
@[simp] theorem pulse_beats (n : Nat) : (pulse s n).beats = s.beats := State.beats_of_evc _ _
@[simp] theorem pulse_power (n : Nat) : (pulse s n).power = s.power := State.power_of_evc _ _
@[simp] theorem pulse_thermal (n : Nat) : (pulse s n).thermal = s.thermal := State.thermal_of_evc _ _
@[simp] theorem pulse_clocks (n : Nat) : (pulse s n).clocks = s.clocks := State.clocks_of_evc _ _
@[simp] theorem pulse_steward (n : Nat) : (pulse s n).steward = s.steward := State.steward_of_evc _ _
@[simp] theorem pulse_i3c (n : Nat) : (pulse s n).i3c = s.i3c := State.i3c_of_evc _ _
@[simp] theorem pulse_jtag (n : Nat) : (pulse s n).jtag = s.jtag := State.jtag_of_evc _ _
@[simp] theorem pulse_load (n : Nat) : (pulse s n).load = s.load := State.load_of_evc _ _
@[simp] theorem pulse_exch (n : Nat) : (pulse s n).exch = s.exch := State.exch_of_evc _ _
@[simp] theorem pulse_hinge (n : Nat) : (pulse s n).hinge = s.hinge := State.hinge_of_evc _ _
@[simp] theorem pulse_edge (n : Nat) : (pulse s n).edge = s.edge := State.edge_of_evc _ _
@[simp] theorem pulse_streams (n : Nat) : (pulse s n).streams = s.streams := State.streams_of_evc _ _
@[simp] theorem pulse_ports (n : Nat) : (pulse s n).ports = s.ports := State.ports_of_evc _ _
@[simp] theorem pulse_dom (n : Nat) : (pulse s n).dom = s.dom := State.dom_of_evc _ _
@[simp] theorem pulse_cocoons (n : Nat) : (pulse s n).cocoons = s.cocoons := State.cocoons_of_evc _ _

/-! `setFirnQ` changes csr, firnQ only. -/

@[simp] theorem setFirnQ_pending (st : Nat) (l : List FirnTx) : (setFirnQ s st l).pending = s.pending := State.pending_of_csr_firnQ _ _ _
@[simp] theorem setFirnQ_tc (st : Nat) (l : List FirnTx) : (setFirnQ s st l).tc = s.tc := State.tc_of_csr_firnQ _ _ _
@[simp] theorem setFirnQ_free (st : Nat) (l : List FirnTx) : (setFirnQ s st l).free = s.free := State.free_of_csr_firnQ _ _ _
@[simp] theorem setFirnQ_rdata (st : Nat) (l : List FirnTx) : (setFirnQ s st l).rdata = s.rdata := State.rdata_of_csr_firnQ _ _ _
@[simp] theorem setFirnQ_bus (st : Nat) (l : List FirnTx) : (setFirnQ s st l).bus = s.bus := State.bus_of_csr_firnQ _ _ _
@[simp] theorem setFirnQ_tiles (st : Nat) (l : List FirnTx) : (setFirnQ s st l).tiles = s.tiles := State.tiles_of_csr_firnQ _ _ _
@[simp] theorem setFirnQ_clusters (st : Nat) (l : List FirnTx) : (setFirnQ s st l).clusters = s.clusters := State.clusters_of_csr_firnQ _ _ _
@[simp] theorem setFirnQ_fields (st : Nat) (l : List FirnTx) : (setFirnQ s st l).fields = s.fields := State.fields_of_csr_firnQ _ _ _
@[simp] theorem setFirnQ_lifeT (st : Nat) (l : List FirnTx) : (setFirnQ s st l).lifeT = s.lifeT := State.lifeT_of_csr_firnQ _ _ _
@[simp] theorem setFirnQ_lifeF (st : Nat) (l : List FirnTx) : (setFirnQ s st l).lifeF = s.lifeF := State.lifeF_of_csr_firnQ _ _ _
@[simp] theorem setFirnQ_scratch (st : Nat) (l : List FirnTx) : (setFirnQ s st l).scratch = s.scratch := State.scratch_of_csr_firnQ _ _ _
@[simp] theorem setFirnQ_badPar (st : Nat) (l : List FirnTx) : (setFirnQ s st l).badPar = s.badPar := State.badPar_of_csr_firnQ _ _ _
@[simp] theorem setFirnQ_poisonRow (st : Nat) (l : List FirnTx) : (setFirnQ s st l).poisonRow = s.poisonRow := State.poisonRow_of_csr_firnQ _ _ _
@[simp] theorem setFirnQ_firn (st : Nat) (l : List FirnTx) : (setFirnQ s st l).firn = s.firn := State.firn_of_csr_firnQ _ _ _
@[simp] theorem setFirnQ_firnPoison (st : Nat) (l : List FirnTx) : (setFirnQ s st l).firnPoison = s.firnPoison := State.firnPoison_of_csr_firnQ _ _ _
@[simp] theorem setFirnQ_stepFail (st : Nat) (l : List FirnTx) : (setFirnQ s st l).stepFail = s.stepFail := State.stepFail_of_csr_firnQ _ _ _
@[simp] theorem setFirnQ_dep (st : Nat) (l : List FirnTx) : (setFirnQ s st l).dep = s.dep := State.dep_of_csr_firnQ _ _ _
@[simp] theorem setFirnQ_beats (st : Nat) (l : List FirnTx) : (setFirnQ s st l).beats = s.beats := State.beats_of_csr_firnQ _ _ _
@[simp] theorem setFirnQ_evc (st : Nat) (l : List FirnTx) : (setFirnQ s st l).evc = s.evc := State.evc_of_csr_firnQ _ _ _
@[simp] theorem setFirnQ_power (st : Nat) (l : List FirnTx) : (setFirnQ s st l).power = s.power := State.power_of_csr_firnQ _ _ _
@[simp] theorem setFirnQ_thermal (st : Nat) (l : List FirnTx) : (setFirnQ s st l).thermal = s.thermal := State.thermal_of_csr_firnQ _ _ _
@[simp] theorem setFirnQ_clocks (st : Nat) (l : List FirnTx) : (setFirnQ s st l).clocks = s.clocks := State.clocks_of_csr_firnQ _ _ _
@[simp] theorem setFirnQ_steward (st : Nat) (l : List FirnTx) : (setFirnQ s st l).steward = s.steward := State.steward_of_csr_firnQ _ _ _
@[simp] theorem setFirnQ_i3c (st : Nat) (l : List FirnTx) : (setFirnQ s st l).i3c = s.i3c := State.i3c_of_csr_firnQ _ _ _
@[simp] theorem setFirnQ_jtag (st : Nat) (l : List FirnTx) : (setFirnQ s st l).jtag = s.jtag := State.jtag_of_csr_firnQ _ _ _
@[simp] theorem setFirnQ_load (st : Nat) (l : List FirnTx) : (setFirnQ s st l).load = s.load := State.load_of_csr_firnQ _ _ _
@[simp] theorem setFirnQ_exch (st : Nat) (l : List FirnTx) : (setFirnQ s st l).exch = s.exch := State.exch_of_csr_firnQ _ _ _
@[simp] theorem setFirnQ_hinge (st : Nat) (l : List FirnTx) : (setFirnQ s st l).hinge = s.hinge := State.hinge_of_csr_firnQ _ _ _
@[simp] theorem setFirnQ_edge (st : Nat) (l : List FirnTx) : (setFirnQ s st l).edge = s.edge := State.edge_of_csr_firnQ _ _ _
@[simp] theorem setFirnQ_streams (st : Nat) (l : List FirnTx) : (setFirnQ s st l).streams = s.streams := State.streams_of_csr_firnQ _ _ _
@[simp] theorem setFirnQ_ports (st : Nat) (l : List FirnTx) : (setFirnQ s st l).ports = s.ports := State.ports_of_csr_firnQ _ _ _
@[simp] theorem setFirnQ_dom (st : Nat) (l : List FirnTx) : (setFirnQ s st l).dom = s.dom := State.dom_of_csr_firnQ _ _ _
@[simp] theorem setFirnQ_cocoons (st : Nat) (l : List FirnTx) : (setFirnQ s st l).cocoons = s.cocoons := State.cocoons_of_csr_firnQ _ _ _

@[simp] theorem nextFree_pending : (nextFree s).1.pending = s.pending := State.pending_of_free _ _
@[simp] theorem nextFree_tc : (nextFree s).1.tc = s.tc := State.tc_of_free _ _
@[simp] theorem nextFree_rdata : (nextFree s).1.rdata = s.rdata := State.rdata_of_free _ _
@[simp] theorem nextFree_bus : (nextFree s).1.bus = s.bus := State.bus_of_free _ _
@[simp] theorem nextFree_csr : (nextFree s).1.csr = s.csr := State.csr_of_free _ _
@[simp] theorem nextFree_tiles : (nextFree s).1.tiles = s.tiles := State.tiles_of_free _ _
@[simp] theorem nextFree_clusters : (nextFree s).1.clusters = s.clusters := State.clusters_of_free _ _
@[simp] theorem nextFree_fields : (nextFree s).1.fields = s.fields := State.fields_of_free _ _
@[simp] theorem nextFree_lifeT : (nextFree s).1.lifeT = s.lifeT := State.lifeT_of_free _ _
@[simp] theorem nextFree_lifeF : (nextFree s).1.lifeF = s.lifeF := State.lifeF_of_free _ _
@[simp] theorem nextFree_scratch : (nextFree s).1.scratch = s.scratch := State.scratch_of_free _ _
@[simp] theorem nextFree_badPar : (nextFree s).1.badPar = s.badPar := State.badPar_of_free _ _
@[simp] theorem nextFree_poisonRow : (nextFree s).1.poisonRow = s.poisonRow := State.poisonRow_of_free _ _
@[simp] theorem nextFree_firn : (nextFree s).1.firn = s.firn := State.firn_of_free _ _
@[simp] theorem nextFree_firnPoison : (nextFree s).1.firnPoison = s.firnPoison := State.firnPoison_of_free _ _
@[simp] theorem nextFree_firnQ : (nextFree s).1.firnQ = s.firnQ := State.firnQ_of_free _ _
@[simp] theorem nextFree_stepFail : (nextFree s).1.stepFail = s.stepFail := State.stepFail_of_free _ _
@[simp] theorem nextFree_dep : (nextFree s).1.dep = s.dep := State.dep_of_free _ _
@[simp] theorem nextFree_beats : (nextFree s).1.beats = s.beats := State.beats_of_free _ _
@[simp] theorem nextFree_evc : (nextFree s).1.evc = s.evc := State.evc_of_free _ _
@[simp] theorem nextFree_power : (nextFree s).1.power = s.power := State.power_of_free _ _
@[simp] theorem nextFree_thermal : (nextFree s).1.thermal = s.thermal := State.thermal_of_free _ _
@[simp] theorem nextFree_clocks : (nextFree s).1.clocks = s.clocks := State.clocks_of_free _ _
@[simp] theorem nextFree_steward : (nextFree s).1.steward = s.steward := State.steward_of_free _ _
@[simp] theorem nextFree_i3c : (nextFree s).1.i3c = s.i3c := State.i3c_of_free _ _
@[simp] theorem nextFree_jtag : (nextFree s).1.jtag = s.jtag := State.jtag_of_free _ _
@[simp] theorem nextFree_load : (nextFree s).1.load = s.load := State.load_of_free _ _
@[simp] theorem nextFree_exch : (nextFree s).1.exch = s.exch := State.exch_of_free _ _
@[simp] theorem nextFree_hinge : (nextFree s).1.hinge = s.hinge := State.hinge_of_free _ _
@[simp] theorem nextFree_edge : (nextFree s).1.edge = s.edge := State.edge_of_free _ _
@[simp] theorem nextFree_streams : (nextFree s).1.streams = s.streams := State.streams_of_free _ _
@[simp] theorem nextFree_ports : (nextFree s).1.ports = s.ports := State.ports_of_free _ _
@[simp] theorem nextFree_dom : (nextFree s).1.dom = s.dom := State.dom_of_free _ _
@[simp] theorem nextFree_cocoons : (nextFree s).1.cocoons = s.cocoons := State.cocoons_of_free _ _

end Sys2Proof.Machine
end

