-- ==== Sys2Proof/Laws/Csr.lean ====
section
/-! SUPPORT. Registers, their fields, and the parts of the state: a read after a write gives what was written, and a
write leaves everything else alone. -/

namespace Sys2Proof.Machine

/-! ### Bit fields -/

theorem bits_lt (v lo w : Nat) : bits v lo w < 2 ^ w := Nat.mod_lt _ (Nat.two_pow_pos w)

theorem bits_eq_testBit (v lo w i : Nat) : (bits v lo w).testBit i = (decide (i < w) && v.testBit (lo + i)) := by
  simp [bits, Nat.testBit_mod_two_pow, Nat.testBit_div_two_pow, Nat.add_comm]

theorem setBits_testBit (old lo w v i : Nat) :
    (setBits old lo w v).testBit i = if lo ≤ i ∧ i < lo + w then v.testBit (i - lo) else old.testBit i := by
  have h1 : old % 2 ^ lo < 2 ^ lo := Nat.mod_lt _ (Nat.two_pow_pos lo)
  have h2 : v % 2 ^ w < 2 ^ w := Nat.mod_lt _ (Nat.two_pow_pos w)
  have e : setBits old lo w v = 2 ^ lo * (2 ^ w * (old / 2 ^ (lo + w)) + v % 2 ^ w) + old % 2 ^ lo := by
    rw [setBits, Nat.pow_add, Nat.mul_add, Nat.mul_comm (v % 2 ^ w), Nat.mul_comm (old / (2 ^ lo * 2 ^ w)), Nat.mul_assoc]
  rw [e, Nat.testBit_two_pow_mul_add _ h1]
  by_cases hi : i < lo
  · simp [hi, Nat.testBit_mod_two_pow] <;> omega
  · rw [if_neg hi, Nat.testBit_two_pow_mul_add _ h2]
    by_cases hw : i - lo < w
    · rw [if_pos hw, if_pos (by omega)]; simp [Nat.testBit_mod_two_pow, hw]
    · rw [if_neg hw, if_neg (by omega), Nat.testBit_div_two_pow]; congr 1; omega

/-- The field written holds what was written, cut to its width. -/
@[simp] theorem bits_setBits_self (old lo w v : Nat) : bits (setBits old lo w v) lo w = v % 2 ^ w := by
  apply Nat.eq_of_testBit_eq; intro i
  rw [bits_eq_testBit, setBits_testBit, Nat.testBit_mod_two_pow]
  by_cases h : i < w
  · rw [if_pos (by omega)]; simp [h]
  · simp [h]

/-- A field apart from the one written keeps its value. -/
theorem bits_setBits_disjoint (old lo w v l n : Nat) (h : l + n ≤ lo ∨ lo + w ≤ l) :
    bits (setBits old lo w v) l n = bits old l n := by
  apply Nat.eq_of_testBit_eq; intro i
  rw [bits_eq_testBit, bits_eq_testBit, setBits_testBit]
  by_cases hi : i < n
  · rw [if_neg (by omega)]
  · simp [hi]

theorem setBits_lt {old lo w v m : Nat} (h : old < 2 ^ m) (hw : lo + w ≤ m) : setBits old lo w v < 2 ^ m := by
  apply Nat.lt_pow_two_of_testBit; intro i hi
  rw [setBits_testBit, if_neg (by omega)]
  exact Nat.testBit_lt_two_pow (Nat.lt_of_lt_of_le h (Nat.pow_le_pow_right (by omega) hi))

/-! ### Registers -/

theorem rd_lt (s : State) (a : Nat) : rd s a < 2 ^ 64 := (Sparse.get resetWord s.csr a).isLt

theorem rd_congr {s u : State} (h : u.csr = s.csr) (a : Nat) : rd u a = rd s a := by simp only [rd, h]

@[simp] theorem rd_wr_self (s : State) (a v : Nat) : rd (wr s a v) a = v % 2 ^ 64 := by simp [rd, wr]

theorem rd_wr_ne (s : State) {a b : Nat} (v : Nat) (h : b ≠ a) : rd (wr s a v) b = rd s b := by
  simp only [rd, wr, Sparse.get_set_ne _ _ _ _ _ h]

theorem rd_wr (s : State) (a b v : Nat) : rd (wr s a v) b = if b = a then v % 2 ^ 64 else rd s b := by
  split
  · rename_i h; rw [h, rd_wr_self]
  · rename_i h; exact rd_wr_ne s v h

/-- A write of one register leaves every other. -/
theorem regsKept_wr (s : State) (a v : Nat) : RegsKept s (wr s a v) [a] := fun b h => rd_wr_ne s v (by simpa using h)

theorem regsKept_putF (s : State) (b : Nat) (f : Fld) (v : Nat) : RegsKept s (putF s b f v) [b + f.off] := regsKept_wr s _ _

theorem RegsKept.refl (s : State) (l : List Nat) : RegsKept s s l := fun _ _ => rfl

theorem RegsKept.of_csr {s u : State} (h : u.csr = s.csr) (l : List Nat) : RegsKept s u l := fun a _ => rd_congr h a

theorem RegsKept.trans {s u v : State} {l : List Nat} (h : RegsKept s u l) (h' : RegsKept u v l) : RegsKept s v l :=
  fun a ha => (h' a ha).trans (h a ha)

theorem RegsKept.mono {s u : State} {l m : List Nat} (h : RegsKept s u l) (hs : ∀ a ∈ l, a ∈ m) : RegsKept s u m :=
  fun a ha => h a fun hl => ha (hs a hl)

theorem RegsKept.append {s u v : State} {l m : List Nat} (h : RegsKept s u l) (h' : RegsKept u v m) :
    RegsKept s v (l ++ m) := (h.mono (by simp +contextual)).trans (h'.mono (by simp +contextual))

/-! ### Fields of registers -/

theorem getF_lt (s : State) (b : Nat) (f : Fld) : getF s b f < 2 ^ f.w := bits_lt _ _ _

theorem getF_congr {s u : State} (h : u.csr = s.csr) (b : Nat) (f : Fld) : getF u b f = getF s b f := by
  simp only [getF, rd_congr h]

theorem rd_putF_self (s : State) (b : Nat) (f : Fld) (v : Nat) (h : f.lo + f.w ≤ 64) :
    rd (putF s b f v) (b + f.off) = setBits (rd s (b + f.off)) f.lo f.w v := by
  simp only [putF, rd_wr_self]
  exact Nat.mod_eq_of_lt (setBits_lt (rd_lt s _) h)

theorem rd_putF_ne (s : State) (b : Nat) (f : Fld) (v : Nat) {a : Nat} (h : a ≠ b + f.off) :
    rd (putF s b f v) a = rd s a := rd_wr_ne s _ h

/-- The field written reads as written. -/
theorem getF_putF_self (s : State) (b : Nat) (f : Fld) (v : Nat) (h : f.lo + f.w ≤ 64) :
    getF (putF s b f v) b f = v % 2 ^ f.w := by
  simp only [getF, rd_putF_self s b f v h, bits_setBits_self]

/-- A field of another register keeps its value. -/
theorem getF_putF_ne (s : State) (b c : Nat) (f g : Fld) (v : Nat) (h : c + g.off ≠ b + f.off) :
    getF (putF s b f v) c g = getF s c g := by simp only [getF, rd_putF_ne s b f v h]

/-- Another field of the same register keeps its value. -/
theorem getF_putF_disjoint (s : State) (b : Nat) (f g : Fld) (v : Nat) (ho : g.off = f.off) (hf : f.lo + f.w ≤ 64)
    (h : g.lo + g.w ≤ f.lo ∨ f.lo + f.w ≤ g.lo) : getF (putF s b f v) b g = getF s b g := by
  simp only [getF, ho, rd_putF_self s b f v hf, bits_setBits_disjoint _ _ _ _ _ _ h]

theorem getF_wr_ne (s : State) (a b v : Nat) (f : Fld) (h : b + f.off ≠ a) : getF (wr s a v) b f = getF s b f := by
  simp only [getF, rd_wr_ne s v h]

/-- A count that saturates. -/
theorem getF_incF_self (s : State) (b : Nat) (f : Fld) (n : Nat) (h : f.lo + f.w ≤ 64) :
    getF (incF s b f n) b f = min (2 ^ f.w - 1) (getF s b f + n) := by
  have : 0 < 2 ^ f.w := Nat.two_pow_pos _
  rw [incF, getF_putF_self s b f _ h, satAdd, Nat.mod_eq_of_lt (by omega)]

/-- A count that wraps. -/
theorem getF_wrapF_self (s : State) (b : Nat) (f : Fld) (n : Nat) (h : f.lo + f.w ≤ 64) :
    getF (wrapF s b f n) b f = (getF s b f + n) % 2 ^ f.w := getF_putF_self s b f _ h

theorem getF_maxF_self (s : State) (b : Nat) (f : Fld) (v : Nat) (h : f.lo + f.w ≤ 64) :
    getF (maxF s b f v) b f = min (2 ^ f.w - 1) (max (getF s b f) v) := by
  have : 0 < 2 ^ f.w := Nat.two_pow_pos _
  rw [maxF, getF_putF_self s b f _ h, Nat.mod_eq_of_lt (by omega)]

theorem getF_setF_self (s : State) (b : Nat) (f : Fld) (h : f.lo + f.w ≤ 64) (hw : 0 < f.w) : getF (setF s b f) b f = 1 := by
  rw [setF, getF_putF_self s b f _ h, Nat.mod_eq_of_lt (Nat.one_lt_two_pow (by omega))]

/-! ### Registers put back to reset -/

theorem rd_resetRegs_drop (s : State) {p : Nat → Bool} {a : Nat} (h : p a = true) :
    rd (resetRegs s p) a = (resetWord a).toNat := by simp only [rd, resetRegs, Sparse.get_drop_of_drop _ _ _ _ h]

theorem rd_resetRegs_keep (s : State) {p : Nat → Bool} {a : Nat} (h : p a = false) : rd (resetRegs s p) a = rd s a := by
  simp only [rd, resetRegs, Sparse.get_drop_of_keep _ _ _ _ h]

/-- The registers' canonical form is kept. -/
theorem csr_wf_wr (s : State) (a v : Nat) (h : Sparse.wf resetWord s.csr = true) :
    Sparse.wf resetWord (wr s a v).csr = true := Sparse.wf_set _ _ h

theorem csr_wf_putF (s : State) (b : Nat) (f : Fld) (v : Nat) (h : Sparse.wf resetWord s.csr = true) :
    Sparse.wf resetWord (putF s b f v).csr = true := csr_wf_wr s _ _ h

theorem csr_wf_resetRegs (s : State) (p : Nat → Bool) (h : Sparse.wf resetWord s.csr = true) :
    Sparse.wf resetWord (resetRegs s p).csr = true := Sparse.wf_drop _ h

/-! ### Tiles, clusters, fields -/

@[simp] theorem tile_setTile_self (s : State) (k : Nat) (t : Tile) : tile (setTile s k t) k = t := Sparse.get_set_self _ _ _ _
theorem tile_setTile_ne (s : State) {k j : Nat} (t : Tile) (h : j ≠ k) : tile (setTile s k t) j = tile s j :=
  Sparse.get_set_ne _ _ _ _ _ h
@[simp] theorem tile_modTile_self (s : State) (k : Nat) (g : Tile → Tile) : tile (modTile s k g) k = g (tile s k) :=
  tile_setTile_self s k _
theorem tile_modTile_ne (s : State) {k j : Nat} (g : Tile → Tile) (h : j ≠ k) : tile (modTile s k g) j = tile s j :=
  tile_setTile_ne s _ h
@[simp] theorem cluster_setCluster_self (s : State) (c : Nat) (v : Cluster) : cluster (setCluster s c v) c = v :=
  Sparse.get_set_self _ _ _ _
theorem cluster_setCluster_ne (s : State) {c j : Nat} (v : Cluster) (h : j ≠ c) :
    cluster (setCluster s c v) j = cluster s j := Sparse.get_set_ne _ _ _ _ _ h
@[simp] theorem cluster_modCluster_self (s : State) (c : Nat) (g : Cluster → Cluster) :
    cluster (modCluster s c g) c = g (cluster s c) := cluster_setCluster_self s c _
theorem cluster_modCluster_ne (s : State) {c j : Nat} (g : Cluster → Cluster) (h : j ≠ c) :
    cluster (modCluster s c g) j = cluster s j := cluster_setCluster_ne s _ h
@[simp] theorem field_setField_self (s : State) (f : Nat) (v : Field) : field (setField s f v) f = v :=
  Sparse.get_set_self _ _ _ _
theorem field_setField_ne (s : State) {f j : Nat} (v : Field) (h : j ≠ f) : field (setField s f v) j = field s j :=
  Sparse.get_set_ne _ _ _ _ _ h
@[simp] theorem field_modField_self (s : State) (f : Nat) (g : Field → Field) : field (modField s f g) f = g (field s f) :=
  field_setField_self s f _
theorem field_modField_ne (s : State) {f j : Nat} (g : Field → Field) (h : j ≠ f) : field (modField s f g) j = field s j :=
  field_setField_ne s _ h

theorem OtherTilesKept.refl (s : State) (k : Nat) : OtherTilesKept s s k := fun _ _ => rfl
theorem OtherTilesKept.trans {s u v : State} {k : Nat} (h : OtherTilesKept s u k) (h' : OtherTilesKept u v k) :
    OtherTilesKept s v k := fun j hj => (h' j hj).trans (h j hj)
theorem otherTilesKept_modTile (s : State) (k : Nat) (g : Tile → Tile) : OtherTilesKept s (modTile s k g) k :=
  fun _ h => tile_modTile_ne s g h
theorem OtherClustersKept.refl (s : State) (c : Nat) : OtherClustersKept s s c := fun _ _ => rfl
theorem OtherClustersKept.trans {s u v : State} {c : Nat} (h : OtherClustersKept s u c) (h' : OtherClustersKept u v c) :
    OtherClustersKept s v c := fun j hj => (h' j hj).trans (h j hj)
theorem otherClustersKept_modCluster (s : State) (c : Nat) (g : Cluster → Cluster) :
    OtherClustersKept s (modCluster s c g) c := fun _ h => cluster_modCluster_ne s g h
theorem OtherFieldsKept.refl (s : State) (f : Nat) : OtherFieldsKept s s f := fun _ _ => rfl
theorem OtherFieldsKept.trans {s u v : State} {f : Nat} (h : OtherFieldsKept s u f) (h' : OtherFieldsKept u v f) :
    OtherFieldsKept s v f := fun j hj => (h' j hj).trans (h j hj)
theorem otherFieldsKept_modField (s : State) (f : Nat) (g : Field → Field) : OtherFieldsKept s (modField s f g) f :=
  fun _ h => field_modField_ne s g h

/-! ### Contexts, queues, requests -/

@[simp] theorem ctxOf_setCtx_self (s : State) (k n : Nat) (c : Ctx) : ctxOf (setCtx s k n c) k n = c := by
  simp [ctxOf, setCtx]
theorem ctxOf_setCtx_ne (s : State) {k n j m : Nat} (c : Ctx) (h : (j, m) ≠ (k, n)) :
    ctxOf (setCtx s k n c) j m = ctxOf s j m := by
  by_cases hj : j = k
  · subst hj
    have hm : m ≠ n := fun hm => h (by rw [hm])
    simp [ctxOf, setCtx, look, put, Sparse.get_set_ne _ _ _ _ _ hm]
  · simp only [ctxOf, setCtx, tile_modTile_ne s _ hj]
@[simp] theorem ctxOf_modCtx_self (s : State) (k n : Nat) (g : Ctx → Ctx) : ctxOf (modCtx s k n g) k n = g (ctxOf s k n) :=
  ctxOf_setCtx_self s k n _
theorem ctxOf_modCtx_ne (s : State) {k n j m : Nat} (g : Ctx → Ctx) (h : (j, m) ≠ (k, n)) :
    ctxOf (modCtx s k n g) j m = ctxOf s j m := ctxOf_setCtx_ne s _ h
@[simp] theorem queueOf_setQueue_self (s : State) (k q : Nat) (l : List Slot) : queueOf (setQueue s k q l) k q = l := by
  simp [queueOf, setQueue]
theorem queueOf_setQueue_ne (s : State) {k q j r : Nat} (l : List Slot) (h : (j, r) ≠ (k, q)) :
    queueOf (setQueue s k q l) j r = queueOf s j r := by
  by_cases hj : j = k
  · subst hj
    have hm : r ≠ q := fun hm => h (by rw [hm])
    simp [queueOf, setQueue, look, put, Sparse.get_set_ne _ _ _ _ _ hm]
  · simp only [queueOf, setQueue, tile_modTile_ne s _ hj]
@[simp] theorem reqsOf_setReqs_self (s : State) (k r : Nat) (l : List XReq) : reqsOf (setReqs s k r l) k r = l := by
  simp [reqsOf, setReqs]
theorem reqsOf_setReqs_ne (s : State) {k r j q : Nat} (l : List XReq) (h : (j, q) ≠ (k, r)) :
    reqsOf (setReqs s k r l) j q = reqsOf s j q := by
  by_cases hj : j = k
  · subst hj
    have hm : q ≠ r := fun hm => h (by rw [hm])
    simp [reqsOf, setReqs, look, put, Sparse.get_set_ne _ _ _ _ _ hm]
  · simp only [reqsOf, setReqs, tile_modTile_ne s _ hj]
/-- A request presented stands behind the others of its requestor. -/
@[simp] theorem reqsOf_present_self (s : State) (k r : Nat) (x : XReq) : reqsOf (present s k r x) k r = reqsOf s k r ++ [{ x with from_ := s.tc + 1 }] :=
  reqsOf_setReqs_self s k r _

/-! ### Life states -/

@[simp] theorem lifeSt_setLife_self (s : State) (k : Nat) (l : LifeSt) : lifeSt (setLife s k l) k = l := by
  simp [lifeSt, setLife]
theorem lifeSt_setLife_ne (s : State) {k j : Nat} (l : LifeSt) (h : j ≠ k) : lifeSt (setLife s k l) j = lifeSt s j := by
  simp [lifeSt, setLife, look, put, Sparse.get_set_ne _ _ _ _ _ h]
theorem lifeSt_setLifeField_in (s : State) {f k : Nat} (l : LifeSt) (h : tileField k = f) :
    lifeSt (setLifeField s f l) k = l := by
  simp [lifeSt, setLifeField, look, put, Sparse.get_drop_of_drop, h]
theorem lifeSt_setLifeField_out (s : State) {f k : Nat} (l : LifeSt) (h : tileField k ≠ f) :
    lifeSt (setLifeField s f l) k = lifeSt s k := by
  simp [lifeSt, setLifeField, look, put, Sparse.get_drop_of_keep, Sparse.get_set_ne _ _ _ _ _ h, h]

/-! ### What reads a part of the state does not see updates of the others -/

variable (s : State)

@[simp] theorem tile_wr (a v : Nat) (j : Nat) : tile (wr s a v) j = tile s j := by simp only [tile, wr_tiles]
@[simp] theorem ctxOf_wr (a v : Nat) (j m : Nat) : ctxOf (wr s a v) j m = ctxOf s j m := by simp only [ctxOf, tile_wr]
@[simp] theorem queueOf_wr (a v : Nat) (j m : Nat) : queueOf (wr s a v) j m = queueOf s j m := by simp only [queueOf, tile_wr]
@[simp] theorem reqsOf_wr (a v : Nat) (j m : Nat) : reqsOf (wr s a v) j m = reqsOf s j m := by simp only [reqsOf, tile_wr]
@[simp] theorem cluster_wr (a v : Nat) (j : Nat) : cluster (wr s a v) j = cluster s j := by simp only [cluster, wr_clusters]
@[simp] theorem field_wr (a v : Nat) (j : Nat) : field (wr s a v) j = field s j := by simp only [field, wr_fields]
@[simp] theorem lifeSt_wr (a v : Nat) (j : Nat) : lifeSt (wr s a v) j = lifeSt s j := by simp only [lifeSt, wr_lifeT, wr_lifeF]
@[simp] theorem tile_putF (b : Nat) (f : Fld) (v : Nat) (j : Nat) : tile (putF s b f v) j = tile s j := by simp only [tile, putF_tiles]
@[simp] theorem ctxOf_putF (b : Nat) (f : Fld) (v : Nat) (j m : Nat) : ctxOf (putF s b f v) j m = ctxOf s j m := by simp only [ctxOf, tile_putF]
@[simp] theorem queueOf_putF (b : Nat) (f : Fld) (v : Nat) (j m : Nat) : queueOf (putF s b f v) j m = queueOf s j m := by simp only [queueOf, tile_putF]
@[simp] theorem reqsOf_putF (b : Nat) (f : Fld) (v : Nat) (j m : Nat) : reqsOf (putF s b f v) j m = reqsOf s j m := by simp only [reqsOf, tile_putF]
@[simp] theorem cluster_putF (b : Nat) (f : Fld) (v : Nat) (j : Nat) : cluster (putF s b f v) j = cluster s j := by simp only [cluster, putF_clusters]
@[simp] theorem field_putF (b : Nat) (f : Fld) (v : Nat) (j : Nat) : field (putF s b f v) j = field s j := by simp only [field, putF_fields]
@[simp] theorem lifeSt_putF (b : Nat) (f : Fld) (v : Nat) (j : Nat) : lifeSt (putF s b f v) j = lifeSt s j := by simp only [lifeSt, putF_lifeT, putF_lifeF]
@[simp] theorem tile_incF (b : Nat) (f : Fld) (v : Nat) (j : Nat) : tile (incF s b f v) j = tile s j := by simp only [tile, incF_tiles]
@[simp] theorem ctxOf_incF (b : Nat) (f : Fld) (v : Nat) (j m : Nat) : ctxOf (incF s b f v) j m = ctxOf s j m := by simp only [ctxOf, tile_incF]
@[simp] theorem queueOf_incF (b : Nat) (f : Fld) (v : Nat) (j m : Nat) : queueOf (incF s b f v) j m = queueOf s j m := by simp only [queueOf, tile_incF]
@[simp] theorem reqsOf_incF (b : Nat) (f : Fld) (v : Nat) (j m : Nat) : reqsOf (incF s b f v) j m = reqsOf s j m := by simp only [reqsOf, tile_incF]
@[simp] theorem cluster_incF (b : Nat) (f : Fld) (v : Nat) (j : Nat) : cluster (incF s b f v) j = cluster s j := by simp only [cluster, incF_clusters]
@[simp] theorem field_incF (b : Nat) (f : Fld) (v : Nat) (j : Nat) : field (incF s b f v) j = field s j := by simp only [field, incF_fields]
@[simp] theorem lifeSt_incF (b : Nat) (f : Fld) (v : Nat) (j : Nat) : lifeSt (incF s b f v) j = lifeSt s j := by simp only [lifeSt, incF_lifeT, incF_lifeF]
@[simp] theorem tile_wrapF (b : Nat) (f : Fld) (v : Nat) (j : Nat) : tile (wrapF s b f v) j = tile s j := by simp only [tile, wrapF_tiles]
@[simp] theorem ctxOf_wrapF (b : Nat) (f : Fld) (v : Nat) (j m : Nat) : ctxOf (wrapF s b f v) j m = ctxOf s j m := by simp only [ctxOf, tile_wrapF]
@[simp] theorem queueOf_wrapF (b : Nat) (f : Fld) (v : Nat) (j m : Nat) : queueOf (wrapF s b f v) j m = queueOf s j m := by simp only [queueOf, tile_wrapF]
@[simp] theorem reqsOf_wrapF (b : Nat) (f : Fld) (v : Nat) (j m : Nat) : reqsOf (wrapF s b f v) j m = reqsOf s j m := by simp only [reqsOf, tile_wrapF]
@[simp] theorem cluster_wrapF (b : Nat) (f : Fld) (v : Nat) (j : Nat) : cluster (wrapF s b f v) j = cluster s j := by simp only [cluster, wrapF_clusters]
@[simp] theorem field_wrapF (b : Nat) (f : Fld) (v : Nat) (j : Nat) : field (wrapF s b f v) j = field s j := by simp only [field, wrapF_fields]
@[simp] theorem lifeSt_wrapF (b : Nat) (f : Fld) (v : Nat) (j : Nat) : lifeSt (wrapF s b f v) j = lifeSt s j := by simp only [lifeSt, wrapF_lifeT, wrapF_lifeF]
@[simp] theorem tile_maxF (b : Nat) (f : Fld) (v : Nat) (j : Nat) : tile (maxF s b f v) j = tile s j := by simp only [tile, maxF_tiles]
@[simp] theorem ctxOf_maxF (b : Nat) (f : Fld) (v : Nat) (j m : Nat) : ctxOf (maxF s b f v) j m = ctxOf s j m := by simp only [ctxOf, tile_maxF]
@[simp] theorem queueOf_maxF (b : Nat) (f : Fld) (v : Nat) (j m : Nat) : queueOf (maxF s b f v) j m = queueOf s j m := by simp only [queueOf, tile_maxF]
@[simp] theorem reqsOf_maxF (b : Nat) (f : Fld) (v : Nat) (j m : Nat) : reqsOf (maxF s b f v) j m = reqsOf s j m := by simp only [reqsOf, tile_maxF]
@[simp] theorem cluster_maxF (b : Nat) (f : Fld) (v : Nat) (j : Nat) : cluster (maxF s b f v) j = cluster s j := by simp only [cluster, maxF_clusters]
@[simp] theorem field_maxF (b : Nat) (f : Fld) (v : Nat) (j : Nat) : field (maxF s b f v) j = field s j := by simp only [field, maxF_fields]
@[simp] theorem lifeSt_maxF (b : Nat) (f : Fld) (v : Nat) (j : Nat) : lifeSt (maxF s b f v) j = lifeSt s j := by simp only [lifeSt, maxF_lifeT, maxF_lifeF]
@[simp] theorem tile_setF (b : Nat) (f : Fld) (j : Nat) : tile (setF s b f) j = tile s j := by simp only [tile, setF_tiles]
@[simp] theorem ctxOf_setF (b : Nat) (f : Fld) (j m : Nat) : ctxOf (setF s b f) j m = ctxOf s j m := by simp only [ctxOf, tile_setF]
@[simp] theorem queueOf_setF (b : Nat) (f : Fld) (j m : Nat) : queueOf (setF s b f) j m = queueOf s j m := by simp only [queueOf, tile_setF]
@[simp] theorem reqsOf_setF (b : Nat) (f : Fld) (j m : Nat) : reqsOf (setF s b f) j m = reqsOf s j m := by simp only [reqsOf, tile_setF]
@[simp] theorem cluster_setF (b : Nat) (f : Fld) (j : Nat) : cluster (setF s b f) j = cluster s j := by simp only [cluster, setF_clusters]
@[simp] theorem field_setF (b : Nat) (f : Fld) (j : Nat) : field (setF s b f) j = field s j := by simp only [field, setF_fields]
@[simp] theorem lifeSt_setF (b : Nat) (f : Fld) (j : Nat) : lifeSt (setF s b f) j = lifeSt s j := by simp only [lifeSt, setF_lifeT, setF_lifeF]
@[simp] theorem tile_resetRegs (p : Nat → Bool) (j : Nat) : tile (resetRegs s p) j = tile s j := by simp only [tile, resetRegs_tiles]
@[simp] theorem ctxOf_resetRegs (p : Nat → Bool) (j m : Nat) : ctxOf (resetRegs s p) j m = ctxOf s j m := by simp only [ctxOf, tile_resetRegs]
@[simp] theorem queueOf_resetRegs (p : Nat → Bool) (j m : Nat) : queueOf (resetRegs s p) j m = queueOf s j m := by simp only [queueOf, tile_resetRegs]
@[simp] theorem reqsOf_resetRegs (p : Nat → Bool) (j m : Nat) : reqsOf (resetRegs s p) j m = reqsOf s j m := by simp only [reqsOf, tile_resetRegs]
@[simp] theorem cluster_resetRegs (p : Nat → Bool) (j : Nat) : cluster (resetRegs s p) j = cluster s j := by simp only [cluster, resetRegs_clusters]
@[simp] theorem field_resetRegs (p : Nat → Bool) (j : Nat) : field (resetRegs s p) j = field s j := by simp only [field, resetRegs_fields]
@[simp] theorem lifeSt_resetRegs (p : Nat → Bool) (j : Nat) : lifeSt (resetRegs s p) j = lifeSt s j := by simp only [lifeSt, resetRegs_lifeT, resetRegs_lifeF]
@[simp] theorem rd_setTile (k : Nat) (t : Tile) (j : Nat) : rd (setTile s k t) j = rd s j := by simp only [rd, setTile_csr]
@[simp] theorem getF_setTile (k : Nat) (t : Tile) (j : Nat) (h : Fld) : getF (setTile s k t) j h = getF s j h := by simp only [getF, rd_setTile]
@[simp] theorem isF_setTile (k : Nat) (t : Tile) (j : Nat) (h : Fld) : isF (setTile s k t) j h = isF s j h := by simp only [isF, getF_setTile]
@[simp] theorem cluster_setTile (k : Nat) (t : Tile) (j : Nat) : cluster (setTile s k t) j = cluster s j := by simp only [cluster, setTile_clusters]
@[simp] theorem field_setTile (k : Nat) (t : Tile) (j : Nat) : field (setTile s k t) j = field s j := by simp only [field, setTile_fields]
@[simp] theorem backed_setTile (k : Nat) (t : Tile) (j : Nat) : backed (setTile s k t) j = backed s j := by simp only [backed, getF_setTile]
@[simp] theorem lifeSt_setTile (k : Nat) (t : Tile) (j : Nat) : lifeSt (setTile s k t) j = lifeSt s j := by simp only [lifeSt, setTile_lifeT, setTile_lifeF]
@[simp] theorem life_setTile (k : Nat) (t : Tile) (j : Nat) : life (setTile s k t) j = life s j := by simp only [life, lifeSt_setTile, backed_setTile]
@[simp] theorem rd_modTile (k : Nat) (g : Tile → Tile) (j : Nat) : rd (modTile s k g) j = rd s j := by simp only [rd, modTile_csr]
@[simp] theorem getF_modTile (k : Nat) (g : Tile → Tile) (j : Nat) (h : Fld) : getF (modTile s k g) j h = getF s j h := by simp only [getF, rd_modTile]
@[simp] theorem isF_modTile (k : Nat) (g : Tile → Tile) (j : Nat) (h : Fld) : isF (modTile s k g) j h = isF s j h := by simp only [isF, getF_modTile]
@[simp] theorem cluster_modTile (k : Nat) (g : Tile → Tile) (j : Nat) : cluster (modTile s k g) j = cluster s j := by simp only [cluster, modTile_clusters]
@[simp] theorem field_modTile (k : Nat) (g : Tile → Tile) (j : Nat) : field (modTile s k g) j = field s j := by simp only [field, modTile_fields]
@[simp] theorem backed_modTile (k : Nat) (g : Tile → Tile) (j : Nat) : backed (modTile s k g) j = backed s j := by simp only [backed, getF_modTile]
@[simp] theorem lifeSt_modTile (k : Nat) (g : Tile → Tile) (j : Nat) : lifeSt (modTile s k g) j = lifeSt s j := by simp only [lifeSt, modTile_lifeT, modTile_lifeF]
@[simp] theorem life_modTile (k : Nat) (g : Tile → Tile) (j : Nat) : life (modTile s k g) j = life s j := by simp only [life, lifeSt_modTile, backed_modTile]
@[simp] theorem rd_setCtx (k n : Nat) (c : Ctx) (j : Nat) : rd (setCtx s k n c) j = rd s j := by simp only [rd, setCtx_csr]
@[simp] theorem getF_setCtx (k n : Nat) (c : Ctx) (j : Nat) (h : Fld) : getF (setCtx s k n c) j h = getF s j h := by simp only [getF, rd_setCtx]
@[simp] theorem isF_setCtx (k n : Nat) (c : Ctx) (j : Nat) (h : Fld) : isF (setCtx s k n c) j h = isF s j h := by simp only [isF, getF_setCtx]
@[simp] theorem cluster_setCtx (k n : Nat) (c : Ctx) (j : Nat) : cluster (setCtx s k n c) j = cluster s j := by simp only [cluster, setCtx_clusters]
@[simp] theorem field_setCtx (k n : Nat) (c : Ctx) (j : Nat) : field (setCtx s k n c) j = field s j := by simp only [field, setCtx_fields]
@[simp] theorem backed_setCtx (k n : Nat) (c : Ctx) (j : Nat) : backed (setCtx s k n c) j = backed s j := by simp only [backed, getF_setCtx]
@[simp] theorem lifeSt_setCtx (k n : Nat) (c : Ctx) (j : Nat) : lifeSt (setCtx s k n c) j = lifeSt s j := by simp only [lifeSt, setCtx_lifeT, setCtx_lifeF]
@[simp] theorem life_setCtx (k n : Nat) (c : Ctx) (j : Nat) : life (setCtx s k n c) j = life s j := by simp only [life, lifeSt_setCtx, backed_setCtx]
@[simp] theorem rd_modCtx (k n : Nat) (g : Ctx → Ctx) (j : Nat) : rd (modCtx s k n g) j = rd s j := by simp only [rd, modCtx_csr]
@[simp] theorem getF_modCtx (k n : Nat) (g : Ctx → Ctx) (j : Nat) (h : Fld) : getF (modCtx s k n g) j h = getF s j h := by simp only [getF, rd_modCtx]
@[simp] theorem isF_modCtx (k n : Nat) (g : Ctx → Ctx) (j : Nat) (h : Fld) : isF (modCtx s k n g) j h = isF s j h := by simp only [isF, getF_modCtx]
@[simp] theorem cluster_modCtx (k n : Nat) (g : Ctx → Ctx) (j : Nat) : cluster (modCtx s k n g) j = cluster s j := by simp only [cluster, modCtx_clusters]
@[simp] theorem field_modCtx (k n : Nat) (g : Ctx → Ctx) (j : Nat) : field (modCtx s k n g) j = field s j := by simp only [field, modCtx_fields]
@[simp] theorem backed_modCtx (k n : Nat) (g : Ctx → Ctx) (j : Nat) : backed (modCtx s k n g) j = backed s j := by simp only [backed, getF_modCtx]
@[simp] theorem lifeSt_modCtx (k n : Nat) (g : Ctx → Ctx) (j : Nat) : lifeSt (modCtx s k n g) j = lifeSt s j := by simp only [lifeSt, modCtx_lifeT, modCtx_lifeF]
@[simp] theorem life_modCtx (k n : Nat) (g : Ctx → Ctx) (j : Nat) : life (modCtx s k n g) j = life s j := by simp only [life, lifeSt_modCtx, backed_modCtx]
@[simp] theorem rd_setQueue (k q : Nat) (l : List Slot) (j : Nat) : rd (setQueue s k q l) j = rd s j := by simp only [rd, setQueue_csr]
@[simp] theorem getF_setQueue (k q : Nat) (l : List Slot) (j : Nat) (h : Fld) : getF (setQueue s k q l) j h = getF s j h := by simp only [getF, rd_setQueue]
@[simp] theorem isF_setQueue (k q : Nat) (l : List Slot) (j : Nat) (h : Fld) : isF (setQueue s k q l) j h = isF s j h := by simp only [isF, getF_setQueue]
@[simp] theorem cluster_setQueue (k q : Nat) (l : List Slot) (j : Nat) : cluster (setQueue s k q l) j = cluster s j := by simp only [cluster, setQueue_clusters]
@[simp] theorem field_setQueue (k q : Nat) (l : List Slot) (j : Nat) : field (setQueue s k q l) j = field s j := by simp only [field, setQueue_fields]
@[simp] theorem backed_setQueue (k q : Nat) (l : List Slot) (j : Nat) : backed (setQueue s k q l) j = backed s j := by simp only [backed, getF_setQueue]
@[simp] theorem lifeSt_setQueue (k q : Nat) (l : List Slot) (j : Nat) : lifeSt (setQueue s k q l) j = lifeSt s j := by simp only [lifeSt, setQueue_lifeT, setQueue_lifeF]
@[simp] theorem life_setQueue (k q : Nat) (l : List Slot) (j : Nat) : life (setQueue s k q l) j = life s j := by simp only [life, lifeSt_setQueue, backed_setQueue]
@[simp] theorem rd_setReqs (k r : Nat) (l : List XReq) (j : Nat) : rd (setReqs s k r l) j = rd s j := by simp only [rd, setReqs_csr]
@[simp] theorem getF_setReqs (k r : Nat) (l : List XReq) (j : Nat) (h : Fld) : getF (setReqs s k r l) j h = getF s j h := by simp only [getF, rd_setReqs]
@[simp] theorem isF_setReqs (k r : Nat) (l : List XReq) (j : Nat) (h : Fld) : isF (setReqs s k r l) j h = isF s j h := by simp only [isF, getF_setReqs]
@[simp] theorem cluster_setReqs (k r : Nat) (l : List XReq) (j : Nat) : cluster (setReqs s k r l) j = cluster s j := by simp only [cluster, setReqs_clusters]
@[simp] theorem field_setReqs (k r : Nat) (l : List XReq) (j : Nat) : field (setReqs s k r l) j = field s j := by simp only [field, setReqs_fields]
@[simp] theorem backed_setReqs (k r : Nat) (l : List XReq) (j : Nat) : backed (setReqs s k r l) j = backed s j := by simp only [backed, getF_setReqs]
@[simp] theorem lifeSt_setReqs (k r : Nat) (l : List XReq) (j : Nat) : lifeSt (setReqs s k r l) j = lifeSt s j := by simp only [lifeSt, setReqs_lifeT, setReqs_lifeF]
@[simp] theorem life_setReqs (k r : Nat) (l : List XReq) (j : Nat) : life (setReqs s k r l) j = life s j := by simp only [life, lifeSt_setReqs, backed_setReqs]
@[simp] theorem rd_present (k r : Nat) (x : XReq) (j : Nat) : rd (present s k r x) j = rd s j := by simp only [rd, present_csr]
@[simp] theorem getF_present (k r : Nat) (x : XReq) (j : Nat) (h : Fld) : getF (present s k r x) j h = getF s j h := by simp only [getF, rd_present]
@[simp] theorem isF_present (k r : Nat) (x : XReq) (j : Nat) (h : Fld) : isF (present s k r x) j h = isF s j h := by simp only [isF, getF_present]
@[simp] theorem cluster_present (k r : Nat) (x : XReq) (j : Nat) : cluster (present s k r x) j = cluster s j := by simp only [cluster, present_clusters]
@[simp] theorem field_present (k r : Nat) (x : XReq) (j : Nat) : field (present s k r x) j = field s j := by simp only [field, present_fields]
@[simp] theorem backed_present (k r : Nat) (x : XReq) (j : Nat) : backed (present s k r x) j = backed s j := by simp only [backed, getF_present]
@[simp] theorem lifeSt_present (k r : Nat) (x : XReq) (j : Nat) : lifeSt (present s k r x) j = lifeSt s j := by simp only [lifeSt, present_lifeT, present_lifeF]
@[simp] theorem life_present (k r : Nat) (x : XReq) (j : Nat) : life (present s k r x) j = life s j := by simp only [life, lifeSt_present, backed_present]
@[simp] theorem rd_event (k c e : Nat) (j : Nat) : rd (event s k c e) j = rd s j := by simp only [rd, event_csr]
@[simp] theorem getF_event (k c e : Nat) (j : Nat) (h : Fld) : getF (event s k c e) j h = getF s j h := by simp only [getF, rd_event]
@[simp] theorem isF_event (k c e : Nat) (j : Nat) (h : Fld) : isF (event s k c e) j h = isF s j h := by simp only [isF, getF_event]
@[simp] theorem cluster_event (k c e : Nat) (j : Nat) : cluster (event s k c e) j = cluster s j := by simp only [cluster, event_clusters]
@[simp] theorem field_event (k c e : Nat) (j : Nat) : field (event s k c e) j = field s j := by simp only [field, event_fields]
@[simp] theorem backed_event (k c e : Nat) (j : Nat) : backed (event s k c e) j = backed s j := by simp only [backed, getF_event]
@[simp] theorem lifeSt_event (k c e : Nat) (j : Nat) : lifeSt (event s k c e) j = lifeSt s j := by simp only [lifeSt, event_lifeT, event_lifeF]
@[simp] theorem life_event (k c e : Nat) (j : Nat) : life (event s k c e) j = life s j := by simp only [life, lifeSt_event, backed_event]
@[simp] theorem rd_setIb (k pc : Nat) (v : Word) (bad : Bool) (j : Nat) : rd (setIb s k pc v bad) j = rd s j := by simp only [rd, setIb_csr]
@[simp] theorem getF_setIb (k pc : Nat) (v : Word) (bad : Bool) (j : Nat) (h : Fld) : getF (setIb s k pc v bad) j h = getF s j h := by simp only [getF, rd_setIb]
@[simp] theorem isF_setIb (k pc : Nat) (v : Word) (bad : Bool) (j : Nat) (h : Fld) : isF (setIb s k pc v bad) j h = isF s j h := by simp only [isF, getF_setIb]
@[simp] theorem cluster_setIb (k pc : Nat) (v : Word) (bad : Bool) (j : Nat) : cluster (setIb s k pc v bad) j = cluster s j := by simp only [cluster, setIb_clusters]
@[simp] theorem field_setIb (k pc : Nat) (v : Word) (bad : Bool) (j : Nat) : field (setIb s k pc v bad) j = field s j := by simp only [field, setIb_fields]
@[simp] theorem backed_setIb (k pc : Nat) (v : Word) (bad : Bool) (j : Nat) : backed (setIb s k pc v bad) j = backed s j := by simp only [backed, getF_setIb]
@[simp] theorem lifeSt_setIb (k pc : Nat) (v : Word) (bad : Bool) (j : Nat) : lifeSt (setIb s k pc v bad) j = lifeSt s j := by simp only [lifeSt, setIb_lifeT, setIb_lifeF]
@[simp] theorem life_setIb (k pc : Nat) (v : Word) (bad : Bool) (j : Nat) : life (setIb s k pc v bad) j = life s j := by simp only [life, lifeSt_setIb, backed_setIb]
@[simp] theorem rd_rowDone (k n a : Nat) (j : Nat) : rd (rowDone s k n a) j = rd s j := by simp only [rd, rowDone_csr]
@[simp] theorem getF_rowDone (k n a : Nat) (j : Nat) (h : Fld) : getF (rowDone s k n a) j h = getF s j h := by simp only [getF, rd_rowDone]
@[simp] theorem isF_rowDone (k n a : Nat) (j : Nat) (h : Fld) : isF (rowDone s k n a) j h = isF s j h := by simp only [isF, getF_rowDone]
@[simp] theorem cluster_rowDone (k n a : Nat) (j : Nat) : cluster (rowDone s k n a) j = cluster s j := by simp only [cluster, rowDone_clusters]
@[simp] theorem field_rowDone (k n a : Nat) (j : Nat) : field (rowDone s k n a) j = field s j := by simp only [field, rowDone_fields]
@[simp] theorem backed_rowDone (k n a : Nat) (j : Nat) : backed (rowDone s k n a) j = backed s j := by simp only [backed, getF_rowDone]
@[simp] theorem lifeSt_rowDone (k n a : Nat) (j : Nat) : lifeSt (rowDone s k n a) j = lifeSt s j := by simp only [lifeSt, rowDone_lifeT, rowDone_lifeF]
@[simp] theorem life_rowDone (k n a : Nat) (j : Nat) : life (rowDone s k n a) j = life s j := by simp only [life, lifeSt_rowDone, backed_rowDone]
@[simp] theorem rd_storeDone (k n bp : Nat) (j : Nat) : rd (storeDone s k n bp) j = rd s j := by simp only [rd, storeDone_csr]
@[simp] theorem getF_storeDone (k n bp : Nat) (j : Nat) (h : Fld) : getF (storeDone s k n bp) j h = getF s j h := by simp only [getF, rd_storeDone]
@[simp] theorem isF_storeDone (k n bp : Nat) (j : Nat) (h : Fld) : isF (storeDone s k n bp) j h = isF s j h := by simp only [isF, getF_storeDone]
@[simp] theorem cluster_storeDone (k n bp : Nat) (j : Nat) : cluster (storeDone s k n bp) j = cluster s j := by simp only [cluster, storeDone_clusters]
@[simp] theorem field_storeDone (k n bp : Nat) (j : Nat) : field (storeDone s k n bp) j = field s j := by simp only [field, storeDone_fields]
@[simp] theorem backed_storeDone (k n bp : Nat) (j : Nat) : backed (storeDone s k n bp) j = backed s j := by simp only [backed, getF_storeDone]
@[simp] theorem lifeSt_storeDone (k n bp : Nat) (j : Nat) : lifeSt (storeDone s k n bp) j = lifeSt s j := by simp only [lifeSt, storeDone_lifeT, storeDone_lifeF]
@[simp] theorem life_storeDone (k n bp : Nat) (j : Nat) : life (storeDone s k n bp) j = life s j := by simp only [life, lifeSt_storeDone, backed_storeDone]
@[simp] theorem rd_setCluster (c : Nat) (v : Cluster) (j : Nat) : rd (setCluster s c v) j = rd s j := by simp only [rd, setCluster_csr]
@[simp] theorem getF_setCluster (c : Nat) (v : Cluster) (j : Nat) (h : Fld) : getF (setCluster s c v) j h = getF s j h := by simp only [getF, rd_setCluster]
@[simp] theorem isF_setCluster (c : Nat) (v : Cluster) (j : Nat) (h : Fld) : isF (setCluster s c v) j h = isF s j h := by simp only [isF, getF_setCluster]
@[simp] theorem tile_setCluster (c : Nat) (v : Cluster) (j : Nat) : tile (setCluster s c v) j = tile s j := by simp only [tile, setCluster_tiles]
@[simp] theorem ctxOf_setCluster (c : Nat) (v : Cluster) (j m : Nat) : ctxOf (setCluster s c v) j m = ctxOf s j m := by simp only [ctxOf, tile_setCluster]
@[simp] theorem queueOf_setCluster (c : Nat) (v : Cluster) (j m : Nat) : queueOf (setCluster s c v) j m = queueOf s j m := by simp only [queueOf, tile_setCluster]
@[simp] theorem reqsOf_setCluster (c : Nat) (v : Cluster) (j m : Nat) : reqsOf (setCluster s c v) j m = reqsOf s j m := by simp only [reqsOf, tile_setCluster]
@[simp] theorem field_setCluster (c : Nat) (v : Cluster) (j : Nat) : field (setCluster s c v) j = field s j := by simp only [field, setCluster_fields]
@[simp] theorem backed_setCluster (c : Nat) (v : Cluster) (j : Nat) : backed (setCluster s c v) j = backed s j := by simp only [backed, getF_setCluster]
@[simp] theorem lifeSt_setCluster (c : Nat) (v : Cluster) (j : Nat) : lifeSt (setCluster s c v) j = lifeSt s j := by simp only [lifeSt, setCluster_lifeT, setCluster_lifeF]
@[simp] theorem life_setCluster (c : Nat) (v : Cluster) (j : Nat) : life (setCluster s c v) j = life s j := by simp only [life, lifeSt_setCluster, backed_setCluster]
@[simp] theorem rd_modCluster (c : Nat) (g : Cluster → Cluster) (j : Nat) : rd (modCluster s c g) j = rd s j := by simp only [rd, modCluster_csr]
@[simp] theorem getF_modCluster (c : Nat) (g : Cluster → Cluster) (j : Nat) (h : Fld) : getF (modCluster s c g) j h = getF s j h := by simp only [getF, rd_modCluster]
@[simp] theorem isF_modCluster (c : Nat) (g : Cluster → Cluster) (j : Nat) (h : Fld) : isF (modCluster s c g) j h = isF s j h := by simp only [isF, getF_modCluster]
@[simp] theorem tile_modCluster (c : Nat) (g : Cluster → Cluster) (j : Nat) : tile (modCluster s c g) j = tile s j := by simp only [tile, modCluster_tiles]
@[simp] theorem ctxOf_modCluster (c : Nat) (g : Cluster → Cluster) (j m : Nat) : ctxOf (modCluster s c g) j m = ctxOf s j m := by simp only [ctxOf, tile_modCluster]
@[simp] theorem queueOf_modCluster (c : Nat) (g : Cluster → Cluster) (j m : Nat) : queueOf (modCluster s c g) j m = queueOf s j m := by simp only [queueOf, tile_modCluster]
@[simp] theorem reqsOf_modCluster (c : Nat) (g : Cluster → Cluster) (j m : Nat) : reqsOf (modCluster s c g) j m = reqsOf s j m := by simp only [reqsOf, tile_modCluster]
@[simp] theorem field_modCluster (c : Nat) (g : Cluster → Cluster) (j : Nat) : field (modCluster s c g) j = field s j := by simp only [field, modCluster_fields]
@[simp] theorem backed_modCluster (c : Nat) (g : Cluster → Cluster) (j : Nat) : backed (modCluster s c g) j = backed s j := by simp only [backed, getF_modCluster]
@[simp] theorem lifeSt_modCluster (c : Nat) (g : Cluster → Cluster) (j : Nat) : lifeSt (modCluster s c g) j = lifeSt s j := by simp only [lifeSt, modCluster_lifeT, modCluster_lifeF]
@[simp] theorem life_modCluster (c : Nat) (g : Cluster → Cluster) (j : Nat) : life (modCluster s c g) j = life s j := by simp only [life, lifeSt_modCluster, backed_modCluster]
@[simp] theorem rd_setField (f : Nat) (v : Field) (j : Nat) : rd (setField s f v) j = rd s j := by simp only [rd, setField_csr]
@[simp] theorem getF_setField (f : Nat) (v : Field) (j : Nat) (h : Fld) : getF (setField s f v) j h = getF s j h := by simp only [getF, rd_setField]
@[simp] theorem isF_setField (f : Nat) (v : Field) (j : Nat) (h : Fld) : isF (setField s f v) j h = isF s j h := by simp only [isF, getF_setField]
@[simp] theorem tile_setField (f : Nat) (v : Field) (j : Nat) : tile (setField s f v) j = tile s j := by simp only [tile, setField_tiles]
@[simp] theorem ctxOf_setField (f : Nat) (v : Field) (j m : Nat) : ctxOf (setField s f v) j m = ctxOf s j m := by simp only [ctxOf, tile_setField]
@[simp] theorem queueOf_setField (f : Nat) (v : Field) (j m : Nat) : queueOf (setField s f v) j m = queueOf s j m := by simp only [queueOf, tile_setField]
@[simp] theorem reqsOf_setField (f : Nat) (v : Field) (j m : Nat) : reqsOf (setField s f v) j m = reqsOf s j m := by simp only [reqsOf, tile_setField]
@[simp] theorem cluster_setField (f : Nat) (v : Field) (j : Nat) : cluster (setField s f v) j = cluster s j := by simp only [cluster, setField_clusters]
@[simp] theorem backed_setField (f : Nat) (v : Field) (j : Nat) : backed (setField s f v) j = backed s j := by simp only [backed, getF_setField]
@[simp] theorem lifeSt_setField (f : Nat) (v : Field) (j : Nat) : lifeSt (setField s f v) j = lifeSt s j := by simp only [lifeSt, setField_lifeT, setField_lifeF]
@[simp] theorem life_setField (f : Nat) (v : Field) (j : Nat) : life (setField s f v) j = life s j := by simp only [life, lifeSt_setField, backed_setField]
@[simp] theorem rd_modField (f : Nat) (g : Field → Field) (j : Nat) : rd (modField s f g) j = rd s j := by simp only [rd, modField_csr]
@[simp] theorem getF_modField (f : Nat) (g : Field → Field) (j : Nat) (h : Fld) : getF (modField s f g) j h = getF s j h := by simp only [getF, rd_modField]
@[simp] theorem isF_modField (f : Nat) (g : Field → Field) (j : Nat) (h : Fld) : isF (modField s f g) j h = isF s j h := by simp only [isF, getF_modField]
@[simp] theorem tile_modField (f : Nat) (g : Field → Field) (j : Nat) : tile (modField s f g) j = tile s j := by simp only [tile, modField_tiles]
@[simp] theorem ctxOf_modField (f : Nat) (g : Field → Field) (j m : Nat) : ctxOf (modField s f g) j m = ctxOf s j m := by simp only [ctxOf, tile_modField]
@[simp] theorem queueOf_modField (f : Nat) (g : Field → Field) (j m : Nat) : queueOf (modField s f g) j m = queueOf s j m := by simp only [queueOf, tile_modField]
@[simp] theorem reqsOf_modField (f : Nat) (g : Field → Field) (j m : Nat) : reqsOf (modField s f g) j m = reqsOf s j m := by simp only [reqsOf, tile_modField]
@[simp] theorem cluster_modField (f : Nat) (g : Field → Field) (j : Nat) : cluster (modField s f g) j = cluster s j := by simp only [cluster, modField_clusters]
@[simp] theorem backed_modField (f : Nat) (g : Field → Field) (j : Nat) : backed (modField s f g) j = backed s j := by simp only [backed, getF_modField]
@[simp] theorem lifeSt_modField (f : Nat) (g : Field → Field) (j : Nat) : lifeSt (modField s f g) j = lifeSt s j := by simp only [lifeSt, modField_lifeT, modField_lifeF]
@[simp] theorem life_modField (f : Nat) (g : Field → Field) (j : Nat) : life (modField s f g) j = life s j := by simp only [life, lifeSt_modField, backed_modField]
@[simp] theorem rd_setLife (k : Nat) (l : LifeSt) (j : Nat) : rd (setLife s k l) j = rd s j := by simp only [rd, setLife_csr]
@[simp] theorem getF_setLife (k : Nat) (l : LifeSt) (j : Nat) (h : Fld) : getF (setLife s k l) j h = getF s j h := by simp only [getF, rd_setLife]
@[simp] theorem isF_setLife (k : Nat) (l : LifeSt) (j : Nat) (h : Fld) : isF (setLife s k l) j h = isF s j h := by simp only [isF, getF_setLife]
@[simp] theorem tile_setLife (k : Nat) (l : LifeSt) (j : Nat) : tile (setLife s k l) j = tile s j := by simp only [tile, setLife_tiles]
@[simp] theorem ctxOf_setLife (k : Nat) (l : LifeSt) (j m : Nat) : ctxOf (setLife s k l) j m = ctxOf s j m := by simp only [ctxOf, tile_setLife]
@[simp] theorem queueOf_setLife (k : Nat) (l : LifeSt) (j m : Nat) : queueOf (setLife s k l) j m = queueOf s j m := by simp only [queueOf, tile_setLife]
@[simp] theorem reqsOf_setLife (k : Nat) (l : LifeSt) (j m : Nat) : reqsOf (setLife s k l) j m = reqsOf s j m := by simp only [reqsOf, tile_setLife]
@[simp] theorem cluster_setLife (k : Nat) (l : LifeSt) (j : Nat) : cluster (setLife s k l) j = cluster s j := by simp only [cluster, setLife_clusters]
@[simp] theorem field_setLife (k : Nat) (l : LifeSt) (j : Nat) : field (setLife s k l) j = field s j := by simp only [field, setLife_fields]
@[simp] theorem backed_setLife (k : Nat) (l : LifeSt) (j : Nat) : backed (setLife s k l) j = backed s j := by simp only [backed, getF_setLife]
@[simp] theorem rd_setLifeField (f : Nat) (l : LifeSt) (j : Nat) : rd (setLifeField s f l) j = rd s j := by simp only [rd, setLifeField_csr]
@[simp] theorem getF_setLifeField (f : Nat) (l : LifeSt) (j : Nat) (h : Fld) : getF (setLifeField s f l) j h = getF s j h := by simp only [getF, rd_setLifeField]
@[simp] theorem isF_setLifeField (f : Nat) (l : LifeSt) (j : Nat) (h : Fld) : isF (setLifeField s f l) j h = isF s j h := by simp only [isF, getF_setLifeField]
@[simp] theorem tile_setLifeField (f : Nat) (l : LifeSt) (j : Nat) : tile (setLifeField s f l) j = tile s j := by simp only [tile, setLifeField_tiles]
@[simp] theorem ctxOf_setLifeField (f : Nat) (l : LifeSt) (j m : Nat) : ctxOf (setLifeField s f l) j m = ctxOf s j m := by simp only [ctxOf, tile_setLifeField]
@[simp] theorem queueOf_setLifeField (f : Nat) (l : LifeSt) (j m : Nat) : queueOf (setLifeField s f l) j m = queueOf s j m := by simp only [queueOf, tile_setLifeField]
@[simp] theorem reqsOf_setLifeField (f : Nat) (l : LifeSt) (j m : Nat) : reqsOf (setLifeField s f l) j m = reqsOf s j m := by simp only [reqsOf, tile_setLifeField]
@[simp] theorem cluster_setLifeField (f : Nat) (l : LifeSt) (j : Nat) : cluster (setLifeField s f l) j = cluster s j := by simp only [cluster, setLifeField_clusters]
@[simp] theorem field_setLifeField (f : Nat) (l : LifeSt) (j : Nat) : field (setLifeField s f l) j = field s j := by simp only [field, setLifeField_fields]
@[simp] theorem backed_setLifeField (f : Nat) (l : LifeSt) (j : Nat) : backed (setLifeField s f l) j = backed s j := by simp only [backed, getF_setLifeField]
@[simp] theorem tile_setTag (k n i : Nat) (p : Bool) (j : Nat) : tile (setTag s k n i p) j = tile s j := by simp only [tile, setTag_tiles]
@[simp] theorem ctxOf_setTag (k n i : Nat) (p : Bool) (j m : Nat) : ctxOf (setTag s k n i p) j m = ctxOf s j m := by simp only [ctxOf, tile_setTag]
@[simp] theorem queueOf_setTag (k n i : Nat) (p : Bool) (j m : Nat) : queueOf (setTag s k n i p) j m = queueOf s j m := by simp only [queueOf, tile_setTag]
@[simp] theorem reqsOf_setTag (k n i : Nat) (p : Bool) (j m : Nat) : reqsOf (setTag s k n i p) j m = reqsOf s j m := by simp only [reqsOf, tile_setTag]
@[simp] theorem cluster_setTag (k n i : Nat) (p : Bool) (j : Nat) : cluster (setTag s k n i p) j = cluster s j := by simp only [cluster, setTag_clusters]
@[simp] theorem field_setTag (k n i : Nat) (p : Bool) (j : Nat) : field (setTag s k n i p) j = field s j := by simp only [field, setTag_fields]
@[simp] theorem lifeSt_setTag (k n i : Nat) (p : Bool) (j : Nat) : lifeSt (setTag s k n i p) j = lifeSt s j := by simp only [lifeSt, setTag_lifeT, setTag_lifeF]
@[simp] theorem tile_setCtxState (k n v : Nat) (j : Nat) : tile (setCtxState s k n v) j = tile s j := by simp only [tile, setCtxState_tiles]
@[simp] theorem ctxOf_setCtxState (k n v : Nat) (j m : Nat) : ctxOf (setCtxState s k n v) j m = ctxOf s j m := by simp only [ctxOf, tile_setCtxState]
@[simp] theorem queueOf_setCtxState (k n v : Nat) (j m : Nat) : queueOf (setCtxState s k n v) j m = queueOf s j m := by simp only [queueOf, tile_setCtxState]
@[simp] theorem reqsOf_setCtxState (k n v : Nat) (j m : Nat) : reqsOf (setCtxState s k n v) j m = reqsOf s j m := by simp only [reqsOf, tile_setCtxState]
@[simp] theorem cluster_setCtxState (k n v : Nat) (j : Nat) : cluster (setCtxState s k n v) j = cluster s j := by simp only [cluster, setCtxState_clusters]
@[simp] theorem field_setCtxState (k n v : Nat) (j : Nat) : field (setCtxState s k n v) j = field s j := by simp only [field, setCtxState_fields]
@[simp] theorem lifeSt_setCtxState (k n v : Nat) (j : Nat) : lifeSt (setCtxState s k n v) j = lifeSt s j := by simp only [lifeSt, setCtxState_lifeT, setCtxState_lifeF]
@[simp] theorem tile_setPc (k n v : Nat) (j : Nat) : tile (setPc s k n v) j = tile s j := by simp only [tile, setPc_tiles]
@[simp] theorem ctxOf_setPc (k n v : Nat) (j m : Nat) : ctxOf (setPc s k n v) j m = ctxOf s j m := by simp only [ctxOf, tile_setPc]
@[simp] theorem queueOf_setPc (k n v : Nat) (j m : Nat) : queueOf (setPc s k n v) j m = queueOf s j m := by simp only [queueOf, tile_setPc]
@[simp] theorem reqsOf_setPc (k n v : Nat) (j m : Nat) : reqsOf (setPc s k n v) j m = reqsOf s j m := by simp only [reqsOf, tile_setPc]
@[simp] theorem cluster_setPc (k n v : Nat) (j : Nat) : cluster (setPc s k n v) j = cluster s j := by simp only [cluster, setPc_clusters]
@[simp] theorem field_setPc (k n v : Nat) (j : Nat) : field (setPc s k n v) j = field s j := by simp only [field, setPc_fields]
@[simp] theorem lifeSt_setPc (k n v : Nat) (j : Nat) : lifeSt (setPc s k n v) j = lifeSt s j := by simp only [lifeSt, setPc_lifeT, setPc_lifeF]
@[simp] theorem rd_poisonRowSet (c r : Nat) (j : Nat) : rd (poisonRowSet s c r) j = rd s j := by simp only [rd, poisonRowSet_csr]
@[simp] theorem getF_poisonRowSet (c r : Nat) (j : Nat) (h : Fld) : getF (poisonRowSet s c r) j h = getF s j h := by simp only [getF, rd_poisonRowSet]
@[simp] theorem isF_poisonRowSet (c r : Nat) (j : Nat) (h : Fld) : isF (poisonRowSet s c r) j h = isF s j h := by simp only [isF, getF_poisonRowSet]
@[simp] theorem tile_poisonRowSet (c r : Nat) (j : Nat) : tile (poisonRowSet s c r) j = tile s j := by simp only [tile, poisonRowSet_tiles]
@[simp] theorem ctxOf_poisonRowSet (c r : Nat) (j m : Nat) : ctxOf (poisonRowSet s c r) j m = ctxOf s j m := by simp only [ctxOf, tile_poisonRowSet]
@[simp] theorem queueOf_poisonRowSet (c r : Nat) (j m : Nat) : queueOf (poisonRowSet s c r) j m = queueOf s j m := by simp only [queueOf, tile_poisonRowSet]
@[simp] theorem reqsOf_poisonRowSet (c r : Nat) (j m : Nat) : reqsOf (poisonRowSet s c r) j m = reqsOf s j m := by simp only [reqsOf, tile_poisonRowSet]
@[simp] theorem cluster_poisonRowSet (c r : Nat) (j : Nat) : cluster (poisonRowSet s c r) j = cluster s j := by simp only [cluster, poisonRowSet_clusters]
@[simp] theorem field_poisonRowSet (c r : Nat) (j : Nat) : field (poisonRowSet s c r) j = field s j := by simp only [field, poisonRowSet_fields]
@[simp] theorem backed_poisonRowSet (c r : Nat) (j : Nat) : backed (poisonRowSet s c r) j = backed s j := by simp only [backed, getF_poisonRowSet]
@[simp] theorem lifeSt_poisonRowSet (c r : Nat) (j : Nat) : lifeSt (poisonRowSet s c r) j = lifeSt s j := by simp only [lifeSt, poisonRowSet_lifeT, poisonRowSet_lifeF]
@[simp] theorem life_poisonRowSet (c r : Nat) (j : Nat) : life (poisonRowSet s c r) j = life s j := by simp only [life, lifeSt_poisonRowSet, backed_poisonRowSet]
@[simp] theorem rd_putBytes (a : Nat) (bs : List Byte) (j : Nat) : rd (putBytes s a bs) j = rd s j := by simp only [rd, putBytes_csr]
@[simp] theorem getF_putBytes (a : Nat) (bs : List Byte) (j : Nat) (h : Fld) : getF (putBytes s a bs) j h = getF s j h := by simp only [getF, rd_putBytes]
@[simp] theorem isF_putBytes (a : Nat) (bs : List Byte) (j : Nat) (h : Fld) : isF (putBytes s a bs) j h = isF s j h := by simp only [isF, getF_putBytes]
@[simp] theorem tile_putBytes (a : Nat) (bs : List Byte) (j : Nat) : tile (putBytes s a bs) j = tile s j := by simp only [tile, putBytes_tiles]
@[simp] theorem ctxOf_putBytes (a : Nat) (bs : List Byte) (j m : Nat) : ctxOf (putBytes s a bs) j m = ctxOf s j m := by simp only [ctxOf, tile_putBytes]
@[simp] theorem queueOf_putBytes (a : Nat) (bs : List Byte) (j m : Nat) : queueOf (putBytes s a bs) j m = queueOf s j m := by simp only [queueOf, tile_putBytes]
@[simp] theorem reqsOf_putBytes (a : Nat) (bs : List Byte) (j m : Nat) : reqsOf (putBytes s a bs) j m = reqsOf s j m := by simp only [reqsOf, tile_putBytes]
@[simp] theorem cluster_putBytes (a : Nat) (bs : List Byte) (j : Nat) : cluster (putBytes s a bs) j = cluster s j := by simp only [cluster, putBytes_clusters]
@[simp] theorem field_putBytes (a : Nat) (bs : List Byte) (j : Nat) : field (putBytes s a bs) j = field s j := by simp only [field, putBytes_fields]
@[simp] theorem backed_putBytes (a : Nat) (bs : List Byte) (j : Nat) : backed (putBytes s a bs) j = backed s j := by simp only [backed, getF_putBytes]
@[simp] theorem lifeSt_putBytes (a : Nat) (bs : List Byte) (j : Nat) : lifeSt (putBytes s a bs) j = lifeSt s j := by simp only [lifeSt, putBytes_lifeT, putBytes_lifeF]
@[simp] theorem life_putBytes (a : Nat) (bs : List Byte) (j : Nat) : life (putBytes s a bs) j = life s j := by simp only [life, lifeSt_putBytes, backed_putBytes]
@[simp] theorem tile_condition (n code : Nat) (j : Nat) : tile (condition s n code) j = tile s j := by simp only [tile, condition_tiles]
@[simp] theorem ctxOf_condition (n code : Nat) (j m : Nat) : ctxOf (condition s n code) j m = ctxOf s j m := by simp only [ctxOf, tile_condition]
@[simp] theorem queueOf_condition (n code : Nat) (j m : Nat) : queueOf (condition s n code) j m = queueOf s j m := by simp only [queueOf, tile_condition]
@[simp] theorem reqsOf_condition (n code : Nat) (j m : Nat) : reqsOf (condition s n code) j m = reqsOf s j m := by simp only [reqsOf, tile_condition]
@[simp] theorem cluster_condition (n code : Nat) (j : Nat) : cluster (condition s n code) j = cluster s j := by simp only [cluster, condition_clusters]
@[simp] theorem field_condition (n code : Nat) (j : Nat) : field (condition s n code) j = field s j := by simp only [field, condition_fields]
@[simp] theorem lifeSt_condition (n code : Nat) (j : Nat) : lifeSt (condition s n code) j = lifeSt s j := by simp only [lifeSt, condition_lifeT, condition_lifeF]
@[simp] theorem rd_pulse (n : Nat) (j : Nat) : rd (pulse s n) j = rd s j := by simp only [rd, pulse_csr]
@[simp] theorem getF_pulse (n : Nat) (j : Nat) (h : Fld) : getF (pulse s n) j h = getF s j h := by simp only [getF, rd_pulse]
@[simp] theorem isF_pulse (n : Nat) (j : Nat) (h : Fld) : isF (pulse s n) j h = isF s j h := by simp only [isF, getF_pulse]
@[simp] theorem tile_pulse (n : Nat) (j : Nat) : tile (pulse s n) j = tile s j := by simp only [tile, pulse_tiles]
@[simp] theorem ctxOf_pulse (n : Nat) (j m : Nat) : ctxOf (pulse s n) j m = ctxOf s j m := by simp only [ctxOf, tile_pulse]
@[simp] theorem queueOf_pulse (n : Nat) (j m : Nat) : queueOf (pulse s n) j m = queueOf s j m := by simp only [queueOf, tile_pulse]
@[simp] theorem reqsOf_pulse (n : Nat) (j m : Nat) : reqsOf (pulse s n) j m = reqsOf s j m := by simp only [reqsOf, tile_pulse]
@[simp] theorem cluster_pulse (n : Nat) (j : Nat) : cluster (pulse s n) j = cluster s j := by simp only [cluster, pulse_clusters]
@[simp] theorem field_pulse (n : Nat) (j : Nat) : field (pulse s n) j = field s j := by simp only [field, pulse_fields]
@[simp] theorem backed_pulse (n : Nat) (j : Nat) : backed (pulse s n) j = backed s j := by simp only [backed, getF_pulse]
@[simp] theorem lifeSt_pulse (n : Nat) (j : Nat) : lifeSt (pulse s n) j = lifeSt s j := by simp only [lifeSt, pulse_lifeT, pulse_lifeF]
@[simp] theorem life_pulse (n : Nat) (j : Nat) : life (pulse s n) j = life s j := by simp only [life, lifeSt_pulse, backed_pulse]
@[simp] theorem tile_setFirnQ (st : Nat) (l : List FirnTx) (j : Nat) : tile (setFirnQ s st l) j = tile s j := by simp only [tile, setFirnQ_tiles]
@[simp] theorem ctxOf_setFirnQ (st : Nat) (l : List FirnTx) (j m : Nat) : ctxOf (setFirnQ s st l) j m = ctxOf s j m := by simp only [ctxOf, tile_setFirnQ]
@[simp] theorem queueOf_setFirnQ (st : Nat) (l : List FirnTx) (j m : Nat) : queueOf (setFirnQ s st l) j m = queueOf s j m := by simp only [queueOf, tile_setFirnQ]
@[simp] theorem reqsOf_setFirnQ (st : Nat) (l : List FirnTx) (j m : Nat) : reqsOf (setFirnQ s st l) j m = reqsOf s j m := by simp only [reqsOf, tile_setFirnQ]
@[simp] theorem cluster_setFirnQ (st : Nat) (l : List FirnTx) (j : Nat) : cluster (setFirnQ s st l) j = cluster s j := by simp only [cluster, setFirnQ_clusters]
@[simp] theorem field_setFirnQ (st : Nat) (l : List FirnTx) (j : Nat) : field (setFirnQ s st l) j = field s j := by simp only [field, setFirnQ_fields]
@[simp] theorem lifeSt_setFirnQ (st : Nat) (l : List FirnTx) (j : Nat) : lifeSt (setFirnQ s st l) j = lifeSt s j := by simp only [lifeSt, setFirnQ_lifeT, setFirnQ_lifeF]
@[simp] theorem rd_nextFree (j : Nat) : rd (nextFree s).1 j = rd s j := by simp only [rd, nextFree_csr]
@[simp] theorem getF_nextFree (j : Nat) (h : Fld) : getF (nextFree s).1 j h = getF s j h := by simp only [getF, rd_nextFree]
@[simp] theorem isF_nextFree (j : Nat) (h : Fld) : isF (nextFree s).1 j h = isF s j h := by simp only [isF, getF_nextFree]
@[simp] theorem tile_nextFree (j : Nat) : tile (nextFree s).1 j = tile s j := by simp only [tile, nextFree_tiles]
@[simp] theorem ctxOf_nextFree (j m : Nat) : ctxOf (nextFree s).1 j m = ctxOf s j m := by simp only [ctxOf, tile_nextFree]
@[simp] theorem queueOf_nextFree (j m : Nat) : queueOf (nextFree s).1 j m = queueOf s j m := by simp only [queueOf, tile_nextFree]
@[simp] theorem reqsOf_nextFree (j m : Nat) : reqsOf (nextFree s).1 j m = reqsOf s j m := by simp only [reqsOf, tile_nextFree]
@[simp] theorem cluster_nextFree (j : Nat) : cluster (nextFree s).1 j = cluster s j := by simp only [cluster, nextFree_clusters]
@[simp] theorem field_nextFree (j : Nat) : field (nextFree s).1 j = field s j := by simp only [field, nextFree_fields]
@[simp] theorem backed_nextFree (j : Nat) : backed (nextFree s).1 j = backed s j := by simp only [backed, getF_nextFree]
@[simp] theorem lifeSt_nextFree (j : Nat) : lifeSt (nextFree s).1 j = lifeSt s j := by simp only [lifeSt, nextFree_lifeT, nextFree_lifeF]
@[simp] theorem life_nextFree (j : Nat) : life (nextFree s).1 j = life s j := by simp only [life, lifeSt_nextFree, backed_nextFree]

end Sys2Proof.Machine
end

