-- ==== Sys2Proof/Laws/Frame.lean ====
section
/-! SUPPORT. What the shared operations of conditions, reports, faults and issue may change, said once for each:
`Inside s u` says that `u` differs from `s` in registers, tiles, clusters, fields and the open step's vote only. -/

namespace Sys2Proof.Machine

/-- All but registers, tiles, clusters, fields and `stepFail` is as before. -/
def Inside (s u : State) : Prop :=
  { u with csr := s.csr, tiles := s.tiles, clusters := s.clusters, fields := s.fields, stepFail := s.stepFail } = s

theorem Inside.refl (s : State) : Inside s s := rfl

theorem Inside.iff (s u : State) : Inside s u ↔
    ∃ c t l f b, u = { s with csr := c, tiles := t, clusters := l, fields := f, stepFail := b } := by
  constructor
  · intro h
    refine ⟨u.csr, u.tiles, u.clusters, u.fields, u.stepFail, ?_⟩
    unfold Inside at h
    rw [← h]
  · rintro ⟨c, t, l, f, b, rfl⟩; rfl

theorem Inside.trans {s u v : State} (h : Inside s u) (h' : Inside u v) : Inside s v := by
  rw [Inside.iff] at *
  obtain ⟨c, t, l, f, b, rfl⟩ := h
  obtain ⟨c, t, l, f, b, rfl⟩ := h'
  exact ⟨c, t, l, f, b, rfl⟩

theorem Inside.pending {s u : State} (h : Inside s u) : u.pending = s.pending := (congrArg State.pending h : _)
theorem Inside.tc {s u : State} (h : Inside s u) : u.tc = s.tc := (congrArg State.tc h : _)
theorem Inside.scratch {s u : State} (h : Inside s u) : u.scratch = s.scratch := (congrArg State.scratch h : _)
theorem Inside.firn {s u : State} (h : Inside s u) : u.firn = s.firn := (congrArg State.firn h : _)
theorem Inside.poisonRow {s u : State} (h : Inside s u) : u.poisonRow = s.poisonRow := (congrArg State.poisonRow h : _)
theorem Inside.badPar {s u : State} (h : Inside s u) : u.badPar = s.badPar := (congrArg State.badPar h : _)
theorem Inside.lifeT {s u : State} (h : Inside s u) : u.lifeT = s.lifeT := (congrArg State.lifeT h : _)
theorem Inside.lifeF {s u : State} (h : Inside s u) : u.lifeF = s.lifeF := (congrArg State.lifeF h : _)
theorem Inside.steward {s u : State} (h : Inside s u) : u.steward = s.steward := (congrArg State.steward h : _)
theorem Inside.cocoons {s u : State} (h : Inside s u) : u.cocoons = s.cocoons := (congrArg State.cocoons h : _)

theorem Inside.memoryKept {s u : State} (h : Inside s u) : MemoryKept s u :=
  ⟨fun a => by rw [h.scratch], fun a => by rw [h.firn]⟩

variable (s : State)

/-! ### Updates of registers and parts -/

theorem inside_wr (a v : Nat) : Inside s (wr s a v) := (Inside.iff _ _).2 ⟨_, s.tiles, s.clusters, s.fields, s.stepFail, rfl⟩
theorem inside_putF (b : Nat) (f : Fld) (v : Nat) : Inside s (putF s b f v) := inside_wr s _ _
theorem inside_incF (b : Nat) (f : Fld) (v : Nat) : Inside s (incF s b f v) := inside_wr s _ _
theorem inside_wrapF (b : Nat) (f : Fld) (v : Nat) : Inside s (wrapF s b f v) := inside_wr s _ _
theorem inside_maxF (b : Nat) (f : Fld) (v : Nat) : Inside s (maxF s b f v) := inside_wr s _ _
theorem inside_setF (b : Nat) (f : Fld) : Inside s (setF s b f) := inside_wr s _ _
theorem inside_setTile (k : Nat) (t : Tile) : Inside s (setTile s k t) :=
  (Inside.iff _ _).2 ⟨s.csr, _, s.clusters, s.fields, s.stepFail, rfl⟩
theorem inside_modTile (k : Nat) (g : Tile → Tile) : Inside s (modTile s k g) := inside_setTile s _ _
theorem inside_setCtx (k n : Nat) (c : Ctx) : Inside s (setCtx s k n c) := inside_modTile s _ _
theorem inside_modCtx (k n : Nat) (g : Ctx → Ctx) : Inside s (modCtx s k n g) := inside_setCtx s _ _ _
theorem inside_setQueue (k q : Nat) (l : List Slot) : Inside s (setQueue s k q l) := inside_modTile s _ _
theorem inside_setReqs (k r : Nat) (l : List XReq) : Inside s (setReqs s k r l) := inside_modTile s _ _
theorem inside_setCluster (c : Nat) (v : Cluster) : Inside s (setCluster s c v) :=
  (Inside.iff _ _).2 ⟨s.csr, s.tiles, _, s.fields, s.stepFail, rfl⟩
theorem inside_modCluster (c : Nat) (g : Cluster → Cluster) : Inside s (modCluster s c g) := inside_setCluster s _ _
theorem inside_setField (f : Nat) (v : Field) : Inside s (setField s f v) :=
  (Inside.iff _ _).2 ⟨s.csr, s.tiles, s.clusters, _, s.stepFail, rfl⟩
theorem inside_modField (f : Nat) (g : Field → Field) : Inside s (modField s f g) := inside_setField s _ _
theorem inside_setCtxState (k n v : Nat) : Inside s (setCtxState s k n v) := inside_putF s _ _ _
theorem inside_setPc (k n v : Nat) : Inside s (setPc s k n v) := inside_putF s _ _ _
theorem inside_setTag (k n i : Nat) (p : Bool) : Inside s (setTag s k n i p) := inside_putF s _ _ _

theorem inside_foldl {α : Type} (g : State → α → State) (h : ∀ s a, Inside s (g s a)) (l : List α) (s : State) :
    Inside s (l.foldl g s) := by
  induction l generalizing s with
  | nil => exact Inside.refl s
  | cons a l ih => exact (h s a).trans (ih _)

/-! ### General registers (R37, R38) -/

theorem inside_setG (k n i : Nat) (v : Word) (p : Bool) : Inside s (setG s k n i v p) := by
  unfold setG
  have h := (inside_wr s (gAddr k n i) v.toNat).trans (inside_setTag _ k n i p)
  dsimp only
  split
  · exact h
  · exact h.trans (inside_modCtx _ _ _ _)

/-- Writing a register changes the word of the register and the tags of its context, and no other word. -/
theorem regsKept_setG (k n i : Nat) (v : Word) (p : Bool) : RegsKept s (setG s k n i v p) [gAddr k n i, gpoiAddr k n] := by
  have h : RegsKept s (setTag (wr s (gAddr k n i) v.toNat) k n i p) [gAddr k n i, gpoiAddr k n] :=
    (regsKept_wr s _ _).append (m := [gpoiAddr k n]) (fun a ha => by
      refine rd_putF_ne _ _ _ _ fun e => ha ?_
      simp only [List.mem_singleton, e, gpoiAddr, F.TSQ_GPOI_TAGS]; omega)
  unfold setG
  dsimp only
  split
  · exact h
  · exact h.trans (RegsKept.of_csr (modCtx_csr _ _ _ _) _)

theorem gAddr_ne_gpoi (k n i m : Nat) (hn : m < 8) : gAddr k n i ≠ gpoiAddr k m := by simp only [gAddr, gpoiAddr]; omega

/-- A register reads as written. -/
theorem getG_setG_self (k n i : Nat) (v : Word) (p : Bool) (hn : n < 8) : getG (setG s k n i v p) k n i = v := by
  have h : rd (setG s k n i v p) (gAddr k n i) = v.toNat := by
    have e : rd (setTag (wr s (gAddr k n i) v.toNat) k n i p) (gAddr k n i) = v.toNat := by
      rw [setTag, rd_putF_ne]
      · rw [rd_wr_self, Nat.mod_eq_of_lt v.isLt]
      · have := gAddr_ne_gpoi k n i n hn
        simp only [gAddr, gpoiAddr, F.TSQ_GPOI_TAGS] at *; omega
    unfold setG
    dsimp only
    split
    · exact e
    · rw [rd_modCtx]; exact e
  simp only [getG, h, BitVec.ofNat_toNat, BitVec.setWidth_eq]

/-- No other register changes. -/
theorem getG_setG_ne (k n i m j : Nat) (v : Word) (p : Bool) (hn : n < 8) (hi : i < 16) (hj : j < 16)
    (h : (m, j) ≠ (n, i)) : getG (setG s k n i v p) k m j = getG s k m j := by
  simp only [getG]
  rw [regsKept_setG s k n i v p]
  have : ¬(m = n ∧ j = i) := fun e => h (by rw [e.1, e.2])
  have h2 := gAddr_ne_gpoi k m j n hn
  simp only [gAddr, gpoiAddr, List.mem_cons, List.not_mem_nil, or_false] at *; omega

/-! ### Conditions, reports, taint (R189, R190, R226) -/

theorem inside_condition (n code : Nat) : Inside s (condition s n code) := (inside_putF s _ _ _).trans (inside_putF _ _ _ _)

theorem inside_hubCount (f code n : Nat) : Inside s (hubCount s f code n) := by
  unfold hubCount
  exact ((inside_incF s _ _ _).trans (inside_putF _ _ _ _)).trans (inside_condition _ _ _)

theorem inside_dropRecord (f code : Nat) : Inside s (dropRecord s f code) := by
  unfold dropRecord
  have h := (inside_incF s (fieldBase f) (F.RIM_CODE_CNT_DROPPED.at (8 * code)) 1).trans (inside_incF _ (fieldBase f) F.RIM_REP_STAT_DROPPED 1)
  dsimp only
  split
  · exact h
  · exact ((h.trans (inside_modField _ _ _)).trans (inside_hubCount _ _ _ _)).trans (inside_setF _ _ _)

theorem inside_hubRecord (f : Nat) (r : Rec) : Inside s (hubRecord s f r) := by
  unfold hubRecord
  split
  · exact inside_modField _ _ _
  · exact inside_dropRecord _ _ _

theorem inside_hubReport (f code detail : Nat) : Inside s (hubReport s f code detail) :=
  (inside_hubCount s _ _ _).trans (inside_hubRecord _ _ _)

theorem inside_report (k code unit detail : Nat) : Inside s (report s k code unit detail) := by
  unfold report
  have h := inside_modTile s k fun t => { t with tokens := put 0 t.tokens code (look 0 t.tokens code + 1) }
  dsimp only
  split
  · exact h.trans (inside_modTile _ _ _)
  · exact h.trans (inside_dropRecord _ _ _)

theorem inside_stepFail (b : Bool) : Inside s { s with stepFail := b } :=
  (Inside.iff _ _).2 ⟨s.csr, s.tiles, s.clusters, s.fields, b, rfl⟩

theorem inside_taint (c p code : Nat) : Inside s (taint s c p code) := by
  unfold taint
  have h := (inside_modCluster s c fun v => { v with taint := put false v.taint p true, tainted := s.dom.running }).trans
    (inside_stepFail _ true)
  dsimp only
  split
  · exact h
  · exact ((h.trans (inside_modField _ _ _)).trans (inside_incF _ _ _ _)).trans (inside_hubReport _ _ _ _)

theorem inside_poisonConsumed (k unit bp detail : Nat) : Inside s (poisonConsumed s k unit bp detail) :=
  (inside_report s _ _ _ _).trans (inside_taint _ _ _ _)

theorem inside_poisonUsed (k n : Nat) : Inside s (poisonUsed s k n) :=
  (inside_poisonConsumed s _ _ _ _).trans (inside_setF _ _ _)

theorem inside_ctxFault (k n code : Nat) : Inside s (ctxFault s k n code) := by
  unfold ctxFault
  exact (((inside_putF s _ _ _).trans (inside_putF _ _ _ _)).trans (inside_putF _ _ _ _)).trans (inside_report _ _ _ _ _)

theorem inside_illegal (k n : Nat) : Inside s (illegal s k n) := (inside_ctxFault s _ _ _).trans (inside_setF _ _ _)

theorem inside_ibParity (k n : Nat) : Inside s (ibParity s k n) :=
  ((inside_ctxFault s _ _ _).trans (inside_setF _ _ _)).trans (inside_taint _ _ _ _)

theorem inside_noteFpx (k : Nat) (f : Fld) : Inside s (noteFpx s k f) := by
  unfold noteFpx
  dsimp only
  split
  · exact (inside_setF s _ _).trans (inside_report _ _ _ _ _)
  · exact inside_setF s _ _

/-! ### Contexts, counters, queues -/

theorem inside_startCtx (k n p : Nat) : Inside s (startCtx s k n p) := by
  unfold startCtx
  exact (((inside_setPc s _ _ _).trans (inside_putF _ _ _ _)).trans (inside_modCtx _ _ _ _)).trans (inside_setCtxState _ _ _ _)

theorem inside_event (k c e : Nat) : Inside s (event s k c e) := inside_modTile s _ _

theorem inside_sourceEvent (k src sel : Nat) : Inside s (sourceEvent s k src sel) := by
  unfold sourceEvent
  refine inside_foldl _ (fun s c => ?_) _ s
  split
  · exact inside_event _ _ _ _
  · exact Inside.refl _

theorem inside_reserve (k q n : Nat) (mk : Nat → Nat → Slot) : Inside s (reserve s k q n mk).1 :=
  (inside_modTile s _ _).trans (inside_setQueue _ _ _ _)

theorem inside_qFreed (k q n : Nat) : Inside s (qFreed s k q n) := (inside_setQueue s _ _ _).trans (inside_modTile _ _ _)

theorem inside_popWord (k q : Nat) : Inside s (popWord s k q) := by
  unfold popWord
  split
  · exact Inside.refl s
  · split
    · exact inside_qFreed s _ _ _
    · exact inside_setQueue s _ _ _

theorem inside_ibStoreDone (k id : Nat) : Inside s (ibStoreDone s k id) := by
  unfold ibStoreDone
  refine (inside_modTile s _ _).trans (inside_foldl _ (fun s c => ?_) _ _)
  split
  · exact inside_modCtx _ _ _ _
  · exact Inside.refl _

theorem inside_afterIssue (k n : Nat) : Inside s (afterIssue s k n) := by
  unfold afterIssue
  refine (inside_modTile s _ _).trans (inside_foldl _ (fun s c => ?_) _ _)
  split
  · dsimp only
    split
    · exact inside_modCtx _ _ _ _
    · split
      · exact Inside.refl _
      · exact inside_modCtx _ _ _ _
  · exact Inside.refl _

theorem inside_advance (k n pc : Nat) (c : Ctx) (f : Flow) : Inside s (advance s k n pc c f) := by
  have goTo (p : Nat) (g : Ctx → Ctx) : Inside s (modCtx (setPc s k n p) k n g) :=
    (inside_setPc s _ _ _).trans (inside_modCtx _ _ _ _)
  unfold advance
  cases f with
  | next => exact goTo _ _
  | store id => exact (goTo _ _).trans (inside_modCtx _ _ _ _)
  | jump p => exact goTo _ _
  | push e => exact goTo _ _
  | leave st => exact ((inside_setCtxState s _ _ _).trans (inside_setPc _ _ _ _)).trans (inside_modCtx _ _ _ _)
  | fault => exact Inside.refl s

/-- A tile that has a context to issue now keeps the clock (R34). -/
theorem nextTurn_of_issuer {k n : Nat} (h : issuer s k = some n) : nextTurn s k = s := by
  simp [nextTurn, h]

/-- The clock is all that `nextTurn` may change, and it goes forward. -/
theorem nextTurn_cases (k : Nat) : ∃ n, s.tc ≤ n ∧ nextTurn s k = { s with tc := n } := by
  unfold nextTurn
  split
  · exact ⟨s.tc, Nat.le_refl _, rfl⟩
  · split
    · exact ⟨_, Nat.le_max_left _ _, rfl⟩
    · exact ⟨s.tc, Nat.le_refl _, rfl⟩

/-- Whatever comes of an issue, it answers a next state: nothing, or, with the clock at the tile's turn, what the instruction's own
effect and the operations of the sequencer change. -/
theorem issue_answers (op : TOp) (t : TileId) (n : Fin 8) (body : State → TInsn → State × Flow) :
    ∃ u, issue op t n body s = .next u ∧
      (u = s ∨ Inside (nextTurn s (tileNo t)) u ∨ ∃ v i, Inside (nextTurn s (tileNo t)) v ∧ Inside (body v i).1 u) := by
  unfold issue
  dsimp only
  split
  · exact ⟨s, rfl, .inl rfl⟩
  · split
    · exact ⟨_, rfl, .inr (.inl ((inside_ibParity _ _ _).trans (inside_afterIssue _ _ _)))⟩
    · split
      · exact ⟨_, rfl, .inr (.inl ((inside_illegal _ _ _).trans (inside_afterIssue _ _ _)))⟩
      · rename_i i _
        split
        · exact ⟨s, rfl, .inl rfl⟩
        · refine ⟨_, rfl, .inr (.inr ⟨_, i, inside_modCtx _ (tileNo t) n fun x => { x with hold := .none }, ?_⟩)⟩
          refine Inside.trans ?_ ((inside_advance _ _ _ _ _ _).trans (inside_afterIssue _ _ _))
          split
          · exact Inside.refl _
          · exact inside_wrapF _ _ _ _

/-- An instruction that stays inside leaves an issue inside, but for the clock. -/
theorem issue_inside (op : TOp) (t : TileId) (n : Fin 8) (body : State → TInsn → State × Flow)
    (h : ∀ v i, Inside v (body v i).1) :
    ∃ u, issue op t n body s = .next u ∧ (u = s ∨ Inside (nextTurn s (tileNo t)) u) := by
  obtain ⟨u, e, hu | hu | ⟨v, i, hv, hu⟩⟩ := issue_answers s op t n body
  · exact ⟨u, e, .inl hu⟩
  · exact ⟨u, e, .inr hu⟩
  · exact ⟨u, e, .inr ((hv.trans (h v i)).trans hu)⟩

end Sys2Proof.Machine
end

