-- ==== Sys2Proof/Laws/Memory.lean ====
section
/-! SUPPORT. Scratch rows and the firn: what a write leaves, what a read finds after it, and the canonical form kept. -/

namespace Sys2Proof.Machine

/-! ### Bytes and numbers (R7) -/

theorem toBytes_length (n v : Nat) : (toBytes n v).length = n := by simp [toBytes]

theorem ofBytes_cons (b : Byte) (l : List Byte) : ofBytes (b :: l) = b.toNat + 256 * ofBytes l := rfl

theorem ofBytes_lt (l : List Byte) : ofBytes l < 256 ^ l.length := by
  induction l with
  | nil => simp [ofBytes]
  | cons b l ih =>
    have := b.isLt
    rw [ofBytes_cons, List.length_cons, Nat.pow_succ]; omega

theorem toBytes_succ (n v : Nat) : toBytes (n + 1) v = BitVec.ofNat 8 v :: toBytes n (v / 256) := by
  simp only [toBytes, List.range_succ_eq_map, List.map_cons, List.map_map, Nat.mul_zero, Nat.shiftRight_zero, List.cons.injEq,
    true_and]
  apply List.map_congr_left
  intro i _
  simp only [Function.comp, Nat.succ_eq_add_one, Nat.mul_add, Nat.mul_one, Nat.add_comm (8 * i) 8, Nat.shiftRight_add, Nat.shiftRight_eq_div_pow v 8]

/-- The bytes of a number spell it, cut to their count. -/
theorem ofBytes_toBytes (n v : Nat) : ofBytes (toBytes n v) = v % 256 ^ n := by
  induction n generalizing v with
  | zero => simp [toBytes, ofBytes, Nat.mod_one]
  | succ n ih =>
    rw [toBytes_succ, ofBytes_cons, ih, BitVec.toNat_ofNat, Nat.pow_succ 256, Nat.mul_comm (256 ^ n), Nat.mod_mul]

/-! ### Strings of bytes -/

theorem Mem.bytes_length (m : List Host.Cell) (a n : Nat) : (Mem.bytes m a n).length = n := by simp [Mem.bytes]

theorem Mem.bytes_eq (m : List Host.Cell) (a n : Nat) :
    Mem.bytes m a n = (List.range n).map fun i => Mem.read m (a + i) := by
  unfold Mem.bytes
  apply List.map_congr_left
  intro i hi
  have hi := List.mem_range.1 hi
  have := Sparse.get_drop_of_keep (fun _ => (0 : Byte)) (fun k => !(decide (a ≤ k) && decide (k < a + n))) m (a + i)
    (by simp [hi])
  simpa [Mem.read, Sparse.drop] using this

/-- A string read where it was written is the one written. -/
theorem Mem.bytes_write_self (m : List Host.Cell) (a : Nat) (bs : List Byte) :
    Mem.bytes (Mem.write m a bs) a bs.length = bs := by
  rw [Mem.bytes_eq]
  apply List.ext_getElem (by simp)
  intro i h1 h2
  simp only [List.getElem_map, List.getElem_range]
  exact Mem.read_write_in m a bs i h2

/-- A string apart from the one written reads as before. -/
theorem Mem.bytes_write_out (m : List Host.Cell) (a : Nat) (bs : List Byte) (b n : Nat)
    (h : b + n ≤ a ∨ a + bs.length ≤ b) : Mem.bytes (Mem.write m a bs) b n = Mem.bytes m b n := by
  rw [Mem.bytes_eq, Mem.bytes_eq]
  apply List.map_congr_left
  intro i hi
  have hi := List.mem_range.1 hi
  exact Mem.read_write_out m a bs _ (by omega)

theorem Mem.bytes_congr {m n : List Host.Cell} (h : ∀ a, Mem.read n a = Mem.read m a) (a l : Nat) :
    Mem.bytes n a l = Mem.bytes m a l := by
  rw [Mem.bytes_eq, Mem.bytes_eq]
  exact List.map_congr_left fun i _ => h _

/-! ### Scratch rows (R149, R150) -/

variable (s : State)

/-- An injection changes a parity bit and its own register: neither bytes nor poison marks. -/
theorem inject_scratch (c r : Nat) (p : Nat → Bool) : (inject s c r p).scratch = s.scratch := by
  unfold inject; dsimp only; split <;> simp

theorem inject_poisonRow (c r : Nat) (p : Nat → Bool) : (inject s c r p).poisonRow = s.poisonRow := by
  unfold inject; dsimp only; split <;> simp

theorem inject_pending (c r : Nat) (p : Nat → Bool) : (inject s c r p).pending = s.pending := by
  unfold inject; dsimp only; split <;> simp

theorem inject_tiles (c r : Nat) (p : Nat → Bool) : (inject s c r p).tiles = s.tiles := by
  unfold inject; dsimp only; split <;> simp

theorem inject_rd (c r : Nat) (p : Nat → Bool) : RegsKept s (inject s c r p) [cluBase c + F.CLU_PAR_INJ_ARMED.off] := by
  unfold inject; dsimp only; split
  · exact (regsKept_putF _ _ _ _)
  · exact RegsKept.refl _ _

theorem writeRow_scratch (c r : Nat) (v : Row) (p : Bool) :
    (writeRow s c r v p).scratch = Mem.write s.scratch (512 * rowKey c r) (toBytes 512 v.toNat) := inject_scratch _ _ _ _

/-- A row reads as written. -/
theorem readRow_writeRow_self (c r : Nat) (v : Row) (p : Bool) : readRow (writeRow s c r v p) c r = v := by
  have h := Mem.bytes_write_self s.scratch (512 * rowKey c r) (toBytes 512 v.toNat)
  rw [toBytes_length] at h
  rw [readRow, writeRow_scratch, h, ofBytes_toBytes, show (256 : Nat) ^ 512 = 2 ^ 4096 by rw [show 256 = 2 ^ 8 from rfl, ← Nat.pow_mul],
    Nat.mod_eq_of_lt v.isLt, BitVec.ofNat_toNat, BitVec.setWidth_eq]

/-- Every other row reads as before. -/
theorem readRow_writeRow_ne (c r : Nat) (v : Row) (p : Bool) (d q : Nat) (h : rowKey d q ≠ rowKey c r) :
    readRow (writeRow s c r v p) d q = readRow s d q := by
  rw [readRow, readRow, writeRow_scratch, Mem.bytes_write_out]
  rw [toBytes_length]; omega

theorem rowPoisoned_writeRow_self (c r : Nat) (v : Row) (p : Bool) : rowPoisoned (writeRow s c r v p) c r = p := by
  simp only [rowPoisoned, writeRow, inject_poisonRow, look, put, Sparse.get_set_self]

theorem rowPoisoned_writeRow_ne (c r : Nat) (v : Row) (p : Bool) (d q : Nat) (h : rowKey d q ≠ rowKey c r) :
    rowPoisoned (writeRow s c r v p) d q = rowPoisoned s d q := by
  simp only [rowPoisoned, writeRow, inject_poisonRow, look, put, Sparse.get_set_ne _ _ _ _ _ h]

/-- Whole and partial writes keep scratch's canonical form. -/
theorem scratch_wf_writeRow (c r : Nat) (v : Row) (p : Bool) (h : Mem.wf s.scratch = true) :
    Mem.wf (writeRow s c r v p).scratch = true := by
  rw [writeRow_scratch]; exact Mem.wf_write _ _ h

theorem writePart_scratch (c r w : Nat) (v : Word) (p : Bool) :
    (writePart s c r w v p).scratch = Mem.write s.scratch (512 * rowKey c r + 8 * w) (toBytes 8 v.toNat) := inject_scratch _ _ _ _

theorem scratch_wf_writePart (c r w : Nat) (v : Word) (p : Bool) (h : Mem.wf s.scratch = true) :
    Mem.wf (writePart s c r w v p).scratch = true := by
  rw [writePart_scratch]; exact Mem.wf_write _ _ h

/-- A partial write leaves every byte of scratch outside its word. -/
theorem writePart_read_out (c r w : Nat) (v : Word) (p : Bool) (a : Nat)
    (h : a < 512 * rowKey c r + 8 * w ∨ 512 * rowKey c r + 8 * w + 8 ≤ a) :
    Mem.read (writePart s c r w v p).scratch a = Mem.read s.scratch a := by
  rw [writePart_scratch]
  exact Mem.read_write_out _ _ _ _ (by rw [toBytes_length]; exact h)

/-! ### The firn (R251, R254, R256) -/

theorem putBytes_firn (a : Nat) (bs : List Byte) : (putBytes s a bs).firn = Mem.write s.firn a bs := rfl

theorem firn_wf_putBytes (a : Nat) (bs : List Byte) (h : Mem.wf s.firn = true) : Mem.wf (putBytes s a bs).firn = true :=
  Mem.wf_write _ _ h

/-- What a write to the firn keeps, whether or not a FAILED stack turns part of it away. -/
theorem putFirn_keeps {β : Type} (g : State → β) (hg : ∀ s a bs, g (putBytes s a bs) = g s) (a : Nat) (bs : List Byte) :
    g (putFirn s a bs) = g s := by
  unfold putFirn
  split
  · exact hg _ _ _
  · generalize granulesOf a bs.length = l
    suffices ∀ x : State, g x = g s → g (l.foldl (fun x q =>
        if frnState s (stackOf q) == 3 then x
        else putBytes x (max a q) ((bs.drop (max a q - a)).take (min (a + bs.length) (q + 512) - max a q))) x) = g s from
      this s rfl
    induction l with
    | nil => exact fun x h => h
    | cons q l ih =>
      intro x hx
      refine ih _ ?_
      dsimp only
      split
      · exact hx
      · exact (hg _ _ _).trans hx

theorem putFirn_csr (a : Nat) (bs : List Byte) : (putFirn s a bs).csr = s.csr := putFirn_keeps s State.csr (fun _ _ _ => putBytes_csr _ _ _) a bs
theorem putFirn_pending (a : Nat) (bs : List Byte) : (putFirn s a bs).pending = s.pending :=
  putFirn_keeps s State.pending (fun _ _ _ => putBytes_pending _ _ _) a bs
theorem putFirn_tc (a : Nat) (bs : List Byte) : (putFirn s a bs).tc = s.tc := putFirn_keeps s State.tc (fun _ _ _ => putBytes_tc _ _ _) a bs
theorem putFirn_scratch (a : Nat) (bs : List Byte) : (putFirn s a bs).scratch = s.scratch :=
  putFirn_keeps s State.scratch (fun _ _ _ => putBytes_scratch _ _ _) a bs
theorem putFirn_steward (a : Nat) (bs : List Byte) : (putFirn s a bs).steward = s.steward :=
  putFirn_keeps s State.steward (fun _ _ _ => putBytes_steward _ _ _) a bs
theorem putFirn_cocoons (a : Nat) (bs : List Byte) : (putFirn s a bs).cocoons = s.cocoons :=
  putFirn_keeps s State.cocoons (fun _ _ _ => putBytes_cocoons _ _ _) a bs
theorem putFirn_tiles (a : Nat) (bs : List Byte) : (putFirn s a bs).tiles = s.tiles :=
  putFirn_keeps s State.tiles (fun _ _ _ => putBytes_tiles _ _ _) a bs

theorem firn_wf_foldl {α : Type} (g : State → α → State) (h : ∀ s a, Mem.wf s.firn = true → Mem.wf (g s a).firn = true) (l : List α)
    (s : State) (hs : Mem.wf s.firn = true) : Mem.wf (l.foldl g s).firn = true := by
  induction l generalizing s with
  | nil => exact hs
  | cons a l ih => exact ih _ (h s a hs)

/-- A write to the firn keeps its canonical form. -/
theorem firn_wf_putFirn (a : Nat) (bs : List Byte) (h : Mem.wf s.firn = true) : Mem.wf (putFirn s a bs).firn = true := by
  unfold putFirn
  split
  · exact firn_wf_putBytes s a bs h
  · refine firn_wf_foldl _ (fun x q hx => ?_) _ s h
    split
    · exact hx
    · exact firn_wf_putBytes x _ _ hx

theorem firn_wf_with_firnPoison (m : List (Nat × Bool)) (h : Mem.wf s.firn = true) :
    Mem.wf ({ s with firnPoison := m } : State).firn = true := h

theorem firn_wf_granuleWrite (a : Nat) (v : Row) (p : Bool) (h : Mem.wf s.firn = true) :
    Mem.wf (granuleWrite s a v p).firn = true := by
  unfold granuleWrite
  dsimp only
  split
  · exact h
  · refine firn_wf_with_firnPoison _ _ (firn_wf_putFirn _ _ _ ?_)
    rw [incF_firn]
    exact h

theorem frnCondition_eq (st code : Nat) : frnCondition s st code = condition s (224 + st) code := rfl

theorem inside_countCorr (st n : Nat) : Inside s (countCorr s st n) := by
  unfold countCorr
  dsimp only
  split
  · exact (inside_incF s _ _ _).trans (inside_condition _ _ _)
  · exact inside_incF s _ _ _

theorem firn_wf_granuleRead (a corr uncorr : Nat) (patrol : Bool) (h : Mem.wf s.firn = true) :
    Mem.wf (granuleRead s a corr uncorr patrol).1.firn = true := by
  have h0 : Mem.wf (if corr == 0 then incF s (frnBase (stackOf a)) F.FRN_BW_CNT_READS 1
      else countCorr (incF s (frnBase (stackOf a)) F.FRN_BW_CNT_READS 1) (stackOf a) corr).firn = true := by
    split
    · rw [incF_firn]; exact h
    · rw [(inside_countCorr _ _ _).firn, incF_firn]; exact h
  have h1 (x : State) (i : Nat) (bs : List Byte) (m : List (Nat × Bool)) (hx : Mem.wf x.firn = true) :
      Mem.wf ({ putFirn (nextFree x).1 i bs with firnPoison := m } : State).firn = true :=
    firn_wf_with_firnPoison _ _ (firn_wf_putFirn _ _ _ (by rw [nextFree_firn]; exact hx))
  unfold granuleRead
  simp only []
  generalize (if corr == 0 then incF s (frnBase (stackOf a)) F.FRN_BW_CNT_READS 1
      else countCorr (incF s (frnBase (stackOf a)) F.FRN_BW_CNT_READS 1) (stackOf a) corr) = x at *
  split
  · exact h
  · split
    · exact h0
    · split
      · rw [incF_firn, frnCondition, condition_firn]
        exact h1 x _ _ _ h0
      · rw [wr_firn, incF_firn, frnCondition, condition_firn]
        exact h1 x _ _ _ h0

end Sys2Proof.Machine
end

