-- ==== Sys2Proof/WellFormed.lean ====
section
/-! DEFINITION. What the types of a command's operands do not already say about them. Commands that are not well-formed name
nothing that can come to the engine; exec still answers on them. -/

namespace Sys2Proof

/-- A list names nothing twice. -/
def distinct {α : Type} [DecidableEq α] : List α → Bool
  | [] => true
  | x :: r => !r.contains x && distinct r

/-- A Driftline frame carries at most sixteen rows (Table 11.3). -/
def Frame.wellFormed (f : Frame) : Bool := decide (f.rows.length ≤ 16) && decide (f.mgmt.length ≤ 8192)

/-- A BAR4 access moves at most 512 bytes and stays in its window (R257). -/
def bar4Ok (off len : Nat) : Bool := decide (1 ≤ len) && decide (len ≤ 512) && decide (off + len ≤ 17179869184)

def Instr.wellFormed : Instr → Bool
  | .latticeDispatch t => distinct t.badLanes
  | .lissComplete t => distinct t.badLanes
  | .arrayResult _ f b => distinct (f.map Prod.fst) && distinct b
  | .latticeRepeat _ f => distinct (f.map Prod.fst)
  | .rowDataDelivery _ g => distinct g
  | .scrubRead _ g => distinct g
  | .targetedScrubRead _ g => distinct g
  | .spareSelftestDone _ l => distinct l
  | .selftestDone _ l _ => distinct l
  | .bar4Read o n _ _ => bar4Ok o.val n.val
  | .bar4Write o d _ _ => bar4Ok o.val d.length
  | .data _ f => f.wellFormed
  | .coldStartPhaseEnd r => distinct r.row24
  | .thermalSample r => distinct (r.fields.map Prod.fst)
  | _ => true

end Sys2Proof
end

