-- ==== Sys2Proof/Tests/Slice0.lean ====
section
/-! SUPPORT. The model's own tests: ill-formed commands, instruction words written out from the spec's encodings, single steps, and
for the statements' hypotheses concrete states that meet them (the witnesses). -/

namespace Sys2Proof.Tests

open Sys2Proof Sys2Proof.Machine Sys2Proof.Claims

set_option Elab.async false

/-! ### Ill-formed commands -/

def t0 : TileId := ⟨0, 0, 0⟩
def c0 : ClusterId := ⟨0, 0, 0⟩

theorem test_wf_arrayResult : Instr.wellFormed (.arrayResult t0 [] [3, 3]) = false := by decide
theorem test_wf_latticeRepeat : Instr.wellFormed (.latticeRepeat t0 [(2, 1), (2, 5)]) = false := by decide
theorem test_wf_rowDataDelivery : Instr.wellFormed (.rowDataDelivery c0 [4, 4]) = false := by decide
theorem test_wf_scrubRead : Instr.wellFormed (.scrubRead c0 [127, 0, 127]) = false := by decide
theorem test_wf_targetedScrubRead : Instr.wellFormed (.targetedScrubRead c0 [1, 1]) = false := by decide
theorem test_wf_spareSelftestDone : Instr.wellFormed (.spareSelftestDone 0 [⟨3, 4⟩, ⟨3, 4⟩]) = false := by decide
theorem test_wf_selftestDone : Instr.wellFormed (.selftestDone 0 [⟨3, 4⟩, ⟨3, 4⟩] 0) = false := by decide
theorem test_wf_bar4Read_length : Instr.wellFormed (.bar4Read 0 0 [] []) = false := by decide
theorem test_wf_bar4Read_window : Instr.wellFormed (.bar4Read 17179869183 2 [] []) = false := by decide
theorem test_wf_bar4Write : Instr.wellFormed (.bar4Write 0 [] [] []) = false := by decide
theorem test_wf_coldStartPhaseEnd : Instr.wellFormed (.coldStartPhaseEnd { row24 := [(1, 2), (1, 2)] }) = false := by decide
theorem test_wf_latticeDispatch : Instr.wellFormed (.latticeDispatch { tile := t0, badLanes := [(5, 6), (5, 6)] }) = false := by decide
theorem test_wf_lissComplete : Instr.wellFormed (.lissComplete { tile := t0, badLanes := [(0, 31), (0, 31)] }) = false := by decide
theorem test_wf_thermalSample : Instr.wellFormed (.thermalSample ⟨3000, 3500, 100, [(7, 4000), (7, 4100)]⟩) = false := by decide
theorem test_wf_data : Instr.wellFormed (.data 0 { rows := List.replicate 17 0 }) = false := by decide

/-! ### Instruction words, written out field by field from Tables 02.3 to 02.6: CLASS, OP, D, A, B, class-specific bits -/

theorem test_word_add : TInsn.ofWord (0x0#4 ++ 0x00#6 ++ 1#4 ++ 8#4 ++ 9#4 ++ 0#42) = some ⟨.add, 1, 8, 9, 0⟩ := by decide
theorem test_word_movhi :
    TInsn.ofWord (0x0#4 ++ 0x11#6 ++ 1#4 ++ 1#4 ++ 0#4 ++ 1#1 ++ 0#9 ++ 0xFF000000#32) = some ⟨.movhi, 1, 1, 0, 0x200FF000000⟩ := by
  decide
theorem test_word_qdrop : TInsn.ofWord (0x1#4 ++ 0x03#6 ++ 0#12 ++ 0#7 ++ 5#3 ++ 0#23 ++ 256#9) = some ⟨.qdrop, 0, 0, 0, 0x500000100⟩ := by
  decide
theorem test_word_loop :
    TInsn.ofWord (0x2#4 ++ 0x08#6 ++ 0#12 ++ 1#1 ++ 0#9 ++ 7#16 ++ 0#7 ++ 300#9) = some ⟨.loop, 0, 0, 0, 0x2000007012C⟩ := by decide
theorem test_word_arm : TInsn.ofWord (0x3#4 ++ 0x00#6 ++ 0#12 ++ 0#6 ++ 5#4 ++ 0#13 ++ 3#3 ++ 777#16) = some ⟨.arm, 0, 0, 0, 0x500030309⟩ := by
  decide
theorem test_word_rldg :
    TInsn.ofWord (0x4#4 ++ 0x02#6 ++ 4#4 ++ 2#4 ++ 0#4 ++ 0#1 ++ 1#1 ++ 1#1 ++ 0#33 ++ 63#6) = some ⟨.rldg, 4, 2, 0, 0x1800000003F⟩ := by decide
theorem test_word_sendq :
    TInsn.ofWord (0x5#4 ++ 0x00#6 ++ 0#4 ++ 2#4 ++ 3#4 ++ 0#6 ++ 6#4 ++ 999#16 ++ 14#4 ++ 1#2 ++ 0#7 ++ 3#3) =
      some ⟨.sendq, 0, 2, 3, 0x603E7E403⟩ := by decide
theorem test_word_ldrain : TInsn.ofWord (0x6#4 ++ 0x02#6 ++ 0#4 ++ 0#4 ++ 3#4 ++ 0#42) = some ⟨.ldrain, 0, 0, 3, 0⟩ := by decide
theorem test_word_vfma :
    TInsn.ofWord (0x7#4 ++ 0x03#6 ++ 5#4 ++ 0#8 ++ 0#2 ++ 0#4 ++ 0#1 ++ 7#3 ++ 0#2 ++ 1#5 ++ 9#5 ++ 0x1F#5 ++ 1#1 ++ 0#14) =
      some ⟨.vfma, 5, 0, 0, 0x7029FC000⟩ := by decide
theorem test_word_scvt : TInsn.ofWord (0x8#4 ++ 0x00#6 ++ 4#4 ++ 2#4 ++ 0#4 ++ 0#34 ++ 9#8) = some ⟨.scvt, 4, 2, 0, 9⟩ := by decide
theorem test_word_csrr : TInsn.ofWord (0x9#4 ++ 0x00#6 ++ 5#4 ++ 0#8 ++ 0#27 ++ 0x20#15) = some ⟨.csrr, 5, 0, 0, 0x20⟩ := by decide
theorem test_word_rfence : TInsn.ofWord (0xA#4 ++ 0x01#6 ++ 0#54) = some ⟨.rfence, 0, 0, 0, 0⟩ := by decide
theorem test_word_beatend : TInsn.ofWord (0xB#4 ++ 0x00#6 ++ 0#54) = some ⟨.beatend, 0, 0, 0, 0⟩ := by decide
theorem test_word_reserved_class : TInsn.ofWord (0xC#4 ++ 0#60) = none := by decide
theorem test_word_zero_field : TInsn.ofWord (0x2#4 ++ 0x0A#6 ++ 0#12 ++ 1#42) = none := by decide

/-! ### Witnesses: instructions that issue -/

/-- Tile 0 LIVE, its contents as given. -/
def live (t : Tile) : State := { State.reset with lifeT := [(0, some { st := .live })], tiles := [(0, t)] }

/-- Tile 0 with `i` at position 0, context 0 in RUN. -/
def demo (i : TInsn) (t : Tile := {}) : State := setCtxState (live { t with ib := [(0, { insn := i.encode })] }) 0 0 1

/-- The tile's context 0 as given. -/
def ctx0 (c : Ctx) : Tile := { ctx := [(0, c)] }

/-- Queue 3 with the flits given. -/
def queue3 (l : List Slot) : Tile := { q := [(3, l)] }

def flit (id : Nat) : Slot := { id, data := some (BitVec.ofNat 256 (id + 1)) }

def iAdd : TInsn := ⟨.add, 1, 2, 3, 0⟩
def iMul : TInsn := ⟨.mul, 1, 2, 3, 0⟩
def iLoop : TInsn := ⟨.loop, 0, 0, 0, 0x2000007012C⟩

theorem witness_EveryStepRunsOneCommand_idle : State.reset.pending = [] := rfl

theorem witness_AluTwoOperandResultIsWritten :
    (Instr.add t0 0, iAdd.op) ∈ aluRows t0 0 ∧ Issues (demo iAdd) t0 0 iAdd := by decide
theorem witness_AluOneOperandResultIsWritten : Issues (demo ⟨.clz, 1, 2, 0, 0⟩) t0 0 ⟨.clz, 1, 2, 0, 0⟩ := by decide
theorem witness_ProductReachesItsRegister : Issues (demo iMul) t0 0 iMul := by decide
theorem witness_ProductReachesItsRegister_ready :
    (ctxOf (live (ctx0 { muls := [⟨15, 7, true, 3⟩, ⟨2, 1, false, 3⟩] })) 0 0).muls = [⟨15, 7, true, 3⟩, ⟨2, 1, false, 3⟩] ∧
      clockOn (live {}) 0 = true := by decide
theorem witness_QueueWordIsRead :
    let i : TInsn := ⟨.qpop, 4, 0, 0, 0x300000000⟩
    let s := demo i (queue3 [flit 0, flit 1])
    Issues s t0 0 i ∧ queueOf s 0 (i.fld 32 3) = [flit 0, flit 1] ∧ (flit 0).data = some 1 := by decide
theorem witness_QueueWordIsRead_peek :
    let i : TInsn := ⟨.qpeek, 4, 0, 0, 0x300000000⟩
    Issues (demo i (queue3 [flit 0])) t0 0 i := by decide
theorem witness_QueueHeadIsDescribedAndDropped :
    let i : TInsn := ⟨.qhdr, 4, 0, 0, 0x300000000⟩
    let f : Slot := { flit 0 with msg := true, first := true, tag := 65535, len := 15, cls := 1 }
    let s := demo i (queue3 [f])
    Issues s t0 0 i ∧ queueOf s 0 (i.fld 32 3) = [f] ∧ f.tag < 2 ^ 16 ∧ f.len < 2 ^ 4 ∧ f.cls < 2 ^ 2 := by decide
theorem witness_QueueHeadIsDescribedAndDropped_drop :
    let i : TInsn := ⟨.qdrop, 0, 0, 0, 0x300000001⟩
    Issues (demo i (queue3 [flit 0, flit 1])) t0 0 i := by decide
theorem witness_BranchGoesToItsTarget :
    let i : TInsn := ⟨.beqz, 0, 2, 0, 0x1FF⟩
    Issues (demo i) t0 0 i ∧ gPoison (demo i) (tileNo t0) 0 2 = false ∧ branchTaken i.op (getG (demo i) 0 0 2) = true := by decide
theorem witness_BranchGoesToItsTarget_not_taken :
    let i : TInsn := ⟨.bltz, 0, 2, 0, 0x1FF⟩
    Issues (demo i) t0 0 i ∧ branchTaken i.op (getG (demo i) 0 0 2) = false ∧ (ctxOf (demo i) 0 0).loops = [] := by decide
theorem witness_CallWritesItsReturnPc : Issues (demo ⟨.call, 0, 0, 0, 9⟩) t0 0 ⟨.call, 0, 0, 0, 9⟩ := by decide
theorem witness_LoopsRepeatTheirBody :
    let s := demo iLoop (ctx0 { loops := [⟨1, 5, 2⟩, ⟨1, 6, 2⟩, ⟨1, 7, 2⟩] })
    Issues s t0 0 iLoop ∧ (ctxOf s 0 0).loops.length < 4 ∧ iLoop.flag 41 = true ∧
      ∀ e ∈ (ctxOf s 0 0).loops, e.fin ≠ pcOf s 0 0 := by decide
theorem witness_LoopsRepeatTheirBody_end :
    let i : TInsn := ⟨.nop, 0, 0, 0, 0⟩
    let s := demo i (ctx0 { loops := [⟨1, 0, 2⟩] })
    Issues s t0 0 i ∧ (ctxOf s 0 0).loops = [⟨1, 0, 2⟩] ∧ pcOf s 0 0 = 0 := by decide
theorem witness_LoopsRepeatTheirBody_last :
    let i : TInsn := ⟨.nop, 0, 0, 0, 0⟩
    let s := demo i (ctx0 { loops := [⟨1, 0, 1⟩] })
    Issues s t0 0 i ∧ (ctxOf s 0 0).loops = [⟨1, 0, 1⟩] := by decide
theorem witness_LoopsRepeatTheirBody_stop : Issues (demo ⟨.stop, 0, 0, 0, 0⟩) t0 0 ⟨.stop, 0, 0, 0, 0⟩ := by decide
theorem witness_FifthNestedLoopFaults :
    let s := demo iLoop (ctx0 { loops := List.replicate 4 ⟨1, 5, 2⟩ })
    Issues s t0 0 iLoop ∧ 4 ≤ (ctxOf s 0 0).loops.length := by decide
theorem witness_FencesWait :
    let i : TInsn := ⟨.ifence, 0, 0, 0, 0⟩
    Issues (demo i) t0 0 i ∧ (tile (demo i) 0).stores = [] ∧ Issues (demo i { stores := [4] }) t0 0 i := by decide
theorem witness_FencesWait_rows :
    let i : TInsn := ⟨.rfence, 0, 0, 0, 0⟩
    Issues (demo i) t0 0 i ∧ (ctxOf (demo i) 0 0).rowsOut = 0 ∧ Issues (demo i (ctx0 { rowsOut := 1 })) t0 0 i := by decide
theorem witness_BeatControl : Issues (demo ⟨.beatend, 0, 0, 0, 0⟩) t0 0 ⟨.beatend, 0, 0, 0, 0⟩ ∧
    Issues (demo ⟨.yield, 0, 0, 0, 0⟩) t0 0 ⟨.yield, 0, 0, 0, 0⟩ := by decide
theorem witness_PoisonedUseIsReported :
    let i : TInsn := ⟨.jr, 0, 2, 0, 0⟩
    let s := setTag (demo i) 0 0 2 true
    Issues s t0 0 i ∧ gPoison s (tileNo t0) 0 2 = true := by decide
theorem witness_BadInstructionFaultsItsContext :
    let s := setCtxState (live { ib := [(0, { insn := 0xC000000000000000 })] }) 0 0 1
    issuer s 0 = some 0 ∧ (fetch s 0 0).bad = false ∧ TInsn.ofWord (fetch s 0 0).insn = none := by decide
theorem witness_BadInstructionFaultsItsContext_parity :
    let s := setCtxState (live { ib := [(0, { insn := iAdd.encode, bad := true })] }) 0 0 1
    issuer s 0 = some 0 ∧ (fetch s 0 0).bad = true := by decide
theorem witness_CounterInstructions :
    ∀ i ∈ [TInsn.mk .arm 0 0 0 0xF0007FFFF, ⟨.disarm, 0, 0, 0, 0⟩, ⟨.signal, 0, 0, 0, 0xF0000FFFF⟩, ⟨.ctrrd, 15, 0, 0, 0⟩],
      Issues (demo i) t0 0 i := by decide
theorem witness_WaitTakesItsAmount :
    let i : TInsn := ⟨.wait, 0, 0, 0, 0xF00000001⟩
    Issues (demo i) t0 0 i ∧ ¬ 1 ≤ getF (demo i) (tileBase 0) (ctrF F.TSQ_CTR_COUNT 15) := by decide
theorem witness_WaitTakesItsAmount_covered :
    let i : TInsn := ⟨.wait, 0, 0, 0, 0⟩
    Issues (demo i) t0 0 i ∧ 0 ≤ getF (demo i) (tileBase 0) (ctrF F.TSQ_CTR_COUNT 0) := by decide
theorem witness_CounterCountsItsEvents :
    let s := putF (putF (live { arrivals := [(5, 1)] }) (tileBase 0) (ctrF F.TSQ_CTR_COUNT 5) 0xFFFF) (tileBase 0) (ctrF F.TSQ_CTR_ARMED 5) 1
    life s 0 = .live ∧ clockOn s 0 = true ∧ levelSample s 0 5 = none ∧ (∀ j, j < 8 → (ctxOf s 0 j).hold = .none) ∧
      getF s (tileBase 0) (ctrF F.TSQ_CTR_ARMED 5) = 1 ∧ ctxState s 0 0 = 0 := by decide
theorem witness_CsrInstructionsReachTheirRegister :
    Issues (demo ⟨.csrr, 5, 0, 0, 0x20⟩) t0 0 ⟨.csrr, 5, 0, 0, 0x20⟩ ∧ Issues (demo ⟨.csrw, 0, 0, 2, 0x20⟩) t0 0 ⟨.csrw, 0, 0, 2, 0x20⟩ ∧
      gPoison (demo ⟨.csrw, 0, 0, 2, 0x20⟩) 0 0 2 = false := by decide
theorem witness_CsrInstructionsReachTheirRegister_land :
    let a : CsrAcc := ⟨0, false, 0x20, 0, 15, 1, 2⟩
    let b : CsrAcc := ⟨7, true, 0x4018, 5, 0, 2, 8⟩
    let s := live { acc := [a, b] }
    (tile s 0).acc = [] ++ a :: [b] ∧ (tile s 0).acc = [a] ++ b :: [] ∧ bit a.addr 14 = false ∧ bit b.addr 14 = true ∧ clockOn s 0 = true ∧
      laterTile (waitTc s a.due) 0 a.addr = false ∧ laterTile (waitTc s b.due) 0 b.addr = false := by decide +kernel
theorem witness_RowMovesAskForTheirRow :
    let q := setF (setF (demo ⟨.rldq, 0, 2, 0, 0x10300000000⟩) (tileBase 0) (F.TSQ_QCFG_EN.at 24)) (tileBase 0) (F.TSQ_QCFG_DEPTH.at 24)
    Issues (putF q (tileBase 0) (F.TSQ_QCFG_DEPTH.at 24) 16) t0 0 ⟨.rldq, 0, 2, 0, 0x10300000000⟩ ∧
      gPoison q 0 0 2 = false := by decide
theorem witness_RowMovesAskForTheirRow_store :
    let i : TInsn := ⟨.rstq, 0, 2, 0, 0x300000000⟩
    Issues (demo i (queue3 ((List.range 16).map flit))) t0 0 i := by decide
theorem witness_RowMovesAskForTheirRow_others :
    ∀ i ∈ [TInsn.mk .rldg 5 2 0 0x3F, ⟨.rstg, 0, 2, 2, 0x1000000003F⟩, ⟨.rcpy, 0, 2, 3, 0x18000000000⟩, ⟨.rzero, 0, 2, 0, 0⟩, ⟨.ifill, 0, 2, 0, 7⟩],
      Issues (demo i) t0 0 i ∧ gPoison (demo i) 0 0 2 = false ∧ gPoison (demo i) 0 0 3 = false := by decide
theorem witness_SendsJoinTheSendQueue :
    ∀ i ∈ [TInsn.mk .sendq 0 2 0 0x603E7E003, ⟨.sendrow, 5, 2, 0, 0x603E7E000⟩, ⟨.sendg, 4, 2, 0, 0x603E70000⟩],
      Issues (demo i) t0 0 i ∧ destOk (i.fld 10 2) ((getG (demo i) 0 0 2).toNat % 2 ^ 23) (getG (demo i) 0 0 3) = true := by decide
theorem witness_BadDestinationFaultsTheSend :
    let i : TInsn := ⟨.sendq, 0, 2, 0, 3⟩
    let s := setG (demo i) 0 0 2 0x480 false
    Issues s t0 0 i ∧ destOk 0 ((getG s 0 0 2).toNat % 2 ^ 23) (getG s 0 0 0) = false ∧ gPoison s 0 0 2 = false := by decide
theorem witness_VectorInstructionsJoinTheirQueue :
    ∀ i ∈ [TInsn.mk .vadd 3 0 0 0x222300000, ⟨.vfma, 7, 0, 0, 0x7029FC000⟩, ⟨.vcvt, 0, 0, 0, 0x5800000000⟩, ⟨.viadd, 0, 0, 0, 0⟩],
      Issues (demo i) t0 0 i := by decide
theorem witness_LatticeInstructionsJoinTheirQueue :
    let s (i : TInsn) := wr (demo i) (tileBase 0 + 0x1400 + 16 * 63) 0x20000000
    ∀ i ∈ [TInsn.mk .liss 0 2 0 0x3F, ⟨.lwld, 0, 2, 3, 0x3F⟩, ⟨.ldrain, 0, 0, 3, 0x3F⟩],
      Issues (s i) t0 0 i ∧ latticeOk i.op i (rd (s i) (tileBase 0 + 0x1400 + 16 * 63)) = true ∧
        latticeZero i.op i (rd (s i) (tileBase 0 + 0x1400 + 16 * 63)) = true := by decide
theorem witness_LatticeInstructionsJoinTheirQueue_invalid :
    let i : TInsn := ⟨.liss, 0, 2, 0, 0x40⟩
    Issues (demo i) t0 0 i ∧ latticeOk i.op i (rd (demo i) (tileBase 0 + 0x1400)) = false := by decide
theorem witness_SparseInstructionsJoinTheirQueue :
    let i : TInsn := ⟨.scvt, 4, 2, 0, 0x1F⟩
    let s := wr (demo i) (tileBase 0 + 0x2400 + 8 * 31) 0x8000000000001000
    let d := rd s (tileBase 0 + 0x2400 + 8 * 31)
    Issues s t0 0 i ∧ bit d 63 = true ∧ spuLegal 0 d = true ∧ spuPartOk 0 d (i.fld 19 3) = true ∧ dUnused 0 d = false ∧
      gPoison s 0 0 2 = false ∧ gPoison s 0 0 4 = false := by decide +kernel
theorem witness_SparseInstructionsJoinTheirQueue_invalid :
    Issues (demo ⟨.scvt, 4, 2, 0, 0x20⟩) t0 0 ⟨.scvt, 4, 2, 0, 0x20⟩ ∧ 32 ≤ (TInsn.mk .scvt 4 2 0 0x20).low.toNat % 256 := by decide +kernel

/-! ### Witnesses: the vector unit and writes of tile registers -/

def vIadd (dq : Bool) : VInsn := { n := 0, op := 14, vd := 3, fmt := 0, dir := false, rep := 7, sa := 7, sb := 0, sc := 0, dq, g := [] }
def vectorQueued : State := live { vq := [vIadd false], vreg := [(0, 5), (7, 9)], vpoison := [(7, true)] }
def vectorRunning : State := live { vrun := some (vIadd false, 7), vreg := [(0, 5), (7, 9)] }
def vectorDone (toQ : Bool) : State :=
  live { vres := [⟨toQ, 3, [4, 5], 7, true, false, false, false, false, 0, 8⟩], q := [(3, [{ id := 4 }, { id := 5 }])] }

theorem witness_VectorRepetitionsRun :
    (tile vectorQueued 0).vrun = none ∧ (tile vectorQueued 0).vq.head? = some (vIadd false) ∧
      repReady vectorQueued 0 (vIadd false) 0 = true ∧ clockOn vectorQueued 0 = true := by decide +kernel
theorem witness_VectorRepetitionsRun_last :
    (tile vectorRunning 0).vrun = some (vIadd false, 7) ∧ repReady vectorRunning 0 (vIadd false) 7 = true := by decide +kernel
theorem witness_VectorResultIsWrittenBack :
    ∀ q, (tile (vectorDone q) 0).vres = [] ++ ⟨q, 3, [4, 5], 7, true, false, false, false, false, 0, 8⟩ :: [] ∧
      clockOn (vectorDone q) 0 = true := by decide +kernel

def ifillGo : Word := 0x61FFFFFF
theorem witness_IfillGoAsksForItsRows :
    ifillGo.getLsbD 30 = true ∧ getF (live {}) (tileBase 0) F.TSQ_IFILL_BUSY = 0 ∧ ifillGo.toNat / 2 ^ 26 % 16 = 8 := by decide +kernel
def fillRow (fromReg : Bool) : FillRow := ⟨9, fromReg, 7, 5, false, true, 0, 56⟩
def filling (fromReg : Bool) : State := live { fills := [fillRow fromReg], fillLeft := 1, stores := [9] }
theorem witness_FilledRowEntersTheBuffer : ∀ b, (tile (filling b) 0).fills = [fillRow b] ∧ clockOn (filling b) 0 = true ∧
    (tile (filling b) 0).ibWrote = [] := by decide +kernel
theorem witness_QueueRangeIsChecked :
    let s := live { q := [(0, [flit 0])] }
    (tile s 0).eject = none ∧ 256 < (0x810000FF#64).toNat % 256 + (0x810000FF#64).toNat / 65536 % 512 ∧
      (0x810000FF#64).getLsbD 31 = true ∧ ¬ 256 < (0x810000FF#64 - 255).toNat % 256 + (0x810000FF#64 - 255).toNat / 65536 % 512 := by decide +kernel
theorem witness_ContextResetActsInFaultOrFrozen : ctxState (setCtxState (live {}) 0 7 3) 0 7 = 3 ∧
    life (setLife (live {}) 0 { st := .frozen }) 0 = .frozen := by decide +kernel

/-! ### Witnesses: the lattice -/

def lEnt (op lo : Nat) : LEnt :=
  { id := 2, op, n := 0, bp := 1, a := 8191, b := 8190, aq := false, ce := true, c := 15, acc0 := 0, bank := 0, set := 0, part := 0, qn := 3,
    lane := 0, descNo := 0, lo, hi := 0 }
/-- INT8 by INT8, one vector; FP8 with an output in blocks of 32 with scales; MXFP8 weights. -/
def loInt8 : Nat := 0x20000000
def loMx : Nat := 0x20000700
def loSide : Nat := 0x20000080

def latticeQueued (e : LEnt) (l : Lattice := {}) : State := live { lat := { l with queue := [e] } }
theorem witness_LatticeDispatchTakesTheHead_load : (tile (latticeQueued (lEnt 1 loSide)) 0).lat.queue = [lEnt 1 loSide] ∧ readsSide loSide = true ∧
    (tile (latticeQueued (lEnt 1 loSide)) 0).lat.loader = none ∧ clockOn (latticeQueued (lEnt 1 loSide)) 0 = true := by decide +kernel
theorem witness_LatticeDispatchTakesTheHead_liss :
    let l : Lattice := { set0 := { kind := 1, fmt := 0 } }
    (tile (latticeQueued (lEnt 0 loInt8) l) 0).lat.queue = [lEnt 0 loInt8] ∧
      setRecord (tile (latticeQueued (lEnt 0 loInt8) l) 0).lat (lEnt 0 loInt8) = (1, dWfmt loInt8, dS24 loInt8) ∧ l.liss = [] ∧
      isMulti loInt8 = false ∧ actScaled loInt8 = false ∧ clockOn (latticeQueued (lEnt 0 loInt8) l) 0 = true := by decide +kernel
theorem witness_LatticeDispatchTakesTheHead_drain :
    let l : Lattice := { liss := [{ e := { lEnt 0 loInt8 with id := 1 } }] }
    let s := latticeQueued (lEnt 2 loInt8) l
    (tile s 0).lat.queue = [lEnt 2 loInt8] ∧ (tile s 0).lat.drain = none ∧ clockOn s 0 = true ∧
      ((tile s 0).lat.liss.any fun o => o.e.bank == (lEnt 2 loInt8).bank && decide (o.e.id < (lEnt 2 loInt8).id)) = true := by decide +kernel

def loader (lo : Nat) : LOp := { e := lEnt 1 lo, rows := [(1002, 2 ^ 1000 + 77, false), (1000, 99, true)] }
theorem witness_WeightsEnterTheirSet :
    let s := live { lat := { loader := some (loader loSide) } }
    weightsAtHand s 0 (loader loSide) = some (77 + 2 ^ 1000, false) ∧ readsSide loSide = true ∧ rowOf (loader loSide) 1000 = some (99, true) ∧
      setInUse (tile s 0).lat 2 0 = false ∧ (loader loSide).e.set < 2 ∧ clockOn s 0 = true := by decide +kernel
theorem witness_WeightsEnterTheirSet_plain :
    let s := live { lat := { loader := some (loader loInt8) } }
    weightsAtHand s 0 (loader loInt8) = some (77 + 2 ^ 1000, false) ∧ readsSide loInt8 = false := by decide +kernel

def lissOp : LOp := { e := lEnt 0 loInt8, rows := [(0, 5, false)], asked := 1 }
def lissReady : State := live { lat := { set0 := { kind := 1, data := 7 }, liss := [lissOp] } }
theorem witness_VectorEntersTheArray :
    (vectorReady lissReady 0).any (fun x =>
      let r := readySince lissReady 0 x.o
      let e := max (max lissReady.tc (max r (tile lissReady 0).lat.heldTc)) (field lissReady (tileField 0)).didtUntil
      admits lissReady 0 (rampWith lissReady 0 r e) e) = true ∧ (tile lissReady 0).lat.inArray.length < 6 := by decide +kernel

def arrayVec : LVec := ⟨2, 0, 0, 0xFF02, 0, { kind := 1, data := 0x80FF }, false, 6⟩
def inTheArray (lo : Nat) : State := live { lat := { liss := [{ lissOp with e := lEnt 0 lo, pass := 1 }], inArray := [arrayVec] } }
theorem witness_ColumnSumsEnterTheAccumulators :
    let s := inTheArray loInt8
    let l := (tile s 0).lat
    l.inArray = [arrayVec] ∧ (l.liss.find? fun o => o.e.id == arrayVec.op) = some { lissOp with pass := 1 } ∧
      clockOn s 0 = true ∧ dWfmt loInt8 = 0 ∧ dAfmt loInt8 = 0 ∧ dMode loInt8 = 0 ∧ dAccum loInt8 = false ∧ dAccum (loInt8 + 0x800000) = true := by decide +kernel

def failedCheck : Failed := { vec := arrayVec, bank := 0, row := 0, group := 0, desc := 0, bp := 0, so := [], tFirst := (0, 0), wasPoison := false }
def repeating : State := live { lat := { liss := [{ lissOp with pass := 1 }], history := [arrayVec], failed := [failedCheck] } }
theorem witness_RepeatPutsTheVectorBack :
    let l := (tile repeating 0).lat
    let o := { lissOp with pass := 1 }
    l.failed = [failedCheck] ∧ l.inArray = [] ∧ (l.liss.find? fun o => o.e.id == failedCheck.vec.op) = some o ∧
      (l.history.filter fun v => v.op == failedCheck.vec.op && notBefore failedCheck.vec v) = [failedCheck.vec] ∧
      opGroups o = [(0, 0)] ∧ clockOn repeating 0 = true ∧ groupCheck o arrayVec 0 (vectorSums o arrayVec []) false = .pass := by decide +kernel

def drainOp (lo : Nat) (fl : List (Flit × Bool)) : LOp := { e := lEnt 2 lo, started := true, flits := fl, rows := [(3000, 0xABCD, false)] }
def drained (lo : Nat) (fl : List (Flit × Bool)) : State :=
  setF (putF (live { lat := { drain := some (drainOp lo fl) } }) (tileBase 0) (F.TSQ_QCFG_DEPTH.at 24) 1) (tileBase 0) (F.TSQ_QCFG_EN.at 24)
def lissDone : State := live { lat := { liss := [{ lissOp with pass := 1 }] } }
theorem witness_LatticeOperationsEnd : (tile lissDone 0).lat.liss = [{ lissOp with pass := 1 }] ∧ passCount loInt8 ≤ 1 ∧
    (tile lissDone 0).lat.drain = none ∧ (tile lissDone 0).lat.inArray = [] ∧ (tile lissDone 0).lat.failed = [] ∧ clockOn lissDone 0 = true := by
  decide +kernel
theorem witness_LatticeOperationsEnd_drain :
    (tile (drained loInt8 []) 0).lat.drain = some (drainOp loInt8 []) ∧ dOfmt loInt8 ∉ [7, 8, 9] := by decide +kernel
theorem witness_LatticeOperationsEnd_flit :
    (tile (drained loInt8 [(5, true)]) 0).lat.drain = some (drainOp loInt8 [(5, true)]) ∧ 1 ≤ qFree (drained loInt8 [(5, true)]) 0 3 := by decide +kernel
def floorOn : State := setF (live {}) 0 F.PWR_STATUS_FLOOR_ON
theorem witness_LatticeOperationsEnd_floor :
    life floorOn 0 = .live ∧ getF floorOn 0 F.PWR_STATUS_FLOOR_ON = 1 ∧ (tile floorOn 0).lat.failed = [] ∧ (tile floorOn 0).lat.injArray = false ∧
      recordWaits floorOn 0 = false ∧
      (let e0 := max floorOn.tc (tile floorOn 0).lat.entryTc
       let e := max e0 (field floorOn (tileField 0)).didtUntil
       admits floorOn 0 (rampWith floorOn 0 e0 e) e = true) ∧ vectorReady floorOn 0 = none := by
  refine ⟨by decide +kernel, by decide +kernel, by decide +kernel, by decide +kernel, by decide +kernel, by decide +kernel, ?_⟩
  exact Option.isNone_iff_eq_none.1 (by decide +kernel)
theorem witness_ScaleRowIsWritten :
    let s := drained loMx [(5, true)]
    (tile s 0).lat.drain = some (drainOp loMx [(5, true)]) ∧ dOfmt loMx ∈ [7, 8, 9] ∧ 1 ≤ qFree s 0 3 ∧ clockOn s 0 = true := by decide +kernel
theorem witness_ScaleRowIsWritten_delivery :
    let a : RdAcc := ⟨8190, 2 ^ 4032, [], true, 0, 3, 1, [(0, .lat 2 3001)], 5⟩
    let s := { drained loMx [] with clusters := [(0, { reads := [a] })] }
    (cluster s 0).reads = [a] ∧ (tile s (clusterTile 0 0)).lat.drain = some (drainOp loMx []) ∧
      rowOf (drainOp loMx []) 3000 = some (0xABCD, false) := by decide +kernel

/-! ### Witnesses: replay, the sparse unit, the merge tree, cluster memory -/

def replayRec (moved served agreed : Bool) : RRec :=
  { tile := 15, drain := false, desc := 0, pass := 0, bank := 0, row := 0, group := 0, parity := 0, beat := 0, vec := arrayVec, so := [], sr := [],
    tFirst := (0, 0), tr := (0, 0), lo := loInt8, moved, served, agreed }
/-- Cluster 0, its buddy cluster 1, with one record; beat 1 open. -/
def replaying (r : RRec) : State :=
  let s := { State.reset with clusters := [(0, { records := [r], scrubWait := [(5, 1)] })] }
  putF (putF (setF s (cluBase 0) F.CLU_BUDDY_VALID) (cluBase 0) F.CLU_BUDDY_LCX 1) (fieldBase 0) F.FLD_BEAT_STAT_OPEN_NO 1
theorem witness_ReplayRecordsAreServed_move :
    let s := replaying (replayRec false false false)
    (cluster s 0).records = [replayRec false false false] ∧ buddyOf s 0 = some (clusterNo ⟨0, 1, 0⟩) := by decide +kernel
theorem witness_ReplayRecordsAreServed_serve :
    let s := replaying (replayRec true false false)
    originalsOf s 1 = [0] ∧ (cluster s 0).records = [replayRec true false false] ∧ awaitsService s 0 (replayRec true false false) = true ∧
      (vectorReady s (clusterTile 1 15)).isNone = true := by
  decide +kernel
theorem witness_ReplayRecordsAreServed_outcome :
    ∀ a, (cluster (replaying (replayRec true true a)) 0).records = [replayRec true true a] := by decide +kernel
theorem witness_ForcedReplayServesEveryRecord :
    let t := replaying (replayRec true false false)
    let s := { t with beats := { running := true }, fields := [(0, { nextNo := some 2 })] }
    clusterField (clusterNo c0) = 0 ∧ buddyOf s (clusterNo c0) = some (clusterNo ⟨0, 1, 0⟩) ∧ (field s 0).nextNo = some 2 ∧
      s.beats.running = true ∧ (cluster s 0).records = [replayRec true false false] ∧ (replayRec true false false).no + 2 ≤ 2 ∧
      (cluster s 0).scrubWait = [(5, 1 - (field s 0).par)] := by decide +kernel

def sEnt (op desc : Nat) : SEnt := { op, n := 0, bp := 0, a := 3, b := 8191, d := 9, ce := true, c := 15, part := 0, qn := 3, descNo := 0, desc }
def spuOp (formed : Bool) (moves : List Nat) : SOp := { e := sEnt 3 0, thr := 0, vseed := 0, vcnt := 0, vcfg := 0, formed, moves }
def spuQueued (e : SEnt) : State := live { spu := { queue := [e] } }
def spuRunning (o : SOp) : State :=
  setF (putF (live { spu := { cur := some o } }) (tileBase 0) (F.TSQ_QCFG_DEPTH.at 24) 16) (tileBase 0) (F.TSQ_QCFG_EN.at 24)
theorem witness_SparseUnitRunsItsOperations :
    (tile (spuQueued (sEnt 2 0)) 0).spu = { queue := [sEnt 2 0], cur := none } ∧
      ({ e := sEnt 2 0, thr := 0, vseed := 0, vcnt := 0, vcfg := 0 } : SOp).need ≠ [] := by decide +kernel
theorem witness_SparseUnitRunsItsOperations_move :
    (tile (spuRunning (spuOp true [7])) 0).spu.cur = some (spuOp true [7]) ∧ 16 ≤ qFree (spuRunning (spuOp true [7])) 0 3 := by decide +kernel
theorem witness_SparseUnitRunsItsOperations_complete :
    (tile (spuRunning (spuOp true [])) 0).spu.cur = some (spuOp true []) ∧ (spuOp true []).writes = 0 ∧ (spuOp true []).moving = 0 := by
  decide +kernel

def mergeOf (heads : List (Nat × List MElt)) (finished : Bool) : Machine.Merge :=
  { mask := 0x8001, srcq := 3, mode := 0, dstk := false, dstTile := 0, dstq := 0, doneEn := true, doneTile := 15, doneCtr := 15, row := 5, heads,
    finished }
def merging (m : Machine.Merge) : State := { State.reset with clusters := [(0, { merge := some m })] }
def bothHeads : List (Nat × List MElt) := [(0, [⟨7, 1, false⟩]), (15, [⟨7, 2, true⟩, ⟨9, 1, false⟩])]
theorem witness_MergeTakesTheLowestIndex_start :
    (0xFFFFFFFFFFFFFFFF#64).getLsbD 0 = true ∧ (cluster State.reset 0).merge = none ∧
      (cluster (merging (mergeOf [] false)) 0).merge ≠ none := by decide +kernel
theorem witness_MergeTakesTheLowestIndex_emit :
    let m := mergeOf bothHeads false
    (cluster (merging m) 0).merge = some m ∧ m.out.length + 1 < m.unit ∧ m.open ≠ [] ∧
      ∀ t ∈ m.open, (look [] m.heads t).head?.any (fun e => decide (e.idx < 0xFFFFFFFF) && decide (look 0 m.lastIdx t ≤ e.idx)) = true := by
  decide +kernel
theorem witness_MergeTakesTheLowestIndex_complete :
    let m := mergeOf [] true
    (cluster (merging m) 0).merge = some m ∧ m.out = [] ∧ m.writes = 0 ∧ m.doneEn = true := by decide +kernel

/-- Tile 0 of a cluster asks slice 15 for what `x` says. -/
def asking (k : XKind) : State := live { reqs := [(0, [{ row := 8191, kind := k }])] }
theorem witness_GrantedRequestReadsOrWritesItsRow :
    ∀ k ∈ [XKind.write 5 true .drain, .part 63 7 true (.store 0 0), .read (.rldg 0 1 2 0)],
      crossbarRuns (asking k) 0 = true ∧ granted (asking k) 0 15 = some (0, 0) ∧ look 0 (cluster (asking k) 0).sliceTc 15 ≤ (asking k).tc ∧
        headFor (asking k) (clusterTile 0 0) 0 15 = some { row := 8191, kind := k } ∧
        (reqsOf (asking k) (clusterTile 0 0) 0).head? = some { row := 8191, kind := k } := by decide +kernel
def rdAcc (badWords : List Nat) : RdAcc := ⟨8191, 2 ^ 4032, badWords, true, 0, 0, 0, [(0, .rldg 7 15 63 0)], 5⟩
def reading (badWords : List Nat) : State :=
  putF { live (ctx0 { rowsOut := 1, hold := .row }) with clusters := [(0, { reads := [rdAcc badWords] })] } (cluBase 0) F.CLU_SCRUB_CFG_TGT_EN 0
theorem witness_ReadRowReachesItsRequestor :
    (∀ l ∈ [[], [127]], (cluster (reading l) 0).reads = [rdAcc l]) ∧ badOf (rdAcc []).badWords [] = [] ∧ badOf (rdAcc [127]).badWords [] ≠ [] ∧
      getF (reading [127]) (cluBase 0) F.CLU_SCRUB_CFG_TGT_EN = 0 := by decide +kernel
/-- Cluster 0 scrubs, row 8191 next, with a wrong word there or none; targeted rows as given; `t` tc on. -/
def scrubbing (bad : Bool) (l : List (Nat × Nat)) (t : Nat) : State :=
  let s := putF { live {} with clusters := [(0, { targeted := l })], tc := t } (cluBase 0) F.CLU_SCRUB_STAT_NEXT 8191
  let s := putF (setF s (cluBase 0) F.CLU_SCRUB_CFG_EN) (cluBase 0) F.CLU_SCRUB_CFG_INTERVAL 20
  if bad then { s with badPar := [(128 * 8191 + 127, true)] } else s
theorem witness_ScrubberMarksBadRows :
    ∀ b, let s := scrubbing b [] 20
      scrubRuns s 0 = true ∧ getF s (cluBase 0) F.CLU_SCRUB_CFG_EN = 1 ∧ getF s (cluBase 0) F.CLU_SCRUB_STAT_NEXT = 8191 ∧
      max (cluster s 0).scrubAt s.power.scrubFrom + max 16 (getF s (cluBase 0) F.CLU_SCRUB_CFG_INTERVAL) ≤ s.tc ∧ (cluster s 0).scrubTc ≤ s.tc ∧
      sliceIdle s 0 8191 = true ∧ (cluster s 0).targeted = [] ∧ (badOf (rowBad s 0 8191) [] = [] ↔ b = false) ∧
      rowPoisoned s 0 8191 = false := by decide +kernel
theorem witness_ScrubberMarksBadRows_targeted :
    ∀ b, let s := scrubbing b [(8191, 0)] 20
      scrubRuns s 0 = true ∧ (cluster s 0).targeted = [(8191, 0)] ∧ sliceIdle s 0 8191 = true ∧ (cluster s 0).scrubTc ≤ s.tc ∧
      (badOf (rowBad s 0 8191) [] = [] ↔ b = false) := by decide +kernel
theorem witness_ScrubberMarksBadRows_late :
    let s := scrubbing false [] 400000
    scrubRuns s 0 = true ∧ getF s (cluBase 0) F.CLU_SCRUB_CFG_EN = 1 ∧ (cluster s 0).scrubRaised = false ∧
      2 * 8192 * max 16 (getF s (cluBase 0) F.CLU_SCRUB_CFG_INTERVAL) < passTime s 0 := by decide +kernel

/-! ### Witnesses: mesh, hinge, reports -/

def sendEnt (kind : Nat) (rect : Option Nat) (headerOut : Bool) : SendEnt :=
  { id := 0, n := 0, bp := 0, dest := 1, rect, port := 15, tag := 65535, len := 0, cls := 0, kind, srcQ := 3, payload := [(9, true)], headerOut }
def sending (e : SendEnt) : State := live { sendq := [e], q := [(3, [flit 0])] }
theorem witness_SendsEnterTheRouter :
    ∀ r ∈ [none, some 0], (tile (sending (sendEnt 2 r false)) 0).sendq = [sendEnt 2 r false] ∧ inqOf (sending (sendEnt 2 r false)) 0 4 = [] ∧
      crossbarRuns (sending (sendEnt 2 r false)) (tileCluster 0) = true := by decide +kernel
theorem witness_SendsEnterTheRouter_payload :
    (tile (sending (sendEnt 2 none true)) 0).sendq = [sendEnt 2 none true] ∧ (sendEnt 2 none true).payload[0]? = some (9, true) := by
  decide +kernel
theorem witness_SendsEnterTheRouter_queue :
    (tile (sending (sendEnt 0 none true)) 0).sendq = [sendEnt 0 none true] ∧ queueOf (sending (sendEnt 0 none true)) 0 3 = [flit 0] ∧
      (flit 0).data = some 1 := by decide +kernel

/-- A header for tile `dest`, for queue PORT. -/
def hdrFlit (dest port : Nat) : MFlit := { data := headerFlit 0 { sendEnt 2 none false with dest, port } 0, kind := 0 }
def lastFlit : MFlit := { data := 7, kind := 3, poison := true }
/-- At tile 0 a message on input `i` for tile (0, 1, 0), its header still there. -/
def heading : State := live { inq := [(4, [hdrFlit 1 0, lastFlit])] }
def passing (o : Nat) : State :=
  live { inq := [(4, [lastFlit])], worm := [(4, some ⟨[o], [o], false⟩)], outHold := [(o, some 4)] }
theorem witness_FlitsCrossRoutersAndLinks_header :
    inqOf heading 0 4 = [hdrFlit 1 0, lastFlit] ∧ linkRoom heading 0 1 = true ∧ look none (tile heading 0).outHold 1 = none ∧
      wormOf heading 0 4 = none ∧ outputs heading 0 4 = some [1] ∧ ∀ j, j < 5 → j ≠ 4 → j ∉ wanting heading 0 1 := by decide +kernel
theorem witness_FlitsCrossRoutersAndLinks_body :
    inqOf (passing 1) 0 4 = [lastFlit] ∧ linkRoom (passing 1) 0 1 = true ∧ look none (tile (passing 1) 0).outHold 1 = some 4 ∧
      wormOf (passing 1) 0 4 = some ⟨[1], [1], false⟩ := by decide +kernel
/-- A flit on the link from tile (0, 1, 0) west to tile 0. -/
def arriving (tries : Nat) : State := { live {} with tiles := [(1, { link := [(3, [{ lastFlit with tries }])] })] }
theorem witness_FlitsCrossRoutersAndLinks_arrival :
    ∀ n ∈ [2, 3], neighbour 0 1 = some 1 ∧ linkOf (arriving n) 1 3 = [{ lastFlit with tries := n }] ∧ (inqOf (arriving n) 0 1).length < 8 ∧
      wormOf (arriving n) 0 (8 + 1) = none := by decide +kernel

def ejecting (port : Nat) : State :=
  let s := live { inq := [(4, [hdrFlit 0 port, lastFlit])], worm := [(4, some ⟨[4], [4], false⟩)], outHold := [(4, some 4)] }
  setF (putF s (tileBase 0) (F.TSQ_QCFG_DEPTH.at 24) 1) (tileBase 0) (F.TSQ_QCFG_EN.at 24)
theorem witness_MessagesReachTheirQueue :
    ∀ p ∈ [3, 7, 8], life (ejecting p) 0 = .live ∧ look none (tile (ejecting p) 0).outHold 4 = some 4 ∧ (tile (ejecting p) 0).eject = none ∧
      inqOf (ejecting p) 0 4 = [hdrFlit 0 p, lastFlit] ∧ hClass (hdrFlit 0 p).data = 0 ∧ hPort (hdrFlit 0 p).data = p ∧
      wormOf (ejecting p) 0 4 = some ⟨[4], [4], false⟩ ∧ qEn (ejecting p) 0 3 = true ∧ msgLen (hdrFlit 0 p).data + 1 ≤ qFree (ejecting p) 0 3 ∧
      qEn (ejecting p) 0 7 = false := by decide +kernel
def ejected : State :=
  live { inq := [(4, [lastFlit])], worm := [(4, some ⟨[4], [4], false⟩)], outHold := [(4, some 4)], q := [(3, [{ id := 5, msg := true }])],
         eject := some { input := 4, q := 3, ids := [5], cls := 0, row := 0 } }
theorem witness_MessagesReachTheirQueue_flit :
    (tile ejected 0).eject = some { input := 4, q := 3, ids := [5], cls := 0, row := 0 } ∧ inqOf ejected 0 4 = [lastFlit] ∧
      wormOf ejected 0 4 = some ⟨[4], [4], false⟩ := by decide +kernel

/-- Lane `l` of wing 1 in state `st`, its group's spare idle. -/
def laneIn (l st : Nat) : State :=
  setF (setLane (setLane State.reset 1 l st) 1 (spareOf l) 4) (wingBase 1) F.HNG_CAL_CFG_EN
theorem witness_HingeLanesTrainAndFail :
    laneState (laneIn 1343 1) 1 1343 = 1 ∧ laneState (laneIn 1343 2) 1 1343 = 2 ∧ laneState (laneIn 1343 2) 1 (spareOf 1343) = 4 ∧ 1343 / 32 = 41 ∧
      laneTurn (laneIn 1343 2) 1 41 = some 1343 ∧ getF (laneIn 1343 2) (wingBase 1) F.HNG_CAL_CFG_EN = 1 ∧ getF (laneIn 1343 2) 0 F.PWR_DVFS_BUSY = 0 := by decide +kernel

def aRec : Rec := ⟨0x90, 0, 0, 0, 7⟩
def reported : State :=
  { live { tokens := [(255, 2)], details := [aRec] } with clusters := [(0, { details := [aRec] })], fields := [(0, { details := [aRec], repeats := 3 })] }
theorem witness_ReportsReachTheirHub :
    look 0 (tile reported 0).tokens 255 ≠ 0 ∧ (tile reported 0).details = [aRec] ∧ (cluster reported 0).details = [aRec] ∧
      (field reported 0).details = [aRec] ∧ (cluster reported 0).details.length < 4 ∧ (field reported 0).details.length < 512 ∧
      3 ≤ (field reported 0).repeats ∧ reported.tc ≤ (field reported 0).repeatAt + 2500 ∧ (field State.reset 0).repeats = 0 ∧
      (let s := { State.reset with fields := [(0, { repeats := 2 })] }
       1 ≤ (field s 0).repeats ∧ (field s 0).repeats < 3 ∧ s.tc ≤ (field s 0).repeatAt + 2500 ∧
         (field s 0).repeatAt + 2500 < ({ s with tc := 2501 } : State).tc) := by decide +kernel

/-! ### Witnesses: configuration -/

/-- An image at firn address 0 with bank 0 of two rows for tile 0; its header counts `n` rows. -/
def imageFirn (n : Byte) : List Host.Cell := [(28, 1), (33, 2), (522, 0xE0), (523, 1), (524, 2), (529, 4), (1042, n), (1539, 9)]
def aLoad : Load := { base := 0, standby := false, slot := 5, left := 2 }
def configuring (n : Byte) (rowsSeen : Nat) : State :=
  { live { rowsSeen } with lifeT := [(0, some { st := .instar })], firn := imageFirn n, load := some aLoad }
theorem witness_ConfigurationLoads :
    aLoad.running = true ∧ ∀ n ∈ [2, 3], (∀ i ∈ [0, 1], life (configuring n i) 0 = .instar ∧ (configuring n i).load = some aLoad ∧
      (tile (configuring n i) 0).headerSeen = none ∧ (tile (configuring n i) 0).tries < 3 ∧ (tile (configuring n i) 0).verified = false ∧
      (tile (configuring n i) 0).rowsSeen = i ∧ frnState (configuring n i) (stackOf 1024) ≠ 3) ∧
      (rowsFor (configuring n 1) aLoad 0)[1]? = some 480 ∧ (rowsFor (configuring n 0) aLoad 0)[0]? = some 481 ∧
      rowSource (configuring n 1) 0 0 480 = some 1024 ∧ rowSource (configuring n 0) 0 0 481 = some 1536 := by decide +kernel
/-- Bank 0 as it stands in tile 0's slice. -/
def bankCells : List Host.Cell :=
  [(245760, 0xF1), (245761, 0xC0), (245762, 1), (245763, 2), (245764, 0x50), (245765, 0xCF), (245766, 0xCA), (245767, 0xC5), (245768, 5)]
def checking : State := { configuring 2 2 with scratch := bankCells, tiles := [(0, { rowsSeen := 2, headerSeen := some 0 })] }
set_option maxRecDepth 20000 in
theorem witness_ConfigurationLoads_check :
    life checking 0 = .instar ∧ (tile checking 0).headerSeen = some 0 ∧ (tile checking 0).failedCheck = false ∧ checking.load = some aLoad ∧ 1 < aLoad.left ∧
      checking.badPar = [] ∧ (∀ r ∈ [0, 480, 511], rowBad checking (tileCluster 0) (512 * tileT 0 + r) = []) ∧
      (∀ e ∈ namedBanks checking 0, bankGood checking 0 e.1 e.2 = true) ∧ dataRows checking 0 0 = [] ∧ hdr checking 0 480 16 2 = 0 ∧
      hdr checking 0 480 20 4 = crc32c [] := by decide +kernel
/-- Tile (0, 1, 0) verified, tile 0 through. -/
def ecloding : State :=
  { live {} with lifeT := [(0, some { st := .live }), (1, some { st := .instar })], tiles := [(1, { verified := true })],
                 load := some { aLoad with left := 0 } }
theorem witness_ConfigurationLoads_eclosion :
    life ecloding 1 = .instar ∧ (tile ecloding 1).verified = true ∧ released ecloding 1 = true ∧ tileT 1 = 1 ∧
      life ecloding (clusterTile (tileCluster 1) 0) = .live ∧ bankNrec ecloding 1 480 = 0 ∧ bankNirows ecloding 1 480 = 0 := by decide +kernel
def anExch (bank : Nat) : Exch := { bank, beat := 3, slot := 0, left := 2 }
def aBeat : OpenBeat := { no := 3, parity := 1, openTc := 0 }
def exchanging (bank : Nat) : State :=
  { live { exchWait := true } with scratch := bankCells, exch := some (anExch bank), fields := [(0, { beats := [aBeat] })] }
set_option maxRecDepth 20000 in
theorem witness_ExchangeTakesOrKeeps :
    ∀ b ∈ [0, 3], (tile (exchanging b) 0).exchWait = true ∧ seenOf (exchanging b) 0 ≤ tailsOf (exchanging b) 0 ∧
      suspect (exchanging b) 0 0 = false ∧ suspect (exchanging b) 0 1 = false ∧ beatAt (exchanging b) 0 0 = some aBeat ∧
      backed (exchanging b) 0 = true ∧ (bankGood (exchanging b) 0 b (bankBase (exchanging b) 0 b) = true ↔ b = 0) ∧
      bankNrec (exchanging 0) 0 480 = 0 ∧ bankNirows (exchanging 0) 0 480 = 0 ∧
      (lat (exchanging b) 0).failed = [] ∧ (exchanging b).exch = some (anExch b) ∧ b < 4 ∧ 1 < (anExch b).left ∧ (anExch b).done = [] ∧
      (exchanging b).badPar = [] ∧ (∀ i ∈ [0, 511], rowBad (exchanging b) (tileCluster 0) (512 * tileT 0 + i) = []) ∧
      getF (exchanging b) (tileBase 0) F.TSQ_BEATCFG_START_MASK = 0 := by decide +kernel

/-! ### Witnesses: beats, spares -/

/-- A train of 1 us, its tick 9 at tc 0; field 0 LIVE with its period set. -/
def ticking (v : Field) : State :=
  { putF State.reset (fieldBase 0) F.FLD_BEAT_PER_PERIOD 1000 with
    beats := { running := true, ticked := true, no := 9, due := 0, period := 1000 }, lifeF := [(0, { st := .live })], fields := [(0, v)] }
theorem witness_TicksAndPulses :
    (ticking {}).beats.running = true ∧ (ticking {}).dom.restart = none ∧ isRoot (ticking {}) = false ∧
      field (ticking { nextNo := some 10 }) 0 = { nextNo := some 10 } ∧ mayOpen (ticking { nextNo := some 10 }) 0 10 = true ∧
      (field (ticking { nextNo := some 10 }) 0).beats.length ≤ 1 := by decide +kernel
/-- Tile 0 LIVE before its field's beat 3; contexts 0 and 1 in the start mask, context 1 waiting, counter 0 with BCLR. -/
def opening : State :=
  let s := { live {} with fields := [(0, { beats := [aBeat] })] }
  let s := putF (putF s (tileBase 0) F.TSQ_BEATCFG_START_MASK 3) (tileBase 0) (F.TSQ_CTR_SRC_BCLR.at 0) 1
  putF (putF (setCtxState s 0 1 3) (tileBase 0) (F.TSQ_CTX_CTL_ENTRY.at 0) 77) (tileBase 0) (F.TSQ_CTR_COUNT.at 0) 9
theorem witness_BeatsRunInTheirTile_open :
    life opening 0 = .live ∧ (tile opening 0).exchWait = false ∧ beatAt opening (tileField 0) (seenOf opening 0) = some aBeat ∧
      aBeat.opened = false ∧ aBeat.parity < 2 ∧ opening.exch = none ∧ ctxState opening 0 0 = 0 ∧ ctxState opening 0 1 = 3 ∧
      bit (getF opening (tileBase 0) F.TSQ_BEATCFG_START_MASK) 2 = false ∧ getF opening (tileBase 0) (F.TSQ_CTR_SRC_BCLR.at 120) = 0 := by
  decide +kernel
/-- The beat open in tile 0, `t` clocks after it opened. -/
def tailing (t : Nat) : State := { live { seen := 1 } with fields := [(0, { beats := [aBeat] })], tc := t }
theorem witness_BeatsRunInTheirTile_tail :
    ∀ l ∈ [Life.live, .frozen], let s := { tailing 5 with lifeT := [(0, some { st := l })] }
      life s 0 = l ∧ tailsOf s 0 < seenOf s 0 ∧ beatAt s (tileField 0) (tailsOf s 0) = some aBeat ∧ maskEnded s 0 aBeat.parity = true ∧
      workDone s 0 aBeat.parity = true := by decide +kernel
theorem witness_BeatsRunInTheirTile_overrun :
    let s := putF (tailing 10000000) (tileBase 0) F.TSQ_BEATCFG_BEAT_MASK 1
    let j := max (tile s 0).overruns (tailsOf s 0)
    beatAt s 0 j = some aBeat ∧ beatAt s 0 (j + 1) = none ∧ j < seenOf s 0 ∧
      getF s (tileBase 0) F.TSQ_BEATCFG_BEAT_MASK ≠ 0 ∧
      openTc s 0 (aBeat.no + 1) + nsTc s (getF s (fieldBase 0) F.FLD_BEAT_WIN_WINDOW) < s.tc ∧ aBeat.overrun = false ∧
      { aBeat with overrun := true }.overrun = true := by decide +kernel
/-- A field whose clusters are all unbacked. -/
def noCluster (s : State) (f : Nat) : State :=
  (List.range 25).foldl (fun s p => putF s (fieldBase f) (colF F.FLD_SHIFT_COL_BAD p) (2 ^ 25 - 1)) s
def sealing (v : Field) : State := noCluster { ticking v with tc := 100 } 0
theorem witness_BeatsSealOrStop_seal :
    let v : Field := { beats := [aBeat], freezeReq := some 4 }
    field (sealing v) 0 = v ∧ sealable (sealing v) 0 v.seals 1 = true ∧ sealOverdue (sealing v) 0 = false ∧
      waiters (sealing v) (· == .thaw) = [] ∧ (sealing v).dom.thawWait = false := by decide +kernel
theorem witness_BeatsSealOrStop_stretched :
    let v : Field := { beats := [aBeat, { aBeat with no := 4 }], nextNo := some 5 }
    let s := putF (sealing v) (fieldBase 0) F.FLD_BEAT_WIN_STRETCH 10000
    field s 0 = v ∧ sealable s 0 v.seals 1 = true ∧ sealOverdue s 0 = false ∧ mayOpen s 0 5 = true ∧ pulseTc s 0 5 < s.tc := by decide +kernel
theorem witness_BeatsSealOrStop_late :
    ∀ j ∈ [true, false], let v : Field := { beats := [aBeat, { aBeat with no := 4 }], nextNo := some 5 }
      let s := { putF (ticking v) 0 F.FAB_DOM_JOINED (b2n j) with tc := 10000000 }
      field s 0 = v ∧ mayOpen s 0 5 = true ∧ pulseTc s 0 5 + nsTc s (getF s (fieldBase 0) F.FLD_BEAT_WIN_STRETCH) < s.tc ∧
      waiters s (· == .thaw) = [] ∧ s.dom.thawWait = false ∧ joined s = j ∧ (look {} s.lifeF 0).st = .live := by decide +kernel
theorem witness_BeatsSealOrStop_freeze :
    let s := { ticking { freezeReq := some 4, beats := [aBeat] } with tc := 100000000 }
    (field s 0).freezeReq = some 4 ∧ (look {} s.lifeF 0).st = .live ∧ 4 + usTc s (getF s (fieldBase 0) F.FLD_FREEZE_CFG_LIMIT) < s.tc ∧
      waiters s (· == .thaw) = [] ∧ s.dom.thawWait = false := by decide +kernel
/-- Every field LIVE, beats 0 to 9 sealed, step 1 from beat 0 on. -/
def stepping : State :=
  let s := setF (setF (putF (ticking {}) 0 F.FAB_POLICY_STEP_BEATS 10) 0 F.FAB_DOM_JOINED) 0 F.MBX_MIRROR_JITOR_UP
  { s with lifeF := (List.range 168).map fun f => (f, { st := .live }), fields := (List.range 168).map fun f => (f, { lastSealed := some 9, started := true }),
           dom := { s.dom with running := some 1, first := some 0 } }
theorem witness_StepIsCheckpointed :
    let s := stepping
    s.dom.running = some 1 ∧ joined s = true ∧ stepSealed s = true ∧ s.dom.voting = none ∧ s.dom.rolled = false ∧ jitorUp s = true ∧
      s.stepFail = false ∧ s.dep.calves = [] ∧ s.dep.stuck = false ∧ meshBusy s = false ∧ getF s 0 F.FAB_POLICY_SCRATCH = 0 ∧ s.badPar = [] ∧
      waiters s (· == .thaw) = [] ∧ s.dom.thawWait = false ∧ getF s 0 F.PWR_DIN_FRZ_ACT = 0 ∧
      (∀ f, f < 168 → (look {} s.lifeF f).st = .live ∧ (field s f).freezeReq = none ∧ (field s f).started = true) := by decide +kernel
theorem witness_SparesTakeOver_selftest :
    let s := { State.reset with lifeF := [(0, { st := .selftest })] }
    (look {} s.lifeF 0).st = .selftest ∧ (field s 0).tested = false ∧
      ([(⟨24, 24⟩ : PhysId), ⟨3, 23⟩].filter fun p => decide (p.pcy.val < 24)).length ≤ 600 := by decide +kernel
/-- A calving of physical cluster (3, 0) of field 0 in phase `p`. -/
def aCalve : CalveReq := { field := 0, pcx := 3, pcy := 0, now := true }
def calvingAt (p : Nat) : State :=
  let s := putF (putF State.reset (fieldBase 0) F.FLD_CALVE_STAT_PHASE p) (fieldBase 0) F.FLD_SHIFT_ROW_HOLE 24
  let s := setF s 0 F.MBX_MIRROR_JITOR_UP
  { s with dep := { s.dep with calves := [aCalve] }, beats := { s.beats with image := some 0 },
           lifeF := (List.range 168).map fun f => (f, { st := .frozen }) }
theorem witness_SparesTakeOver_test :
    (calvingAt 1).dep.calves = [aCalve] ∧ calvePhase (calvingAt 1) 0 = 1 ∧ jitorUp (calvingAt 1) = true ∧
      getF (calvingAt 1) (fieldBase 0) F.FLD_CALVE_STAT_WAY = 0 ∧ colHole (calvingAt 1) 0 0 < 25 ∧
      bit (colBad (calvingAt 1) 0 0) (colHole (calvingAt 1) 0 0) = false ∧ aCalve.failed = [] ∧ calveGate (calvingAt 1) = true ∧
      (∀ g, g < 168 → g ≠ 0 → calvePhase (calvingAt 1) g = 0) := by decide +kernel
theorem witness_SparesTakeOver_table :
    let s := calvingAt 2
    let m := movedClusters s (retire s aCalve 0) 0
    s.dep.calves = [aCalve] ∧ calvePhase s 0 = 2 ∧ calveGate s = true ∧ getF s (fieldBase 0) F.FLD_CALVE_STAT_WAY = 0 ∧ rowsEmpty s 0 m = true ∧
      s.beats.image = some 0 ∧ 2 ∈ m ∧ backed (retire s aCalve 0) 2 = true := by decide +kernel

/-! ### Witnesses: streams, firn -/

/-- Stream 0 of kind `k`, banks of one row, enabled or not; channel 0 of port 0 names it in the direction of its kind. -/
def streaming (k : Nat) (on : Bool) (v : Strm) : State :=
  let s := putF (putF State.reset (strBase 0) F.STR_CFG_KIND k) (strBase 0) F.STR_CFG_BANKROWS 1
  let s := putF (putF s (strBase 0) F.STR_CFG_EN (b2n on)) (strBase 0) F.STR_SCHED_TIMEOUT 5
  let s := putF (setF s (fab 0) (chanF F.FAB_CHAN_EN 0)) (fab 0) (chanF F.FAB_CHAN_DIR 0) (b2n (k == 4 || k == 6))
  setStrm { putF s (strBase 0) F.STR_SCHED_DEADLINE 7 with tc := 1000 } 0 v
theorem witness_StreamsAreEnabledAndDisabled :
    ∀ k ∈ [3, 7], strOn (streaming k false {}) 0 = false ∧
      strRefused (plainWrite (streaming k false {}) (strBase 0 + F.STR_CFG_EN.off)
        (BitVec.ofNat 64 (getF (streaming k false {}) (strBase 0) F.STR_CFG_KIND * 2 ^ F.STR_CFG_KIND.lo))) 0 = decide (k = 7) ∧
      strOn (streaming k true {}) 0 = true := by decide +kernel
def aRow : InRow := { key := 4, addr := 512, data := some (9, true) }
theorem witness_StreamsMoveTheirFlits_producer :
    ∀ k ∈ [1, 4, 5, 6], let v : Strm := { rows := [aRow] }
      let s := streaming k true v
      strRuns s 0 = true ∧ strKind s 0 = k ∧ (strm s 0).fin = false ∧ (strm s 0).prod.length < bankFlits s 0 ∧
        (strm s 0).rowAt ≠ 15 ∧ (strm s 0).rows = [aRow] ∧ aRow.data = some (9, true) := by decide +kernel
def aFlit : SFlit := { data := 5, poison := false, addr := 0, par := 0 }
theorem witness_StreamsMoveTheirFlits_consumer :
    ∀ k ∈ [1, 2, 4], ∀ n ∈ [0, 15], let s := streaming k true { cons := [aFlit], sent := n }
      strRuns s 0 = true ∧ strKind s 0 = k ∧ (strm s 0).out = [] ∧ (strm s 0).cons = [aFlit] ∧
        linkGranted s 0 = true ∧ (inqOf s (edgeOf s 0).1 (edgeOf s 0).2).length + 2 ≤ 8 ∧ (strm s 0).sent = n := by decide +kernel
theorem witness_StreamsMoveTheirFlits_swap :
    ∀ f ∈ [true, false], let s := streaming 0 true { prod := List.replicate 16 aFlit, fin := f }
      strRuns s 0 = true ∧ (strm s 0).cons = [] ∧ (strm s 0).prod ≠ [] ∧
        (strm s 0).fin = f ∧ bankFlits s 0 ≤ (strm s 0).prod.length := by decide +kernel
theorem witness_StreamsMoveTheirFlits_timeout :
    let s := putF (streaming 0 true { prod := [aFlit] }) (strBase 0) F.STR_CFG_BANKROWS 2
    strRuns s 0 = true ∧ (strm s 0).cons = [] ∧ (strm s 0).prod ≠ [] ∧ (strm s 0).prod.length < bankFlits s 0 ∧
      (strm s 0).fin = false ∧ strF s 0 F.STR_SCHED_TIMEOUT ≠ 0 ∧
      max (strm s 0).empty (strm s 0).first + 16 * strF s 0 F.STR_SCHED_TIMEOUT ≤ s.tc := by decide +kernel
theorem witness_StreamsMoveTheirFlits_deadline :
    let s := streaming 0 true { cons := [aFlit] }
    strRuns s 0 = true ∧ (strm s 0).cons ≠ [] ∧ (strm s 0).missed = false ∧ strF s 0 F.STR_SCHED_DEADLINE ≠ 0 ∧
      (strm s 0).base + strF s 0 F.STR_SCHED_DEADLINE < s.tc := by decide +kernel

/-- Every stack ready, stack 0's controller with the transactions given. -/
def firnReady (l : List FirnTx) : State :=
  let s := (List.range 32).foldl (fun s st => putF s (frnBase st) F.FRN_STATUS_STATE 2) State.reset
  putF (setFirnQ { s with firn := [(0, 7), (513, 8)], firnPoison := [(0, true)] } 0 l) (frnBase 0) F.FRN_CFG_PATROL_H 1
theorem witness_FirnAnswersItsTransactions :
    let s := setStrm (firnReady [.read 0 4 0]) 0 { rows := [{ aRow with data := none }] }
    frnState s 0 = 2 ∧ firnPending s 0 = [.read 0 4 0] ∧ stackOf 0 = 0 ∧ (strm s 0).rows = [{ aRow with data := none }] ∧
      firnPending (firnReady [.write 0 9 true]) 0 = [.write 0 9 true] ∧ firnPending (firnReady []) 0 = [] ∧
      getF (firnReady []) (frnBase 0) F.FRN_CFG_PATROL_H ≠ 0 ∧ getF (firnReady []) 0 F.PWR_STATUS_STATE < 4 := by decide +kernel
/-- The firn available, as after a cold start. -/
def firnOpen : State :=
  putF (putF (putF (firnReady []) 0 F.MBX_MIRROR_PHASE 15) 0 F.MBX_MIRROR_STATE 2) 0 F.FRN_WIN_BASE 1
theorem witness_HostReadsAndWritesFirn :
    (∀ n ∈ [2, 512], firnAvailable firnOpen = true ∧ firnTurn firnOpen (granulesOf (barAddr firnOpen 510) n) = true ∧
      (∀ g ∈ granulesOf (barAddr firnOpen 510) n, frnState firnOpen (stackOf g) = 2)) ∧
      firnAvailable State.reset = false ∧ firnOpen.steward.on = true ∧ State.reset.steward.on = true := by decide +kernel

/-! ### Witnesses: fabric ports -/

/-- Port 1 in state `st`, as given. -/
def porting (st : Nat) (v : Port) : State :=
  { putF State.reset (fab 1) F.FAB_STATUS_STATE st with ports := [(1, v)], tc := 1000000000 }
theorem witness_PortsTrainAndFail :
    (∀ st ∈ [1, 2, 3, 4], portState (porting st {}) 1 = st) ∧ getF (porting 4 {}) 0 F.PWR_DVFS_BUSY = 0 ∧
      (BitVec.ofNat 64 (2 ^ 63)).getLsbD 63 = true ∧ (0 : Word).getLsbD 63 = false ∧
      (port (porting 1 {}) 1).since + usTc (porting 1 {}) 200000 ≤ (porting 1 {}).tc ∧
      (port (porting 2 {}) 1).hbTc + nsTc (porting 2 {}) 800 ≤ (porting 2 {}).tc ∧ getF (porting 2 {}) (fab 1) F.FAB_MACSEC_EN = 0 := by
  decide +kernel
/-- Engine 5 of epoch 7, port 1 UP; its channel 3, of direction `d`, on stream 4 of KIND 3 or 4, with credits. -/
def talking (d : Nat) (v : Port) : State :=
  let s := putF (putF (porting 2 v) 0 F.FAB_DOM_ID 5) 0 F.FAB_DOM_EPOCH 7
  let s := putF (putF s (fab 1) (chanF F.FAB_CHAN_STREAM 3) 4) (fab 1) (chanF F.FAB_CHAN_DIR 3) d
  let s := putF (putF s (fab 1) (chanF F.FAB_CHAN_CREDITS 3) 9) (fab 1) (chanF F.FAB_CHAN_EN 3) 1
  setStrm (putF (putF s (strBase 4) F.STR_CFG_KIND (3 + d)) (strBase 4) F.STR_CFG_EN 1) 4 { cons := List.replicate 32 aFlit }
def frameFor (op : Nat) : Frame := { op := BitVec.ofNat 4 op, dstId := 5, epoch := 7, chan := 3, tag := 8, rows := [3], poison := 1 }
theorem witness_FramesAreReceived :
    let s := talking 1 { granted := [(3, 2)], hbSent := [(0, 40)] }
    (∀ op ∈ [0, 1, 2, 7], frameGood s 1 (frameFor op)) ∧ loadHolds s = false ∧ (frameFor 0).epoch.toNat = getF s 0 F.FAB_DOM_EPOCH ∧
      chanOn s 1 3 = true ∧ chanGet s 1 3 F.FAB_CHAN_DIR = 1 ∧ (frameFor 0).seq.toNat = look 0 (port s 1).rxSeq 3 ∧
      (frameFor 0).rows.length ≤ look 0 (port s 1).granted 3 ∧ getF s (fab 1) F.FAB_MACSEC_EN = 0 ∧
      strKind s 4 = 4 ∧ chanGet s 1 3 F.FAB_CHAN_STREAM = 4 ∧
      (port s 1).hbSent = [(bits (frameFor 2).operand.toNat 16 16, 40)] ∧ destOurs s 1 { frameFor 2 with dest := 9 } = false ∧
      destOurs s 1 (frameFor 2) = true ∧ typeOurs s 1 { frameFor 2 with etype := 0x800 } = false := by
  unfold frameGood; decide +kernel
/-- Of the port registers, those whose reset value has bit 63 stand below 0x1000. -/
theorem port_reset_high :
    (∀ r ∈ fabPortRegs, bit r.rst 63 = true → r.stride ≠ 0 ∧ r.off + r.stride * r.count ≤ 0x1000) ∧ ∀ r ∈ fabDomRegs, bit r.rst 63 = false := by
  decide +kernel
/-- After reset no channel is enabled. -/
theorem reset_chan_off (q c : Nat) (hq : q < 32) (hc : c < 1024) : chanOn State.reset q c = false := by
  have hp : ∀ r, findReg fabPortRegs (0x1000 + 8 * c) = some r → bit r.rst 63 = false := by
    intro r h
    cases hb : bit r.rst 63
    · rfl
    · have hm := port_reset_high.1 r (List.mem_of_find?_eq_some h) hb
      have hd := List.find?_some h
      simp only [Bool.and_eq_true, decide_eq_true_eq] at hd
      have := (Nat.div_lt_iff_lt_mul (by omega)).1 hd.2
      rw [Nat.mul_comm r.count r.stride] at this
      omega
  have hr : ∀ r, regAt (fab q + (chanF F.FAB_CHAN_EN c).off) = some r → bit r.rst 63 = false := by
    intro r h
    have ha : fab q + (chanF F.FAB_CHAN_EN c).off = 0x801000 + 65536 * q + 8 * c := by simp only [fab, chanF, Fld.at, F.FAB_CHAN_EN]; omega
    rw [ha] at h
    have h0 : (0x801000 + 65536 * q + 8 * c) / 0x1000000000 = 0 := by omega
    have hm : (0x801000 + 65536 * q + 8 * c) % 0x10000 = 0x1000 + 8 * c := by omega
    simp only [regAt, h0, findGlobal, show ¬ 0x1000000 ≤ 0x801000 + 65536 * q + 8 * c by omega,
      show 0x800000 ≤ 0x801000 + 65536 * q + 8 * c by omega, if_true, if_false, hm] at h
    split at h
    · rename_i r' h'
      split at h
      · exact hp r (by rw [h', h])
      · cases h
    · exact port_reset_high.2 r (List.mem_of_find?_eq_some h)
  have hw : bits (resetWord (fab q + (chanF F.FAB_CHAN_EN c).off)).toNat 63 1 = 0 := by
    unfold resetWord
    split
    · rfl
    · rename_i r h
      have := hr r h
      rw [if_neg (by simp only [fab, chanF, Fld.at, F.FAB_CHAN_EN, Bool.and_eq_true, beq_iff_eq]; omega)]
      simp only [bit, bits, BitVec.toNat_ofNat, beq_eq_false_iff_ne] at this ⊢
      omega
  have : chanGet State.reset q c F.FAB_CHAN_EN = 0 := hw
  simp only [chanOn, this]
  rfl
/-- A write of channel 3 that enables it: peer entry 0, direction `d`, stream 4. -/
def enChan (d : Nat) : Word := BitVec.ofNat 64 (2 ^ 63 + d * 2 ^ 62 + 4 * 2 ^ 30)
def offering : State := putF (putF (porting 2 {}) (strBase 4) F.STR_CFG_KIND 3) (fab 1) (F.FAB_PEER_ID.at 0) 6
theorem offering_chan_off (q c : Nat) (hq : q < 32) (hc : c < 1024) : chanOn offering q c = false := by
  have h : chanOn offering q c = chanOn State.reset q c := by
    simp only [chanOn, chanGet]
    congr 1
    refine (getF_putF_ne _ _ _ _ _ _ ?_).trans ((getF_putF_ne _ _ _ _ _ _ ?_).trans ((getF_congr (s := putF State.reset (fab 1) F.FAB_STATUS_STATE 2)
      rfl _ _).trans (getF_putF_ne _ _ _ _ _ _ ?_))) <;>
      simp only [fab, strBase, chanF, Fld.at, F.FAB_CHAN_EN, F.FAB_PEER_ID, F.STR_CFG_KIND, F.FAB_STATUS_STATE] <;> omega
  rw [h, reset_chan_off q c hq hc]
theorem witness_FramesAreSent_enable :
    (∀ d ∈ [0, 1], chanOn offering 1 3 = false ∧ (enChan d).getLsbD 63 = true) ∧ chanRefused offering 1 3 (enChan 0).toNat = false ∧
      chanRefused offering 1 3 (enChan 1).toNat = true := by
  refine ⟨by decide +kernel, ?_, ?_⟩
  · have hs : ((List.range 32).any fun q => (chansOn offering q).any fun d => (q != 1 || d != 3) &&
        chanGet offering q d F.FAB_CHAN_STREAM == bits (enChan 0).toNat 30 16) = false := by
      rw [List.any_eq_false]
      intro q hq
      have : chansOn offering q = [] := by
        rw [chansOn, List.filter_eq_nil_iff]
        intro c hc
        rw [offering_chan_off q c (List.mem_range.1 hq) (List.mem_range.1 hc)]
        exact Bool.false_ne_true
      rw [this]
      exact Bool.false_ne_true
    unfold chanRefused
    simp only [hs]
    decide +kernel
  · have : (strWing (bits (enChan 1).toNat 30 16) != 1 / 16 || (strKind offering (bits (enChan 1).toNat 30 16) != 4 &&
        strKind offering (bits (enChan 1).toNat 30 16) != 6)) = true := by decide +kernel
    unfold chanRefused
    rw [show bits (enChan 1).toNat 62 1 = 1 by decide]
    simp only [show (1 == 0) = false by decide, if_false, Bool.false_eq_true, this, Bool.true_or]
theorem witness_FramesAreSent_data :
    let s := talking 0 {}
    portUp s 1 = true ∧ getF s 0 F.CLK_STATUS_SAFE = 0 ∧ chanReady s 1 3 = true ∧ chanGet s 1 3 F.FAB_CHAN_STREAM = 4 ∧
      portGranted s 1 3 = true ∧ getF s (fab 1) F.FAB_MACSEC_EN = 0 ∧ freeTag s 1 = some 0 ∧ (strm s 4).owed = false ∧
      16 ≤ (fabricFlits (strm s 4)).length := by decide +kernel
def flying (n : Nat) : InFlight := { tag := 8, chan := 3, fr := frameFor 0, retx := n, at_ := 0 }
theorem witness_FramesAreSent_again :
    ∀ n ∈ [0, 4], let s := talking 0 { inflight := [flying n] }
      ((port s 1).inflight.find? fun x => x.tag == 8) = some (flying n) ∧ portUp s 1 = true ∧ getF s 0 F.CLK_STATUS_SAFE = 0 ∧
        loadHolds s = false ∧ (flying n).at_ + usTc s (max 1 (getF s (fab 1) F.FAB_CFG_RTO)) ≤ s.tc := by decide +kernel

/-! ### Witnesses: the tick domain -/

/-- Engine 5 of a domain, its tick port 1, its commit parent behind port 0, in formation phase `ph`; `d` and `b` as given. -/
def joinedEngine (ph : Nat) (d : Dom := {}) (b : Beats := {}) : State :=
  let s := putF (setF (talking 1 {}) 0 F.FAB_DOM_JOINED) 0 F.FAB_DOM_TICKPORT 1
  { putF (putF s 0 F.FAB_DOM_PHASE ph) 0 F.FAB_POLICY_STEP_BEATS 4 with dom := d, beats := b }
theorem witness_TicksAlignTheEngine :
    let b : Beats := { running := true, ticked := true, no := 9 }
    frameGood (joinedEngine 4 {} b) 1 { frameFor 3 with operand := 9 } ∧ joined (joinedEngine 4 {} b) = true ∧
      getF (joinedEngine 4 {} b) 0 F.FAB_DOM_TICKPORT = 1 ∧ wideBeat 9 9 = 9 ∧ wideBeat 9 10 ≠ 9 ∧ joined (talking 1 {}) = false ∧
      isRoot (joinedEngine 4 {} b) = false ∧ (joinedEngine 4 {} b).dom.tickFor ≠ some 9 ∧ (joinedEngine 4 {} b).dom.tickLost = none ∧
      b.at_ + nsTc (joinedEngine 4 {} b) (getF (joinedEngine 4 {} b) 0 F.FAB_TICK_DELAY + 200) < (joinedEngine 4 {} b).tc := by
  unfold frameGood; decide +kernel
theorem witness_VotesGoUp_taint :
    let s := { joinedEngine 4 { running := some 3 } with stepFail := true }
    joined s = true ∧ s.dom.running = some 3 ∧ s.dom.fail = 0 ∧ isRoot s = false ∧ s.dom.own = [] ∧ s.dom.sent = [] ∧ s.stepFail = true ∧
      joined { talking 1 {} with stepFail := true } = false := by decide +kernel
theorem witness_VotesGoUp_ok :
    let s := joinedEngine 4 { voting := some 3, slots := [(0, 3)], votes := [⟨1, 3, 0⟩] }
    joined s = true ∧ isRoot s = false ∧ s.dom.fail = 0 ∧ s.dom.voting = some 3 ∧ (slotOf s 3).isSome = true ∧
      getF s 0 F.FAB_POLICY_REPLICA = 0xFFFF ∧ s.dom.own = [] ∧ s.dom.sent = [] ∧ (∀ v ∈ s.dom.votes, v.step = 3 → v.result = 0) ∧
      childrenOk s 3 = true := by decide +kernel
theorem witness_VotesGoUp_vote :
    ∀ ph ∈ [3, 4], let f : Frame := { frameFor 4 with operand := 0x24000000000003 }
      let s := joinedEngine ph { votes := [⟨1, 2, 0⟩] }
      frameGood s 1 f ∧ joined s = true ∧ isRoot s = false ∧ f.epoch.toNat = getF s 0 F.FAB_DOM_EPOCH ∧ getF s 0 F.FAB_DOM_PHASE = ph ∧
        getF s 0 F.FAB_COMMITTED_ID < bits f.operand.toNat 0 48 ∧ bits f.operand.toNat 48 8 ≠ 0 ∧ s.dom.own = [] ∧ s.dom.sent = [] := by
  unfold frameGood; decide +kernel
/-- The root, alone, a vote held since tc 5. -/
def rootEngine : State := { putF (joinedEngine 4 { firstVote := some 5 }) 0 F.FAB_DOM_TICKPORT 4 with tc := 10000000000 }
theorem witness_VotesGoUp_timeout :
    isRoot rootEngine = true ∧ rootEngine.dom.firstVote = some 5 ∧
      5 + usTc rootEngine (1000 * getF rootEngine 0 F.FAB_POLICY_VOTE_TO) ≤ rootEngine.tc := by decide +kernel
/-- Fields 0 and 1 in state `st`, a beat open in field 1. -/
def ordered (st : Life) (d : Dom) : State :=
  { joinedEngine 4 d with lifeF := [(0, { st }), (1, { st })], fields := [(1, { beats := [aBeat] })] }
def anOrder (kind : Nat) : Frame := { frameFor 5 with operand := BitVec.ofNat 64 (kind + 16 * 3) }
theorem witness_OrdersAreObeyed :
    (∀ k ∈ [0, 1, 2, 3, 4, 5], bits (anOrder k).operand.toNat 0 4 = k) ∧ (∀ f ∈ [anOrder 0, frameFor 6], frameGood (ordered .live {}) 1 f) ∧
      joined (ordered .live {}) = true ∧ waiters (ordered .live {}) (· == .thaw) = [] ∧ (ordered .live {}).dom.thawWait = false ∧
      (ordered .live { rolled := true }).dom.rolled = true ∧ (ordered .live {}).dom.rolled = false ∧
      getF (ordered .frozen {}) 0 F.PWR_DIN_FRZ_ACT = 0 ∧ (ordered .frozen {}).clocks.realigned = true ∧
      getF (ordered .frozen {}) 0 F.CLK_STATUS_SAFE = 0 ∧ freezing (ordered .frozen {}) = false ∧ mustStay (ordered .frozen {}) = false ∧
      getF (joinedEngine 3 {}) 0 F.FAB_DOM_PHASE ≠ 4 ∧ isRoot (ordered .live {}) = false := by unfold frameGood; decide +kernel
/-- A joined, ready engine in formation phase `ph`; a FABRIC_JOIN waits in slot 3. -/
def forming (ph : Nat) : State :=
  let s := putF (joinedEngine ph { period := 1000 }) 0 F.MBX_MIRROR_PHASE 15
  { s with tc := 100000000000, steward := { s.steward with busy := [(3, true)], queue := [3], waits := [(3, some .join)] } }
theorem witness_FormationProceeds :
    (∀ ph ∈ [0, 1, 2, 3], joined (forming ph) = true ∧ engineReady (forming ph) = true ∧ getF (forming ph) 0 F.FAB_DOM_PHASE = ph) ∧
      (forming 0).dom.asked = none ∧ isRoot (forming 0) = false ∧ portUp (forming 0) (getF (forming 0) 0 F.FAB_DOM_TICKPORT) = true ∧
      (let s := putF (forming 1) 0 F.CLK_STATUS_QUALIFIED 2
       getF s 0 F.FAB_DOM_PHASE = 1 ∧ srcQualified s (getF s 0 F.FAB_DOM_TICKPORT) = true ∧ rttMin s (getF s 0 F.FAB_DOM_TICKPORT) = none ∧
         rttMin { s with ports := [(1, { rtts := [(100000000000, 40)] })] } (getF s 0 F.FAB_DOM_TICKPORT) = some 40) ∧ (forming 1).dom.period ≠ 0 ∧ (32 : BitVec 8).toNat ≤ 32 ∧ 32 < (33 : BitVec 8).toNat ∧ childrenOk (forming 2) 0 = true ∧
      (forming 3).dom.readyTc + usTc (forming 3) 60000000 ≤ (forming 3).tc ∧ waiters (forming 3) (· == .join) ≠ [] := by decide +kernel

/-! ### Witnesses: power, cooling, clocks -/

/-- The rails up, the power state as given. -/
def powered (p : Power) : State :=
  { putF (putF State.reset 0 F.PWR_CAP_CAP 40) 0 F.PWR_STATUS_STATE 1 with power := p, tc := 100000000000 }
/-- A reading of `w` W, compute and memory estimated at half of it each. -/
def aDraw (w mv : Nat) : PowerSample := ⟨w, w / 2, w / 2, w / 2, w / 4, w / 4, w / 2, 0, mv, 10, 4, 4, 1, 0, 1⟩
theorem witness_PowerIsControlled_interval :
    let s := powered {}
    (aDraw 40000 800000).vinMv ≤ 900000 ∧ powerState s ≠ 0 ∧ sheds s (aDraw 40000 800000) + 40000 - effectiveCap s = 0 ∧
      getF s 0 F.PWR_HOLD_CHARGING ≠ 1 ∧ classOrder (getF s 0 F.PWR_CAP_PRIO) = [0, 1, 2] ∧
      0 < sheds s (aDraw 60000 800000) + 60000 - effectiveCap s ∧
      sheds s (aDraw 60000 800000) + 60000 - effectiveCap s ≤ 30000 * classTop 0 / 64 ∧ 900000 < (aDraw 1 900001).vinMv := by decide +kernel
theorem witness_PowerIsControlled_step :
    let s := powered { overFor := 100 }
    let t := { putF (putF s 0 F.PWR_DVFS_F_MIN 600) 0 F.PWR_DVFS_FREQ_NOW 1250 with beats := { s.beats with running := true } }
    freq (putF s 0 F.PWR_DVFS_F_MIN 1400) ≤ 1400 ∧ getF s 0 F.PWR_STATUS_CAP_UNMET = 0 ∧ s.power.freqGoal = none ∧
      1100 ∈ railTop ∧ 1100 < freq t ∧ (∀ x ∈ railTop, x < freq t → x ≤ 1100) ∧ getF t 0 F.PWR_DVFS_F_MIN ≤ 1100 ∧
      railFor 1100 ≤ getF (putF t 0 F.PWR_DVFS_VCODE 8) 0 F.PWR_DVFS_VCODE ∧ t.power.overFor = 100 := by decide +kernel
def stepping_rail (v g : Nat) : State := putF (setF (powered { freqGoal := some g }) 0 F.PWR_DVFS_BUSY) 0 F.PWR_DVFS_VCODE v
theorem witness_PowerIsControlled_rail :
    getF (stepping_rail 7 1400) 0 F.PWR_DVFS_BUSY = 1 ∧ getF (stepping_rail 7 1400) 0 F.PWR_DVFS_VCODE < railFor 1400 ∧
      railFor 600 < getF (stepping_rail 1 600) 0 F.PWR_DVFS_VCODE := by decide +kernel
theorem witness_PowerIsControlled_droop :
    getF (powered {}) (fieldBase 3) F.FLD_PWR_CFG_DROOP_MV < 500 ∧ look false (powered {}).power.droopRaised 3 = false ∧
      (field (powered {}) 3).amps + getF (powered {}) (fieldBase 3) F.FLD_PWR_CFG_DIDT * 64 / max 1 (freq (powered {})) < 100000 := by
  decide +kernel
theorem witness_InputsAndParking :
    waiters (powered {}) (· == .thaw) = [] ∧ (powered {}).dom.thawWait = false ∧
      5 + usTc (powered { curAt := some 5 }) 10000000 ≤ (powered { curAt := some 5 }).tc ∧ (powered { curAt := some 5 }).power.frzAt = none ∧
      anyLife (powered { parking := true }) .live = false ∧ (powered { parking := true }).firnQ = [] ∧
      (∀ f, f < 168 → fieldIdle (powered { parking := true }) f = true) ∧ (powered { parking := true }).power.parking = true ∧
      (powered { resuming := true }).power.resuming = true := by decide +kernel
theorem witness_HoldUpCarriesTheEngine :
    let s := setF (powered {}) 0 F.PWR_HOLD_RIDE_EN
    powerState s ≠ 0 ∧ s.power.ride = none ∧ mayRide (putF s 0 F.PWR_HOLD_E_GOV 2400) = true ∧
      mayRide (setF s 0 F.PWR_HOLD_GAUGE_FAULT) = false ∧
      5 + usTc (powered { ride := some 5 }) (1000 * getF (powered { ride := some 5 }) 0 F.PWR_HOLD_RIDE_MS) ≤ (powered { ride := some 5 }).tc ∧
      (let t := { powered { ride := some 5 } with tc := 6 }
       t.tc < 5 + usTc (putF t 0 F.PWR_HOLD_RIDE_MS 10) (1000 * getF (putF t 0 F.PWR_HOLD_RIDE_MS 10) 0 F.PWR_HOLD_RIDE_MS) ∧
         getF t 0 F.PWR_HOLD_RESERVE < 4095) ∧
      240 < max (1000 : BitVec 12).toNat (759 : BitVec 12).toNat - min (1000 : BitVec 12).toNat (759 : BitVec 12).toNat ∧
      getF s 0 F.PWR_HOLD_RECAL_PEND = 0 := by decide +kernel
theorem witness_CoolingFollowsTheReadings :
    let r : ThermalReading := ⟨4100, 7000, 900, [(3, 10500), (90, 4000)]⟩
    let held := powered {}
    let free := putF held 0 F.MBX_MIRROR_PHASE 15
    held.steward.on = true ∧ r.fields.Pairwise (fun a b => a.1 ≠ b.1) ∧ outputsHeld held = true ∧ outputsHeld free = false ∧
      getF free 0 F.CLK_STATUS_SAFE = 0 ∧ free.thermal.heldAt = none ∧ getF (setF free 0 F.THM_DEMAND_FORCE) 0 F.THM_DEMAND_FORCE = 1 ∧
      10 ≤ { held with thermal := { held.thermal with tripFor := 10 } }.thermal.tripFor ∧ powerState held ≠ 0 ∧
      5 + usTc held 2000000 ≤ held.tc := by decide +kernel
/-- Source 4 selected and active, a switch to source 4 in state `m`, its PLLs locked or not. -/
def clocked (m lock : Nat) : State :=
  let s := putF (putF (powered {}) 0 F.CLK_STATUS_CUR_SRC 4) 0 F.CLK_STATUS_ACT 16
  let s := putF (putF s 0 F.CLK_STATUS_PEND_SRC 4) 0 F.CLK_STATUS_MUX m
  putF (putF (setF s (wingBase 1) F.WNG_FWD_EN) (wingBase 0) F.WNG_PLL_LOCK lock) (wingBase 1) F.WNG_PLL_LOCK lock
theorem witness_ClocksAreSwitched :
    srcActive (clocked 0 1) (curSrc (clocked 0 1)) = true ∧ (∀ w ∈ [0, 1], getF (clocked 0 1) (wingBase w) F.WNG_PLL_LOCK = 1) ∧
      getF (clocked 0 1) 0 F.CLK_STATUS_SAFE = 0 ∧ (∀ m ∈ [1, 2, 3], muxState (clocked m 1) = m) ∧
      srcActive (clocked 1 1) (getF (clocked 1 1) 0 F.CLK_STATUS_PEND_SRC) = true ∧ getF (clocked 0 0) (wingBase 0) F.WNG_PLL_LOCK = 0 ∧
      muxState (clocked 0 0) = 0 ∧ srcActive (clocked 0 0) (curSrc (clocked 0 0)) = true ∧ powerState (clocked 0 0) ≠ 0 ∧
      getF (clocked 0 0) 0 F.CLK_REF_CFG_AUTO_RETURN = 0 ∧
      (let s := putF (clocked 1 1) (fab 1) F.FAB_STATUS_STATE 2
       portUp s 1 = true ∧ muxState s < 2) ∧
      (clocked 1 1).clocks.switchAt + usTc (clocked 1 1) 1000 ≤ (clocked 1 1).tc ∧ getF (clocked 0 1) (wingBase 1) F.WNG_FWD_EN = 1 := by
  decide +kernel

/-! ### Witnesses: the event concentrator -/

/-- Source `n` enabled towards core 0 and the host's vector 40, of mode `m`, priority 9, pending as given; `e` as given. -/
def sourced (n m pend : Nat) (e : Evc := {}) : State :=
  let s := putF { State.reset with evc := e, tc := 1000 } 0 (F.EVC_SRC_EN.at (8 * n)) 1
  let s := putF (putF s 0 (F.EVC_SRC_MODE.at (8 * n)) m) 0 (F.EVC_SRC_TGT.at (8 * n)) 1
  let s := putF (putF s 0 (F.EVC_SRC_PRIO.at (8 * n)) 9) 0 (F.EVC_SRC_HOST.at (8 * n)) 1
  putF (putF s 0 (F.EVC_SRC_VEC.at (8 * n)) 40) 0 (F.EVC_SRC_STAT_PEND.at (8 * n)) pend
theorem witness_EventSourcesBecomePending_level :
    isPulsed 290 = false ∧ isEdge (sourced 290 0 0) 290 = false ∧ inService (sourced 290 0 0) 290 = false ∧
      isEdge (sourced 290 1 0) 290 = true ∧ inputLevel (setF (sourced 290 1 0) 0 F.PWR_DIN_CUR_ACT) 290 = true ∧
      srcStat (sourced 290 1 0) 290 F.EVC_SRC_STAT_INPUT = 0 := by decide +kernel
theorem witness_EventSourcesBecomePending_pulse :
    let s := sourced 416 1 0 { pulses := [(416, 3)] }
    isPulsed 416 = true ∧ isEdge s 416 = true ∧ inService s 416 = false ∧ look 0 s.evc.pulses 416 = 2 + 1 ∧
      getF (setF s 0 F.MGT_CLK_EN_TIMER) 0 F.MGT_CLK_EN_TIMER = 1 := by decide +kernel
theorem witness_EventSourcesBecomePending_software :
    ∀ n ∈ [512, 1022], 512 ≤ (BitVec.ofNat 64 n).toNat % 1024 ∧ (BitVec.ofNat 64 n).toNat % 1024 < 1023 ∧ isEdge (sourced n 1 0) n = true ∧
      inService (sourced n 1 0) n = false ∧ inService (putStat (sourced n 1 0) n F.EVC_SRC_STAT_INSVC 1) n = true := by decide +kernel
theorem witness_EventSourcesBecomePending_hold :
    let s := sourced 290 0 1 { hold := [(9, some 1000)], owed := [290] }
    look none s.evc.hold 9 = some 1000 ∧ 1000 ≤ s.tc ∧ s.evc.owed = [290] ∧ group 290 = 9 ∧ isPend s 290 = true ∧
      srcCfg s 290 F.EVC_SRC_HOST = 1 ∧ srcCfg s 290 F.EVC_SRC_EN = 1 ∧ 34 ≤ srcCfg s 290 F.EVC_SRC_VEC := by decide +kernel
/-- No reset value from 0x14000 to 0x15FFF has bit 1 set. -/
theorem stat_reset_low : ∀ r ∈ globalRegs, bit r.rst 1 = true → r.stride ≠ 0 ∧ (r.off + r.stride * r.count ≤ 0x14000 ∨ 0x15FF8 ≤ r.off) := by
  decide +kernel
/-- After reset no source is pending. -/
theorem reset_not_pending (n : Nat) (hn : n < 1023) : isPend State.reset n = false := by
  have hr : ∀ r, regAt (0x14000 + 8 * n) = some r → bit r.rst 1 = false := by
    intro r h
    simp only [regAt, findGlobal, show (0x14000 + 8 * n) / 0x1000000000 = 0 by omega, show ¬ 0x1000000 ≤ 0x14000 + 8 * n by omega,
      show ¬ 0x800000 ≤ 0x14000 + 8 * n by omega, show ¬ 0x100000 ≤ 0x14000 + 8 * n by omega, if_false] at h
    cases hb : bit r.rst 1
    · rfl
    · have hm := stat_reset_low r (List.mem_of_find?_eq_some h) hb
      have hd := List.find?_some h
      simp only [Bool.and_eq_true, decide_eq_true_eq] at hd
      have := (Nat.div_lt_iff_lt_mul (by omega)).1 hd.2
      rw [Nat.mul_comm r.count r.stride] at this
      omega
  have hw : bits (resetWord (0x14000 + 8 * n)).toNat 1 1 = 0 := by
    unfold resetWord
    split
    · rfl
    · rename_i r h
      have := hr r h
      rw [if_neg (by simp only [Bool.and_eq_true, beq_iff_eq]; omega)]
      simp only [bit, bits, BitVec.toNat_ofNat, beq_eq_false_iff_ne] at this ⊢
      omega
  have : srcStat State.reset n F.EVC_SRC_STAT_PEND = bits (resetWord (0 + (0x14000 + 8 * n))).toNat 1 1 := rfl
  rw [isPend, this, Nat.zero_add, hw]
  rfl
theorem sourced_pend (n m p k : Nat) (hk : k < 1023) (hn : n < 1023) (e : Evc) (h : k ≠ n) : isPend (sourced n m p e) k = false := by
  have hg : getF (sourced n m p e) 0 (F.EVC_SRC_STAT_PEND.at (8 * k)) = getF State.reset 0 (F.EVC_SRC_STAT_PEND.at (8 * k)) := by
    simp only [sourced]
    repeat rw [getF_putF_ne _ _ _ _ _ _ (by
      simp only [Fld.at, F.EVC_SRC_EN, F.EVC_SRC_MODE, F.EVC_SRC_TGT, F.EVC_SRC_PRIO, F.EVC_SRC_HOST, F.EVC_SRC_VEC, F.EVC_SRC_STAT_PEND]
      omega)]
    exact getF_congr (s := State.reset) rfl _ _
  have := reset_not_pending k hk
  rw [isPend, srcStat, ← hg] at this
  exact this
theorem witness_CoresClaimAndComplete_claim :
    eligible (sourced 290 0 1) 0 290 = true ∧ ∀ m, m < 1023 → eligible (sourced 290 0 1) 0 m = true → m = 290 := by
  refine ⟨by decide +kernel, fun m hm he => Decidable.byContradiction fun h => ?_⟩
  simp [eligible, offered, sourced_pend 290 0 1 m hm (by decide) {} h] at he
theorem witness_CoresClaimAndComplete_none : ∀ n, n < 1023 → eligible (sourced 290 0 0) 0 n = false := by
  intro n hn
  by_cases h : n = 290
  · subst h; decide +kernel
  · simp [eligible, offered, sourced_pend 290 0 0 n hn (by decide) {} h]
theorem witness_CoresClaimAndComplete_core :
    let s := sourced 290 0 1 { insvc := [(0, [7])] }
    7 ∈ svcOf s 0 ∧ 8 ∉ svcOf s 0 ∧ asleep s 0 = false ∧ asleep (setF s 0 (coreF F.EVC_CORE_STAT_SLEEP 0)) 0 = true ∧ offered s 0 290 = true ∧
      (∀ m ∈ [0, 1], getF (putF s 0 (coreF F.EVC_CORE_CTL_MASK 0) m) 0 (coreF F.EVC_CORE_CTL_MASK 0) = m) := by decide +kernel

/-! ### Witnesses: registers, I3C, TAP, the mailbox -/

/-- FLD.PWR_CFG of field 1. -/
def cfgAddr : BitVec 40 := BitVec.ofNat 40 (fieldBase 1 + F.FLD_PWR_CFG_DIDT.off)
theorem witness_RegistersFollowTheirAccessCodes :
    State.reset.steward.on = true ∧ addrSpace cfgAddr.toNat = 2 ∧ addrCode State.reset cfgAddr.toNat = 0 ∧
      (regAt cfgAddr.toNat).isSome = true ∧ cfgAddr.toNat % 0x10000 ∉ liveFieldOffsets ∧
      addrCode State.reset (cfgAddr + 4).toNat ≠ 0 ∧ ∀ n ∈ [0, 15], n < 32 ∧ n / 16 = (0 : Fin 2).val ∧ slotBusy State.reset n = false := by
  decide +kernel
def i3cUp : State := { setF State.reset 0 F.MGT_CLK_EN_I3C with i3c := { ptr := 23, events := 5 } }
theorem witness_I3cTargetAnswers :
    i3cUp.steward.on = true ∧ i3cOn i3cUp = true ∧ i3cUp.i3c.addr = none ∧ i3cOn (putF i3cUp 0 F.MGT_CLK_EN_I3C 0) = false := by decide +kernel
theorem witness_TapInstructionsAct :
    State.reset.steward.aux = true ∧ State.reset.steward.resetLow = false ∧ 7 ≤ (7 : Byte).toNat ∧
      { State.reset.steward with resetLow := true }.resetLow = true ∧ { State.reset.steward with aux := false }.aux = false := by decide +kernel

/-- Slot `slot` holds the record `l` and is picked up; the engine is in phase `ph`. -/
def asked (ph slot : Nat) (l : List Nat) : State :=
  let s := setF (putF State.reset 0 F.MBX_MIRROR_PHASE ph) 0 F.MBX_MIRROR_JITOR_UP
  let req := (List.range l.length).foldl (fun m i => put 0 m (8 * slot + i) (BitVec.ofNat 64 (l.getD i 0))) []
  { s with steward := { s.steward with req, busy := [(slot, true)], queue := [slot] } }
theorem witness_MailboxRecordsAreChecked :
    pickedUp (asked 15 3 [0x7F]) 3 = true ∧ reqOp (asked 15 3 [0x7F]) 3 ∉ opcodes ∧ pickedUp (asked 15 3 [0x21, 1]) 3 = true ∧
      reqOp (asked 15 3 [0x21, 1]) 3 = 0x21 ∧ zerosOk (asked 15 3 [0x21, 1]) 3 [] = false ∧ zerosOk (asked 14 3 [0x21]) 3 [] = true ∧
      notNow (asked 14 3 [0x21]) 3 = true ∧ slotBusy (asked 15 3 [0x21]) 3 = true ∧ slotBusy State.reset 33 = false ∧
      getF (setF State.reset 0 F.MGT_CLK_EN_ETH) 0 F.MGT_CLK_EN_ETH = 1 := by decide +kernel
theorem witness_MailboxRecordsAreChecked_command (ok : Bool) : IsCommand 3 ok (.start 3, 0x21, [], fun _ => True) := by
  simp [IsCommand]
/-- A policy of N 8 over 60 s; of W too large. -/
def goodPolicy : List Nat := [0x50, 2 + 8 * 2 ^ 32, 60]
def badPolicy : List Nat := [0x50, 2 + 8 * 2 ^ 32, 2592001]
theorem witness_InformationCommandsAnswer :
    Taken (asked 15 3 [1]) 3 1 [] ∧ runningImg (asked 15 3 [1]) = some .factory ∧ jitorUp (asked 15 3 [1]) = true ∧ Taken (asked 15 3 [2]) 3 2 [] ∧
      Taken (asked 15 3 [0x10, cfgAddr.toNat]) 3 0x10 [2 ^ 43 - 1] ∧ arg (asked 15 3 [0x10, cfgAddr.toNat]) 3 0 = cfgAddr.toNat ∧
      Taken (asked 15 3 [0x11, cfgAddr.toNat, 5]) 3 0x11 [2 ^ 40 - 1, 2 ^ 64 - 1, 2 ^ 64 - 1] ∧
      addrCode (asked 15 3 [0x10, cfgAddr.toNat + 4]) (cfgAddr.toNat + 4) ≠ 0 := by unfold Taken; decide +kernel
theorem witness_InformationCommandsAnswer_policy :
    (∀ l ∈ [goodPolicy, badPolicy, [0x50, 3]], Taken (asked 15 3 l) 3 0x50 calveMask ∧ calving (asked 15 3 l) = false) ∧
      (let s := asked 15 3 goodPolicy
       calving (putF s (fieldBase 0) F.FLD_CALVE_STAT_PHASE 1) = true ∧ Taken (putF s (fieldBase 0) F.FLD_CALVE_STAT_PHASE 1) 3 0x50 calveMask ∧
         arg s 3 0 % 256 = 2 ∧ bits (arg s 3 0) 32 4 = 8 ∧ bits (arg s 3 1) 0 32 = 60) ∧
      arg (asked 15 3 [0x50, 3]) 3 0 % 256 = 3 ∧ 2592000 < bits (arg (asked 15 3 badPolicy) 3 1) 0 32 := by unfold Taken; decide +kernel
def history : State :=
  let s := asked 15 3 [0x51, 2 ^ 32, 64, 65536]
  { s with dep := { s.dep with log := { ring := [⟨1, 2, 3, 4, 5, 6, 7, 8, 0⟩, ⟨1, 2, 3, 4, 5, 6, 7, 8, 1⟩] } } }
theorem witness_InformationCommandsAnswer_history :
    Taken history 3 0x51 [0xFFFFFFFF03FFFF03, 2 ^ 64 - 1, 2 ^ 32 - 1] ∧ arg history 3 0 % 4 = 0 ∧ arg history 3 1 % 64 = 0 ∧
      1 ≤ arg history 3 2 ∧ arg history 3 2 ≤ 65536 ∧ arg history 3 1 + 16 * arg history 3 2 ≤ 2 ^ 41 ∧
      (∀ st, st < 32 → frnState history st ≠ 3) := by unfold Taken; decide +kernel
theorem witness_InformationCommandsAnswer_reset :
    ∀ k ∈ [0x5E7E, 1], Taken (asked 15 3 [0xF0, k * 2 ^ 48]) 3 0xF0 [0xFFFF000000000000] ∧ arg (asked 15 3 [0xF0, k * 2 ^ 48]) 3 0 / 2 ^ 48 = k := by
  unfold Taken; decide +kernel

/-! ### Witnesses: loads, exchanges, cocoons, START, FREEZE, THAW -/

/-- An image at firn address 0 whose two entries bring every tile bank 0 (two rows at 512). -/
def wholeImage : List Host.Cell :=
  [(0, 73), (1, 88), (2, 86), (3, 82), (4, 1), (8, 7), (12, 160), (13, 134), (14, 1), (28, 2), (32, 64), (41, 8), (48, 166), (49, 143), (50, 198),
   (51, 228), (66, 127), (67, 4), (70, 159), (71, 2), (74, 224), (75, 1), (76, 2), (81, 2), (98, 127), (99, 4), (102, 159), (103, 2), (104, 1),
   (106, 224), (107, 1), (108, 2), (113, 2)]
def loading (l : List Nat) : State := { asked 15 3 l with firn := wholeImage }
def calved (s : State) : State := putF s (fieldBase 0) F.FLD_CALVE_STAT_PHASE 1
set_option maxRecDepth 20000 in
theorem witness_LoadsExchangesAndCocoons_load :
    let s := loading [0x20, 0, 9]
    Taken s 3 0x20 [2 ^ 41 - 1, 2 ^ 32 - 1] ∧ calving s = false ∧ imageRefused s (arg s 3 0) = false ∧ isStandby s (arg s 3 0) = false ∧
      backed s 0 = true ∧ s.steward.owner = none ∧ imageRefused (asked 15 3 [0x20]) 0 = true := by unfold Taken; decide +kernel
theorem witness_LoadsExchangesAndCocoons_calving :
    (∀ l ∈ [[0x20], [0x24]], calving (calved (asked 15 3 l)) = true) ∧ Taken (calved (asked 15 3 [0x20])) 3 0x20 [2 ^ 41 - 1, 2 ^ 32 - 1] ∧
      Taken (calved (asked 15 3 [0x24])) 3 0x24 [3, 2 ^ 32 - 1] ∧ Taken (calved (asked 15 3 [0x60])) 3 0x60 [2 ^ 64 - 1, 1] ∧
      Taken (calved (asked 15 3 [0x61])) 3 0x61 [2 ^ 64 - 1] := by unfold Taken; decide +kernel

/-- In row `p` of field `f` every physical cluster bad, but for cluster (1, 1) of field 0 where `one`. -/
def badWord (one : Bool) (f p : Nat) : Word := if one && f == 0 && p == 1 then 0x1FFFFFD00000000 else 0x1FFFFFF00000000
def badRows (one : Bool) : List (Nat × Word) :=
  (List.range 168).flatMap fun f => (List.range 25).map fun p => (fieldBase f + (0x208 + 8 * p), badWord one f p)
/-- EXCHANGE of bank 1 asked for; field 0 LIVE, its next beat 5; of all clusters one, with the bank valid in its tiles, is backed, or none. -/
def exchangeAsked (one : Bool) : State :=
  let s := asked 15 3 [0x24, 1, 5]
  { s with csr := s.csr ++ badRows one ++ (clusterTiles 0).map fun k => (tileBase k + 0x58, 0x80000000),
           lifeF := [(0, { st := .live })], fields := [(0, { nextNo := some 5 })] }

theorem badRows_get (one : Bool) (d : Nat → Word) (f p : Nat) (hf : f < 168) (hp : p < 25) :
    Sparse.get d (badRows one) (fieldBase f + (0x208 + 8 * p)) = badWord one f p := by
  have key : ∀ m : List (Nat × Word), (∀ e ∈ m, e.1 = fieldBase f + (0x208 + 8 * p) → e.2 = badWord one f p) →
      (∃ e ∈ m, e.1 = fieldBase f + (0x208 + 8 * p)) → Sparse.get d m (fieldBase f + (0x208 + 8 * p)) = badWord one f p := by
    intro m
    induction m with
    | nil => rintro - ⟨e, he, -⟩; cases he
    | cons e r ih =>
      obtain ⟨j, v⟩ := e
      intro h1 h2
      by_cases hj : j = fieldBase f + (0x208 + 8 * p)
      · rw [Sparse.get, if_pos hj]; exact h1 (j, v) (List.mem_cons_self ..) hj
      · rw [Sparse.get, if_neg hj]
        refine ih (fun e he => h1 e (List.mem_cons_of_mem _ he)) ?_
        obtain ⟨e, he, hk⟩ := h2
        rcases List.mem_cons.1 he with rfl | he
        · exact absurd hk hj
        · exact ⟨e, he, hk⟩
  refine key _ ?_ ⟨_, List.mem_flatMap.2 ⟨f, List.mem_range.2 hf, List.mem_map.2 ⟨p, List.mem_range.2 hp, rfl⟩⟩, rfl⟩
  intro e he hk
  obtain ⟨g, hg, he⟩ := List.mem_flatMap.1 he
  obtain ⟨q, hq, rfl⟩ := List.mem_map.1 he
  have := List.mem_range.1 hg
  have := List.mem_range.1 hq
  simp only [fieldBase] at hk
  have hgf : g = f := by omega
  have hqp : q = p := by omega
  rw [hgf, hqp]

theorem badRows_key (one : Bool) (e : Nat × Word) (h : e ∈ badRows one) :
    0x2000000000 ≤ e.1 ∧ e.1 < 0x3000000000 ∧ 0x208 ≤ e.1 % 0x10000 ∧ e.1 % 0x10000 ≤ 0x2C8 := by
  obtain ⟨g, hg, he⟩ := List.mem_flatMap.1 h
  obtain ⟨q, hq, rfl⟩ := List.mem_map.1 he
  have := List.mem_range.1 hg
  have := List.mem_range.1 hq
  simp only [fieldBase]
  omega
theorem asked_key : ∀ e ∈ (asked 15 3 [0x24, 1, 5]).csr, e.1 < 0x100000 := by decide +kernel
theorem valid_key : ∀ e ∈ (clusterTiles 0).map fun k => (tileBase k + 0x58, (0x80000000 : Word)), 0x4000000000 ≤ e.1 := by decide +kernel

/-- The register space of the fields, as `exchangeAsked` stores it. -/
theorem exchangeAsked_rd (one : Bool) (a : Nat) (h1 : 0x2000000000 ≤ a) (h2 : a < 0x3000000000) :
    rd (exchangeAsked one) a = (Sparse.get resetWord (badRows one) a).toNat := by
  have hv : ∀ e ∈ (clusterTiles 0).map fun k => (tileBase k + 0x58, (0x80000000 : Word)), e.1 ≠ a := fun e he => by
    have := valid_key e he; omega
  have ha : ∀ e ∈ (asked 15 3 [0x24, 1, 5]).csr, e.1 ≠ a := fun e he => by
    have := asked_key e he; omega
  unfold rd
  rw [show (exchangeAsked one).csr = (asked 15 3 [0x24, 1, 5]).csr ++ badRows one ++ (clusterTiles 0).map fun k => (tileBase k + 0x58, 0x80000000) from rfl,
    Sparse.get_append_right _ _ _ _ hv, Sparse.get_append_left _ _ _ _ ha]

theorem exchangeAsked_bad (one : Bool) (f p : Nat) (hf : f < 168) (hp : p < 25) :
    getF (exchangeAsked one) (fieldBase f) (F.FLD_SHIFT_COL_BAD.at (8 * p)) = bits (badWord one f p).toNat 32 25 ∧
    getF (exchangeAsked one) (fieldBase f) (F.FLD_SHIFT_COL_HOLE.at (8 * p)) = bits (badWord one f p).toNat 0 5 := by
  have hb : 0x2000000000 ≤ fieldBase f ∧ fieldBase f + 0x10000 ≤ 0x3000000000 := by simp only [fieldBase]; omega
  have : rd (exchangeAsked one) (fieldBase f + (0x208 + 8 * p)) = (badWord one f p).toNat := by
    rw [exchangeAsked_rd one _ (by omega) (by omega), badRows_get one _ f p hf hp]
  exact ⟨congrArg (bits · 32 25) this, congrArg (bits · 0 5) this⟩

theorem exchangeAsked_plain (one : Bool) (f : Nat) (hf : f < 168) (x : Fld) (h1 : x.off < 0x10000) (h2 : x.off < 0x208 ∨ 0x2C8 < x.off) :
    getF (exchangeAsked one) (fieldBase f) x = getF State.reset (fieldBase f) x := by
  have hb : 0x2000000000 ≤ fieldBase f ∧ fieldBase f + 0x10000 ≤ 0x3000000000 ∧ fieldBase f % 0x10000 = 0 := by simp only [fieldBase]; omega
  simp only [getF]
  rw [exchangeAsked_rd one _ (by omega) (by omega), Sparse.get_of_no_key _ _ _ (fun e he => by have := badRows_key one e he; omega),
    rd, show State.reset.csr = [] from rfl, Sparse.get_nil]

theorem row_hole_reset : ∀ f, f < 168 → getF State.reset (fieldBase f) F.FLD_SHIFT_ROW_HOLE = 0 ∧
    getF State.reset (fieldBase f) F.FLD_CALVE_STAT_PHASE = 0 := by decide +kernel
theorem all_bits_bad : ∀ x, x < 25 → bit (bits (0x1FFFFFF00000000 : Word).toNat 32 25) x = true ∧
    (bit (bits (0x1FFFFFD00000000 : Word).toNat 32 25) x = true ∨ x = 1) := by decide +kernel
theorem exchangeAsked_backed (one : Bool) (c : Nat) (hc : c < 96768) (h : backed (exchangeAsked one) c = true) : one = true ∧ c = 0 := by
  have hf : clusterField c < 168 := by simp only [clusterField]; omega
  have hx : lcx c < 24 := by simp only [lcx]; omega
  have hy : lcy c < 24 := by simp only [lcy]; omega
  simp only [backed] at h
  rw [exchangeAsked_plain one _ hf F.FLD_SHIFT_ROW_HOLE (by decide) (by decide), (row_hole_reset _ hf).1,
    show b2n (decide (0 ≤ lcy c)) = 1 by simp [b2n]] at h
  rw [(exchangeAsked_bad one _ _ hf (by omega)).1, (exchangeAsked_bad one _ _ hf (by omega)).2] at h
  unfold badWord at h
  split at h
  · rename_i hw
    simp only [Bool.and_eq_true, beq_iff_eq] at hw
    rw [show bits (0x1FFFFFD00000000 : Word).toNat 0 5 = 0 by decide, show b2n (decide (0 ≤ lcx c)) = 1 by simp [b2n]] at h
    rcases (all_bits_bad (lcx c + 1) (by omega)).2 with hb | hb
    · rw [hb] at h; cases h
    · refine ⟨hw.1.1, ?_⟩
      have h1 := hw.1.2
      have h2 := hw.2
      simp only [clusterField] at h1
      simp only [lcx] at hb
      simp only [lcy] at h2
      omega
  · rw [show bits (0x1FFFFFF00000000 : Word).toNat 0 5 = 0 by decide, show b2n (decide (0 ≤ lcx c)) = 1 by simp [b2n],
      (all_bits_bad (lcx c + 1) (by omega)).1] at h
    cases h
theorem exchangeAsked_cluster0 : backed (exchangeAsked true) 0 = true := by
  simp only [backed, show clusterField 0 = 0 by decide, show lcx 0 = 0 by decide, show lcy 0 = 0 by decide]
  rw [exchangeAsked_plain true 0 (by decide) F.FLD_SHIFT_ROW_HOLE (by decide) (by decide), (row_hole_reset 0 (by decide)).1]
  rw [show 0 + b2n (decide (0 ≤ 0)) = 1 by decide, (exchangeAsked_bad true 0 1 (by decide) (by decide)).1,
    (exchangeAsked_bad true 0 1 (by decide) (by decide)).2]
  decide
theorem exchangeAsked_unbacked (one : Bool) :
    unbackedClusters (exchangeAsked one) = (List.range 96768).filter fun c => !(backed (exchangeAsked one) c) := by
  have : someBad (exchangeAsked one) = true := by
    refine List.any_eq_true.2 ⟨(fieldBase 0 + (0x208 + 8 * 0), badWord one 0 0), ?_, by cases one <;> decide⟩
    exact List.mem_append_left _ (List.mem_append_right _ (List.mem_flatMap.2 ⟨0, by decide, List.mem_map.2 ⟨0, by decide, rfl⟩⟩))
  simp only [unbackedClusters, this, if_true]
theorem exchangeAsked_none : backedTiles (exchangeAsked false) = 0 := by
  rw [backedTiles, exchangeAsked_unbacked, List.filter_eq_self.2, List.length_range]
  intro c hc
  cases hb : backed (exchangeAsked false) c
  · rfl
  · exact absurd (exchangeAsked_backed false c (List.mem_range.1 hc) hb).1 (by decide)
theorem exchangeAsked_one : backedTiles (exchangeAsked true) ≠ 0 := by
  have : ((List.range 96768).filter fun c => !(backed (exchangeAsked true) c)).length < (List.range 96768).length := by
    refine List.length_filter_lt_length_iff_exists.2 ⟨0, by simp, ?_⟩
    rw [exchangeAsked_cluster0]
    decide
  rw [List.length_range] at this
  rw [backedTiles, exchangeAsked_unbacked]
  omega
theorem valid_tiles : ∀ k ∈ clusterTiles 0, tileBase k + 0x58 = tileBase k + (F.TSQ_CFGB_VALID.at (8 * 1)).off ∧ 0x4000000000 ≤ tileBase k ∧
    Sparse.get resetWord ((clusterTiles 0).map fun k => (tileBase k + 0x58, (0x80000000 : Word))) (tileBase k + 0x58) = 0x80000000 := by
  decide +kernel
theorem exchangeAsked_valid (one : Bool) : bankValid (exchangeAsked one) 1 = true := by
  refine List.all_eq_true.2 fun c hc => ?_
  cases hb : backed (exchangeAsked one) c
  · rfl
  · rw [(exchangeAsked_backed one c (List.mem_range.1 hc) hb).2]
    rw [Bool.not_true, Bool.false_or]
    refine List.all_eq_true.2 fun k hk => ?_
    obtain ⟨h1, h2, h3⟩ := valid_tiles k hk
    have ha : ∀ e ∈ (asked 15 3 [0x24, 1, 5]).csr ++ badRows one, e.1 ≠ tileBase k + 0x58 := fun e he => by
      rcases List.mem_append.1 he with he | he
      · have := asked_key e he; omega
      · have := badRows_key one e he; omega
    have : rd (exchangeAsked one) (tileBase k + 0x58) = 0x80000000 := by
      unfold rd
      rw [show (exchangeAsked one).csr = (asked 15 3 [0x24, 1, 5]).csr ++ badRows one ++
        (clusterTiles 0).map fun k => (tileBase k + 0x58, 0x80000000) from rfl, Sparse.get_append_left _ _ _ _ ha, h3]
      rfl
    rw [isF, getF, ← h1, this]
    decide
theorem witness_LoadsExchangesAndCocoons_exchange (one : Bool) :
    Taken (exchangeAsked one) 3 0x24 [3, 2 ^ 32 - 1] ∧ arg (exchangeAsked one) 3 0 = 1 ∧ exchBeat (exchangeAsked one) (arg (exchangeAsked one) 3 1) = 5 ∧
      calving (exchangeAsked one) = false ∧ exchRefused (exchangeAsked one) 1 5 = false := by
  have hc : calving (exchangeAsked one) = false := by
    refine List.any_eq_false.2 fun f hf => ?_
    rw [isF, exchangeAsked_plain one f (List.mem_range.1 hf) F.FLD_CALVE_STAT_PHASE (by decide) (by decide), (row_hole_reset f (List.mem_range.1 hf)).2]
    decide
  refine ⟨?_, ?_, ?_, hc, ?_⟩
  · unfold Taken; cases one <;> decide +kernel
  · cases one <;> decide +kernel
  · cases one <;> decide +kernel
  · unfold exchRefused
    rw [exchangeAsked_valid one]
    cases one <;> decide +kernel
theorem witness_LoadsExchangesAndCocoons_exchange_refused :
    Taken (asked 15 3 [0x24, 1, 5]) 3 0x24 [3, 2 ^ 32 - 1] ∧ calving (asked 15 3 [0x24, 1, 5]) = false ∧
      exchRefused (asked 15 3 [0x24, 1, 5]) 1 5 = true := by
  refine ⟨by unfold Taken; decide +kernel, by decide +kernel, ?_⟩
  have : (beating (asked 15 3 [0x24, 1, 5])).isEmpty = true := by decide +kernel
  simp [exchRefused, this]
/-- Every field FROZEN or INSTAR; COCOON_OUT to `dest`. -/
def cocooning (st : Life) (op dest : Nat) : State :=
  { asked 15 3 [op, dest] with lifeF := (List.range 168).map fun f => (f, { st }) }
theorem witness_LoadsExchangesAndCocoons_out :
    let s := cocooning .frozen 0x60 512
    Taken s 3 0x60 [2 ^ 64 - 1, 1] ∧ calving s = false ∧ cocoonOutRefused s 512 false = false ∧ allFrozen s = true ∧ meshBusy s = false ∧
      anyForced s = false ∧ waiters s (· == .thaw) = [] ∧ s.dom.thawWait = false ∧ (∀ st, st < 32 → frnState s st ≠ 3) ∧
      cocoonOutRefused s 513 false = true := by unfold Taken; decide +kernel
theorem witness_LoadsExchangesAndCocoons_out_scratch :
    let s := { asked 15 3 [0x60, 512, 1] with lifeF := (List.range 168).map fun f => (f, { st := .frozen }) }
    Taken s 3 0x60 [2 ^ 64 - 1, 1] ∧ bit (arg s 3 1) 0 = true ∧ calving s = false ∧ cocoonOutRefused s 512 true = false ∧ allFrozen s = true ∧
      meshBusy s = false ∧ anyForced s = false ∧ waiters s (· == .thaw) = [] ∧ s.dom.thawWait = false ∧ (∀ st, st < 32 → frnState s st ≠ 3) ∧
      backed s (tileCluster 0) = true := by unfold Taken; decide +kernel
/-- A cocoon's header at 512, its CRC good, without scratch; tile 0's frame at 0. The engine's own note of what that frame holds. -/
def cocoonCells : List Host.Cell := [(512, 0x4F), (513, 0x43), (514, 1), (552, 0x1D), (553, 0x5E), (554, 9), (555, 9)]
def toThaw : State := { cocooning .instar 0x61 512 with firn := cocoonCells }
def frame0 : List Row := (List.range 128).map fun i => firnRow toThaw (0 + 65536 * 0 + 512 * i)
def frameNote : Snap := { rows := [(0, [firnRow toThaw 0])], crcs := [(0, frameSum (frame0.drop 1))] }
def thawed : State := { toThaw with cocoons := [(512, some frameNote)] }
set_option maxRecDepth 20000 in
theorem witness_LoadsExchangesAndCocoons_in :
    Taken thawed 3 0x61 [2 ^ 64 - 1] ∧ calving thawed = false ∧ cocoonInReady thawed = true ∧ arg thawed 3 0 = 512 ∧
      cocoonOk thawed 512 = true ∧ cocoonLost thawed 512 = false ∧ cocoonField thawed 512 24 8 = 0 ∧ (∀ st, st < 32 → frnState thawed st ≠ 3) ∧
      backed thawed (tileCluster 0) = true ∧ frameCalved (some frameNote) 0 (frame0.headD 0) = false ∧
      cocoonOk (cocooning .instar 0x61 512) 512 = false := by unfold Taken; decide +kernel
theorem witness_LoadsExchangesAndCocoons_in_crc :
    look none thawed.cocoons 512 = some frameNote ∧ frameCrcOf (some frameNote) 0 (frame0.headD 0) = frameSum (frame0.drop 1) := by
  refine ⟨rfl, ?_⟩
  have h : ((look [] frameNote.rows 0).head? == some (frame0.headD 0)) = true := by decide +kernel
  have e : ∀ x : Nat, look 0 [(0, x)] 0 = x := fun x => rfl
  unfold frameCrcOf
  exact (if_pos h).trans (e _)

/-- Every field in state `st`, its beats as given; an image with its parameters ecloded. -/
def readyEngine (op : Nat) (st : Life) (v : Field) : State :=
  { asked 15 3 [op] with lifeF := (List.range 168).map fun f => (f, { st }), fields := [(5, v)], firn := wholeImage,
                         beats := { image := some 0 } }
theorem witness_StartFreezeAndThaw_start :
    let s := readyEngine 0x21 .live {}
    Taken s 3 0x21 [] ∧ mustStay s = false ∧ allEclosed s = true ∧ beatParams s (s.beats.image.getD 0) = (100000, 10000, 10000, 64, 600) ∧
      paramsOk 100000 10000 10000 64 600 = true ∧ joined s = false ∧ freezing s = false ∧ getF s 0 F.PWR_DIN_FRZ_ACT = 0 ∧
      allEclosed (asked 15 3 [0x21]) = false := by unfold Taken; decide +kernel
theorem witness_StartFreezeAndThaw_freeze :
    let s := readyEngine 0x22 .live {}
    Taken s 3 0x22 [] ∧ 3 ∈ s.steward.queue ∧ waiters s (· == .thaw) = [] ∧ s.dom.thawWait = false ∧ (look {} s.lifeF 5).st = .live ∧
      (∀ f, f < 168 → (look {} s.lifeF f).st ≠ .frozen → (field s f).freezeReq = none ∧ (field s f).beats = []) := by
  unfold Taken; decide +kernel
theorem witness_StartFreezeAndThaw_thaw :
    let s := readyEngine 0x23 .frozen { started := true }
    let t := readyEngine 0x23 .live { freezeReq := some 3 }
    Taken s 3 0x23 [] ∧ getF (setF s 0 F.PWR_DIN_FRZ_ACT) 0 F.PWR_DIN_FRZ_ACT = 1 ∧ Taken (setF s 0 F.PWR_DIN_FRZ_ACT) 3 0x23 [] ∧
      getF s 0 F.PWR_DIN_FRZ_ACT = 0 ∧ freezing s = false ∧ anyFrozen s = true ∧ s.clocks.realigned = true ∧ getF s 0 F.CLK_STATUS_SAFE = 0 ∧
      mustStay s = false ∧ mustStay { s with dep := { s.dep with stuck := true } } = true ∧ (field s 5).started = true ∧
      Taken t 3 0x23 [] ∧ freezing t = true ∧ anyFrozen (readyEngine 0x23 .live {}) = false := by unfold Taken; decide +kernel

/-! ### Witnesses: power, clock, NVS, domain and calving commands -/

/-- SET_POWER_CAP's word 0: CAP 60, PRIO 3, FREQ 1000, CURTAIL_CAP 50, RIDE_MS 20 with RIDE_EN; with CAP 20, out of range. -/
def capWord (op cap : Nat) : Nat := op + cap * 2 ^ 8 + 3 * 2 ^ 16 + 1000 * 2 ^ 20 + 50 * 2 ^ 32 + 2 ^ 40 + 20 * 2 ^ 41
theorem witness_PowerAndClockCommandsAct_cap : ∀ op ∈ [0, 1, 2],
    (let s := asked 15 3 [0x30, capWord op 60]
     Taken s 3 0x30 [capMask] ∧ arg s 3 0 % 4 = op ∧ CapInRange s (arg s 3 0) ∧ anyLife s .instar = false ∧ powerState s ≠ 4 ∧
      powerState (putF s 0 F.PWR_STATUS_STATE 4) = 4 ∧ Taken (putF s 0 F.PWR_STATUS_STATE 4) 3 0x30 [capMask]) ∧
    (let s := asked 15 3 [0x30, capWord op 20]
     Taken s 3 0x30 [capMask] ∧ arg s 3 0 % 4 = op ∧ ¬CapInRange s (arg s 3 0)) := by
  unfold Taken CapInRange; decide +kernel
theorem witness_PowerAndClockCommandsAct_ramp : ∀ up ∈ [0, 1000, 1001],
    let s := asked 15 3 [0x31, up + 1000 * 2 ^ 16]
    Taken s 3 0x31 [2 ^ 32 - 1] ∧ arg s 3 0 % 2 ^ 16 = up ∧ arg s 3 0 / 2 ^ 16 = 1000 := by unfold Taken; decide +kernel
theorem witness_PowerAndClockCommandsAct_floor : ∀ kw ∈ [88, 89],
    let s := putF (asked 15 3 [0x32, kw + 256]) 0 F.PWR_CAP_CAP 88
    Taken s 3 0x32 [2 ^ 9 - 1] ∧ arg s 3 0 % 2 ^ 8 = kw ∧ getF s 0 F.PWR_CAP_CAP = 88 := by unfold Taken; decide +kernel
/-- CLOCK_SELECT with word 0 `a`; sources 0 and 1 qualified and active, the multiplexer in state `m`. -/
def selecting (a m : Nat) : State :=
  putF (putF (putF (asked 15 3 [0x80, a]) 0 F.CLK_STATUS_QUALIFIED 3) 0 F.CLK_STATUS_ACT 3) 0 F.CLK_STATUS_MUX m
theorem witness_PowerAndClockCommandsAct_clock :
    (∀ e ∈ [(1, 0), (2, 0), (4, 0), (5, 0), (9, 1), (9, 2), (10, 1)], Taken (selecting e.1 e.2) 3 0x80 [2 ^ 5 - 1] ∧ joined (selecting e.1 e.2) = false ∧
      muxState (selecting e.1 e.2) = e.2 ∧ arg (selecting e.1 e.2) 3 0 = e.1) ∧
    curSrc (selecting 4 0) = 4 ∧ srcQualified (selecting 1 0) 1 = true ∧ srcQualified (selecting 2 0) 2 = false ∧ srcActive (selecting 9 1) 1 = true ∧
      srcActive (selecting 10 1) 2 = false := by unfold Taken; decide +kernel

/-- The NVS clock gated. -/
def gated (s : State) : State := putF s 0 F.MGT_CLK_EN_NVS 0
/-- CAL_IMPORT's options: the key, and LIVE. -/
def impKey : Nat := 0xCA1B * 2 ^ 48
theorem witness_NvsCommandsAct :
    (∀ a ∈ [0, 1], (let s := asked 15 3 [0x40, a]; Taken s 3 0x40 [1] ∧ nvsOn s = true ∧ inForce s.steward.nvs = some ({}, false) ∧
      Taken (gated s) 3 0x40 [1] ∧ nvsOn (gated s) = false)) ∧
    100000 < ({ stores := 100000 } : Nvs).stores + 1 ∧
    (∀ o ∈ [0, 1], (let s := asked 15 3 [0x42, 1024, o]; Taken s 3 0x42 [2 ^ 64 - 1, 1] ∧ nvsOn s = true ∧ arg s 3 0 % 512 = 0 ∧ arg s 3 1 = o ∧
      firnAvailable s = true ∧ shelfSize s = 2 ^ 41 ∧ Taken (gated s) 3 0x42 [2 ^ 64 - 1, 1] ∧ nvsOn (gated s) = false)) ∧
    Taken (asked 15 3 [0x42, 1025]) 3 0x42 [2 ^ 64 - 1, 1] ∧ arg (asked 15 3 [0x42, 1025]) 3 0 % 512 ≠ 0 ∧
    (let s := asked 15 3 [0x43, 0, impKey + 1]
     Taken s 3 0x43 [2 ^ 64 - 1, 0xFFFF000000000003] ∧ nvsOn s = true ∧ arg s 3 1 / 2 ^ 48 = 0xCA1B ∧ bit (arg s 3 1) 0 = true) ∧
    (let s := asked 15 3 [0x43, 0, 3]
     Taken s 3 0x43 [2 ^ 64 - 1, 0xFFFF000000000003] ∧ nvsOn s = true ∧ arg s 3 1 / 2 ^ 48 ≠ 0xCA1B) ∧
    (let s := asked 15 3 [0x44, 0, 2 ^ 23 + 1]
     Taken s 3 0x44 [2 ^ 64 - 1, 2 ^ 64 - 1] ∧ nvsOn s = true ∧ ¬arg s 3 1 ≤ 2 ^ 23) := by unfold Taken; decide +kernel
/-- The length of the calibration set is open (Config.calLen): with every length that fits, the export's last clause has a witness. -/
theorem witness_NvsCommandsAct_fits (h : Config.calLen ≤ 2 ^ 40) :
    arg (asked 15 3 [0x42, 1024]) 3 0 + 64 + Config.calLen ≤ shelfSize (asked 15 3 [0x42, 1024]) := by
  rw [show arg (asked 15 3 [0x42, 1024]) 3 0 = 1024 by decide +kernel, show shelfSize (asked 15 3 [0x42, 1024]) = 2 ^ 41 by decide +kernel]
  omega
/-- Which images are signed is open (Config.signatureOk): the clause of an accepted image has a witness for each image that is. -/
theorem witness_NvsCommandsAct_signed (h : Config.signatureOk [] = true) :
    let s := asked 15 3 [0x44, 0, 0]
    Taken s 3 0x44 [2 ^ 64 - 1, 2 ^ 64 - 1] ∧ nvsOn s = true ∧ arg s 3 1 ≤ 2 ^ 23 ∧ arg s 3 0 + arg s 3 1 ≤ shelfSize s ∧
      s.steward.nvs.runs (some (JitorImg.bytes (shelfBytes s (arg s 3 0) (arg s 3 1)))) = true := by
  refine ⟨by unfold Taken; decide +kernel, by decide +kernel, by decide +kernel, by decide +kernel, ?_⟩
  rw [show shelfBytes (asked 15 3 [0x44, 0, 0]) (arg (asked 15 3 [0x44, 0, 0]) 3 0) (arg (asked 15 3 [0x44, 0, 0]) 3 1) = [] by decide +kernel,
    show (asked 15 3 [0x44, 0, 0]).steward.nvs = {} by decide +kernel]
  simp only [Nvs.runs, JitorImg.signed, h, Bool.true_and]
  exact decide_eq_true (Nat.zero_le _)

/-- FABRIC_JOIN as engine 0, with tick port 4. -/
def joinRec : List Nat := [0x70, 4 * 2 ^ 16, 0, 5]
/-- COMMIT_POLICY: steps of 3 beats, no replica, areas at 512 and 2^40. -/
def policyRec : List Nat := [0x71, 3 * 2 ^ 8 + 0xFFFF * 2 ^ 32, 512, 2 ^ 40]
theorem witness_DomainAndCalveCommandsAct_domain :
    (∀ ph ∈ [14, 15], (let s := asked ph 3 joinRec;
      Taken s 3 0x70 [2 ^ 36 - 1, 2 ^ 11 - 1, 2 ^ 32 - 1] ∧ joinRefused s (arg s 3 0) = false ∧ engineReady s = (ph == 15))) ∧
    (let s := asked 15 3 [0x70, 3 * 2 ^ 16]; Taken s 3 0x70 [2 ^ 36 - 1, 2 ^ 11 - 1, 2 ^ 32 - 1] ∧ joinRefused s (arg s 3 0) = true) ∧
    (let s := asked 15 3 policyRec
     Taken s 3 0x71 [2 ^ 64 - 255, 2 ^ 41 - 1, 2 ^ 41 - 1] ∧ policyRefused s (arg s 3 0) (arg s 3 1) (arg s 3 2) = false) ∧
    (let s := asked 15 3 [0x71, 0xFFFF * 2 ^ 32, 512, 2 ^ 40]
     Taken s 3 0x71 [2 ^ 64 - 255, 2 ^ 41 - 1, 2 ^ 41 - 1] ∧ policyRefused s (arg s 3 0) (arg s 3 1) (arg s 3 2) = true) := by
  unfold Taken; decide +kernel
/-- CALVE with word 0 `a`, for field 0: physical cluster (0, 1) in use and calved in service where `st` is 2. -/
def calveAsked (a st : Nat) : State :=
  let s := setF (asked 15 3 [0x50, a]) (fieldBase 0) (colF F.FLD_SHIFT_COL_IN_USE 1)
  modDep s fun d => { d with log := { d.log with summary := [(morIndex 0 0 1, { (morEnt s (morIndex 0 0 1)) with state := st })] } }
theorem witness_DomainAndCalveCommandsAct_calve :
    (∀ a ∈ [2 ^ 9 + 2 ^ 23, 2 ^ 8 + 2 ^ 9 + 2 ^ 23],
      (let s := calveAsked a 0;
      Taken s 3 0x50 calveMask ∧ arg s 3 0 % 256 = 0 ∧ calving s = false ∧ calveTarget s 3 = .inl (0, 0, 1) ∧ bit (colBad s 0 1) 0 = false ∧ inUse s 0 1 = true)) ∧
    (let s := calveAsked (2 ^ 9 + 2 * 2 ^ 23) 0
     Taken s 3 0x50 calveMask ∧ calving s = false ∧ calveTarget s 3 = .inl (0, 0, 2) ∧ inUse s 0 2 = false) ∧
    (let s := calveAsked (7 * 2 ^ 11) 0; Taken s 3 0x50 calveMask ∧ calving s = false ∧ calveTarget s 3 = .inr 0x01) ∧
    (let s := putF (calveAsked 0 0) (fieldBase 0) F.FLD_CALVE_STAT_PHASE 1; Taken s 3 0x50 calveMask ∧ calving s = true) ∧
    (∀ st ∈ [0, 2], let s := calveAsked (1 + 2 ^ 9 + 2 ^ 23) st
                    Taken s 3 0x50 calveMask ∧ arg s 3 0 % 256 = 1 ∧ calving s = false ∧ calveTarget s 3 = .inl (0, 0, 1) ∧ s.steward.loaded = false ∧
        (morEnt s (morIndex 0 0 1)).state = st) := by unfold Taken; decide +kernel

/-! ### Witnesses: resets, the cold start, the steward -/

/-- State.reset, its steward as given. -/
def stewardIs (f : Steward → Steward) : State := modSteward State.reset f
theorem witness_ResetsAndStarts :
    (let s := State.reset
     getF s 0 F.PWR_DIN_CUR_RAW = 0 ∧ getF s 0 F.PWR_DIN_FRZ_RAW = 0 ∧ s.steward.aux = true ∧ s.steward.mainOk = true ∧ s.steward.starting = false ∧
      s.steward.failed = false ∧ s.steward.stopped = false ∧ phase s = 0 ∧ jitorUp s = false ∧ s.steward.resetAt = none ∧ s.steward.on = true) ∧
    (stewardIs fun w => { w with aux := false }).steward.aux = false ∧
    (∀ b ∈ [true, false], let s := stewardIs fun w => { w with stopped := true, tripped := b }
      s.steward.aux = true ∧ s.steward.mainOk = true ∧ s.steward.starting = false ∧ s.steward.failed = false ∧ s.steward.stopped = true ∧
      s.steward.tripped = b ∧ s.steward.resetAt = none ∧ s.steward.on = true ∧ s.steward.resetLow = false) ∧
    (let s := { stewardIs fun w => { w with resetAt := some 0 } with tc := 12500000 }
     0 + usTc s 10000 ≤ s.tc ∧ s.steward.resetLow = false ∧ getF s 0 F.PWR_DIN_CUR_RAW = 0 ∧ getF s 0 F.PWR_DIN_FRZ_RAW = 0) := by decide +kernel

/-- A start from phase 0 is in phase `p`. -/
def startingIn (p : Nat) : State := putF (stewardIs fun w => { w with starting := true }) 0 F.MBX_MIRROR_PHASE p
theorem witness_ColdStartPassesItsPhases :
    (∀ p ∈ [0, 1, 2, 3, 4, 5, 6, 7, 8], (startingIn p).steward.starting = true ∧ phase (startingIn p) = p) ∧
    (modSteward (startingIn 0) fun w => { w with nvs := { w.nvs with jitorA := none } }).steward.nvs.pick = none ∧
    inForce (startingIn 1).steward.nvs = some ({}, false) ∧ (startingIn 2).steward.mainOk = true ∧
    (modSteward (startingIn 2) fun w => { w with mainOk := false }).steward.mainOk = false ∧ (field (startingIn 4) 0).tested = false ∧
    (let s := { startingIn 4 with fields := (List.range 168).map fun f => (f, { tested := true }) }
     phase s = 4 ∧ s.steward.starting = true ∧ ∀ f, f < 168 → (field s f).tested = true) ∧
    (startingIn 4).steward.late = false ∧ (startingIn 4).steward.startFrom = 0 ∧ (startingIn 4).steward.startAt = 0 ∧
    usTc (startingIn 4) (1000000 * latestEnd 4) ≤ ({ startingIn 4 with tc := 10 ^ 12 } : State).tc := by decide +kernel
/-- The factory image is signed, and no version lies below the minimum of 0. -/
theorem witness_ColdStartPassesItsPhases_pick : ({} : Nvs).pick = some false := by
  have h : ({} : Nvs).runs (some JitorImg.factory) = true := by
    simp only [Nvs.runs, JitorImg.signed, Bool.true_and]
    exact decide_eq_true (Nat.zero_le _)
  show (match ({} : Nvs).runs (some JitorImg.factory), ({} : Nvs).runs none with
    | true, true => some (decide (imgVersion (some JitorImg.factory) < imgVersion none))
    | true, false => some false
    | false, true => some true
    | false, false => none) = some false
  rw [h]
  rfl

/-- A running steward was reset with slot 3 in hand. -/
def stewardReturns : State :=
  modSteward (setF State.reset 0 F.MBX_MIRROR_STEWARD_RESET) fun w => { w with abandoned := [3] }
theorem witness_StewardResetsAndReturns :
    jitorUp (asked 15 3 [0x21]) = true ∧ getF stewardReturns 0 F.MBX_MIRROR_STEWARD_RESET = 1 ∧ stewardReturns.steward.on = true ∧
      stewardReturns.dep.calves = [] ∧ stewardReturns.steward.nvs = {} ∧ (3 : Fin 34).val ∈ stewardReturns.steward.abandoned ∧
      (modSteward stewardReturns fun w => { w with nvs := { w.nvs with jitorA := none } }).steward.nvs.pick = none := by decide +kernel
theorem witness_StewardKeepsItsRecords :
    jitorUp (asked 15 3 []) = true ∧ nvsOn (asked 15 3 []) = true ∧ jitorUp (gated (asked 15 3 [])) = true ∧ nvsOn (gated (asked 15 3 [])) = false ∧
      (gated (asked 15 3 [])).steward.heldRaised = false ∧ (asked 15 3 []).dep.calves = [] := by decide +kernel

/-! ### Witnesses: rules of the machine as a whole -/

theorem witness_RegistersAreGeneral :
    Issues (demo ⟨.call, 0, 0, 0, 9⟩) t0 0 ⟨.call, 0, 0, 0, 9⟩ ∧ State.reset.steward.aux = true ∧
      ((1, 2) : Fin 8 × Fin 16) ≠ (0, 2) := by decide
theorem witness_OnlyTheGroupPreempts :
    srcCfg State.reset 290 F.EVC_SRC_PRIO = 0 ∧
    (let s := putF (sourced 290 1 1) 0 F.EVC_CFG_SPLIT 2
     offered s 0 290 = true ∧ inService s 290 = false ∧ srcCfg s 290 F.EVC_SRC_PRIO = 9 ∧ svcOf s 0 = [] ∧
      getF s 0 (coreF F.EVC_CORE_CTL_THRESH 0) < groupPrio s 290) ∧
    (let s := sourced 290 1 1 { insvc := [(0, [290])] }
     290 ∈ svcOf s 0 ∧ groupPrio s 290 ≤ groupPrio s 290) := by decide +kernel
theorem witness_InstructionWordsRoundTrip :
    iAdd.legal = true ∧ TInsn.ofWord iAdd.encode = some iAdd ∧ 0xB * 2 ^ 60 + 2 ^ 60 ≤ (0xC000000000000000 : Word).toNat := by decide
theorem witness_EveryCommandAnswers : (900000 : Nat) < 900001 := by decide
theorem witness_RegistersAreGeneral_eclosion :
    tileNo ⟨0, 1, 0⟩ = 1 ∧ life ecloding 1 = .instar ∧ (tile ecloding 1).verified = true ∧ released ecloding 1 = true ∧
      (∀ j, j < tileT 1 → life ecloding (clusterTile (tileCluster 1) j) ≠ .instar) ∧ aLoad.calve = false ∧ bankNrec ecloding 1 480 = 0 := by
  decide +kernel
theorem witness_EveryStepKeepsTheForm : FormOk State.reset ∧ ∃ u, step State.reset = .next u := by
  refine ⟨⟨rfl, rfl, rfl, rfl, List.Pairwise.nil, fun slot => ⟨fun h => ?_, (by intro h; cases h)⟩⟩, _, rfl⟩
  have : slotBusy State.reset slot = false := rfl
  rw [this] at h
  cases h
theorem witness_IdleStepPassesOneTileCycle : State.reset.pending = [] := rfl

end Sys2Proof.Tests
end

section
/-! Register blocks that repeat, and what changes registers alone: rules that the obligations' proofs share. -/

namespace Sys2Proof.Machine

/-! ### Updates of registers alone -/

/-- A field of a register that an update leaves alone keeps its value. -/
theorem RegsKept.getF {s u : State} {l : List Nat} (h : RegsKept s u l) {b : Nat} {f : Fld} (ha : b + f.off ∉ l) :
    getF u b f = getF s b f := by
  simp only [Machine.getF, h _ ha]

theorem regsKept_setF (s : State) (b : Nat) (f : Fld) : RegsKept s (setF s b f) [b + f.off] := regsKept_putF s b f 1

theorem regsKept_incF (s : State) (b : Nat) (f : Fld) (n : Nat) : RegsKept s (incF s b f n) [b + f.off] := regsKept_putF s b f _

theorem MemoryKept.trans {s u v : State} (h : MemoryKept s u) (h' : MemoryKept u v) : MemoryKept s v :=
  ⟨fun a => (h'.1 a).trans (h.1 a), fun a => (h'.2 a).trans (h.2 a)⟩

theorem OnlyRegs.memoryKept {s u : State} (h : OnlyRegs s u) : MemoryKept s u :=
  have hs : u.scratch = s.scratch := (congrArg State.scratch h : _)
  have hf : u.firn = s.firn := (congrArg State.firn h : _)
  ⟨fun a => by rw [hs], fun a => by rw [hf]⟩

theorem OnlyRegs.trans {s u v : State} (h : OnlyRegs s u) (h' : OnlyRegs u v) : OnlyRegs s v := by
  unfold OnlyRegs at *
  exact (congrArg (fun x : State => { x with csr := s.csr }) h').trans h

theorem OnlyRegs.tc {s u : State} (h : OnlyRegs s u) : u.tc = s.tc := (congrArg State.tc h : _)
theorem OnlyRegs.fields {s u : State} (h : OnlyRegs s u) : u.fields = s.fields := (congrArg State.fields h : _)
theorem OnlyRegs.hinge {s u : State} (h : OnlyRegs s u) : u.hinge = s.hinge := (congrArg State.hinge h : _)

theorem onlyRegs_wr (s : State) (a v : Nat) : OnlyRegs s (wr s a v) := rfl
theorem onlyRegs_putF (s : State) (b : Nat) (f : Fld) (v : Nat) : OnlyRegs s (putF s b f v) := onlyRegs_wr s _ _
theorem onlyRegs_incF (s : State) (b : Nat) (f : Fld) (n : Nat) : OnlyRegs s (incF s b f n) := onlyRegs_wr s _ _
theorem onlyRegs_setF (s : State) (b : Nat) (f : Fld) : OnlyRegs s (setF s b f) := onlyRegs_wr s _ _

theorem onlyRegs_condition (s : State) (n code : Nat) : OnlyRegs s (condition s n code) :=
  (onlyRegs_putF s _ _ _).trans (onlyRegs_putF _ _ _ _)

theorem regsKept_condition (s : State) (n code : Nat) : RegsKept s (condition s n code) [0x14000 + 8 * n, 0x4000] := by
  have source : RegsKept s (putF s 0 (F.EVC_SRC_STAT_LAST_CODE.at (8 * n)) code) [0x14000 + 8 * n] :=
    (regsKept_putF s 0 _ code).mono (by simp [Fld.at, F.EVC_SRC_STAT_LAST_CODE])
  exact source.append (regsKept_putF _ 0 F.MBX_MIRROR_LAST_CODE code)

/-- The latest condition behind a source, and of the engine (R367). -/
theorem lastCode_condition (s : State) {n code : Nat} (h : code < 256) :
    getF (condition s n code) 0 (F.EVC_SRC_STAT_LAST_CODE.at (8 * n)) = code := by
  rw [condition, getF_putF_ne, getF_putF_self _ _ _ _ (by simp [Fld.at, F.EVC_SRC_STAT_LAST_CODE])]
  · exact Nat.mod_eq_of_lt h
  · simp only [Fld.at, F.EVC_SRC_STAT_LAST_CODE, F.MBX_MIRROR_LAST_CODE]
    omega

theorem mirrorCode_condition (s : State) (n : Nat) {code : Nat} (h : code < 256) :
    getF (condition s n code) 0 F.MBX_MIRROR_LAST_CODE = code :=
  (getF_putF_self _ _ _ _ (by decide)).trans (Nat.mod_eq_of_lt h)

/-- What a change of registers leaves alone beside a further part of the state. -/
theorem OnlyRegs.with_csr_hinge_tc {s u : State} (h : OnlyRegs s u) (c : List (Nat × Word)) (x : Hinge) (n : Nat) :
    { u with csr := c, hinge := x, tc := n } = { s with csr := c, hinge := x, tc := n } := by
  unfold OnlyRegs at h
  exact congrArg (fun y : State => { y with csr := c, hinge := x, tc := n }) h

theorem OnlyRegs.with_csr_rdata {s u : State} (h : OnlyRegs s u) (v : Word) :
    { u with csr := s.csr, rdata := v } = { s with rdata := v } := by
  unfold OnlyRegs at h
  exact congrArg (fun y : State => { y with rdata := v }) h

/-! ### Parts of the state that a change of registers leaves -/

theorem OnlyRegs.tile {s u : State} (h : OnlyRegs s u) (j : Nat) : tile u j = tile s j := by
  have ht : u.tiles = s.tiles := (congrArg State.tiles h : _)
  rw [Machine.tile, Machine.tile, ht]

theorem OnlyRegs.field {s u : State} (h : OnlyRegs s u) (j : Nat) : field u j = field s j := by
  rw [Machine.field, Machine.field, h.fields]

theorem memoryKept_modTile (s : State) (k : Nat) (g : Tile → Tile) : MemoryKept s (modTile s k g) := (inside_modTile s k g).memoryKept

/-- A change of one tile, then of registers. -/
theorem OnlyRegs.onlyTile {s u : State} {k : Nat} {g : Tile → Tile} (h : OnlyRegs (modTile s k g) u) : OnlyTile s u k := by
  refine ⟨?_, fun j hj => (h.tile j).trans (tile_modTile_ne s g hj), (memoryKept_modTile s k g).trans h.memoryKept⟩
  unfold OnlyRegs at h
  exact congrArg (fun y : State => { y with csr := s.csr, tiles := s.tiles }) h

theorem onlyField_modField (s : State) (f : Nat) (g : Field → Field) : OnlyField s (modField s f g) f :=
  ⟨rfl, otherFieldsKept_modField s f g, (inside_modField s f g).memoryKept⟩

/-! ### The clock moved on -/

theorem waitTc_tc {s : State} {n : Nat} (h : s.tc ≤ n) : (waitTc s n).tc = n := Nat.max_eq_right h
theorem regsKept_waitTc (s : State) (n : Nat) : RegsKept s (waitTc s n) [] := RegsKept.of_csr rfl _
theorem memoryKept_waitTc (s : State) (n : Nat) : MemoryKept s (waitTc s n) := ⟨fun _ => rfl, fun _ => rfl⟩

/-! ### Bits and single fields -/

theorem bit_eq_testBit (v i : Nat) : bit v i = v.testBit i := by
  rw [bit, Nat.testBit_eq_decide_div_mod_eq]
  rfl

theorem rd_putF_congr {s u : State} (h : u.csr = s.csr) (b : Nat) (f : Fld) (v a : Nat) : rd (putF u b f v) a = rd (putF s b f v) a := by
  rw [putF, putF, rd_wr, rd_wr, rd_congr h, rd_congr h]

/-! ### What a read shows, beside what it changes -/

theorem rd_with_rdata (s : State) (v : Word) (a : Nat) : rd { s with rdata := v } a = rd s a := rd_congr rfl a
theorem field_with_rdata (s : State) (v : Word) (j : Nat) : field { s with rdata := v } j = field s j := rfl
theorem memoryKept_with_rdata {s u : State} (h : MemoryKept s u) (v : Word) : MemoryKept s { u with rdata := v } := h
theorem regsKept_with_rdata {s u : State} {l : List Nat} (h : RegsKept s u l) (v : Word) : RegsKept s { u with rdata := v } l :=
  fun a ha => (rd_with_rdata u v a).trans (h a ha)

/-! ### Reset words of the blocks that repeat (R11, R28) -/

/-- The reset value of a register depends on its row of the maps, its space and its offset in a tile's bank alone. -/
theorem resetWord_congr {a b : Nat} (hr : regAt a = regAt b) (hs : a / 0x1000000000 = b / 0x1000000000)
    (hm : a % 0x4000 = b % 0x4000) : resetWord a = resetWord b := by
  unfold resetWord
  rw [hr, hs, hm]

theorem regAt_of_tileSpace {a : Nat} (h : a / 0x1000000000 = 4) : regAt a = findReg tileRegs (a % 0x4000) := by
  simp only [regAt, h]

theorem regAt_of_fieldSpace {a : Nat} (h : a / 0x1000000000 = 2) : regAt a = findReg fieldRegs (a % 0x10000) := by
  simp only [regAt, h]

theorem tileBase_tileNo_div (t : TileId) {o : Nat} (ho : o < 0x4000) : (tileBase (tileNo t) + o) / 0x1000000000 = 4 := by
  obtain ⟨w, x, y⟩ := t
  simp only [tileBase, tileNo, tileW, tileY, tileX]; omega

theorem tileBase_mod (k : Nat) {o : Nat} (ho : o < 0x4000) : (tileBase k + o) % 0x4000 = o := by
  unfold tileBase; omega

theorem fieldBase_div {f o : Nat} (hf : f < 168) (ho : o < 0x10000) : (fieldBase f + o) / 0x1000000000 = 2 := by
  unfold fieldBase; omega

theorem fieldBase_mod (f : Nat) {o : Nat} (ho : o < 0x10000) : (fieldBase f + o) % 0x10000 = o := by
  unfold fieldBase; omega

/-- Every tile's registers have the same reset values. -/
theorem resetWord_tileBase (t u : TileId) {o : Nat} (ho : o < 0x4000) :
    resetWord (tileBase (tileNo t) + o) = resetWord (tileBase (tileNo u) + o) := by
  have ht := tileBase_tileNo_div t ho
  have hu := tileBase_tileNo_div u ho
  have hm := (tileBase_mod (tileNo t) ho).trans (tileBase_mod (tileNo u) ho).symm
  exact resetWord_congr (by rw [regAt_of_tileSpace ht, regAt_of_tileSpace hu, hm]) (ht.trans hu.symm) hm

/-- Every field's registers have the same reset values. -/
theorem resetWord_fieldBase {f g o : Nat} (hf : f < 168) (hg : g < 168) (ho : o < 0x10000) :
    resetWord (fieldBase f + o) = resetWord (fieldBase g + o) := by
  have hm := (fieldBase_mod f ho).trans (fieldBase_mod g ho).symm
  have h1 := fieldBase_div hf ho
  have h2 := fieldBase_div hg ho
  exact resetWord_congr (by rw [regAt_of_fieldSpace h1, regAt_of_fieldSpace h2, hm]) (h1.trans h2.symm) (by omega)

end Sys2Proof.Machine
end

section
/-! The state after reset. -/

namespace Sys2Proof.Machine

open Claims

theorem rd_reset (a : Nat) : rd State.reset a = (resetWord a).toNat := rfl

/-- A field of a register of any tile holds after reset what it does in any other. -/
theorem getF_reset_tile (t u : TileId) {f : Fld} (h : f.off < 0x4000) :
    getF State.reset (tileBase (tileNo t)) f = getF State.reset (tileBase (tileNo u)) f := by
  rw [getF, getF, rd_reset, rd_reset, resetWord_tileBase t u h]

theorem getF_reset_field {n m : Nat} (hn : n < 168) (hm : m < 168) {f : Fld} (h : f.off < 0x10000) :
    getF State.reset (fieldBase n) f = getF State.reset (fieldBase m) f := by
  rw [getF, getF, rd_reset, rd_reset, resetWord_fieldBase hn hm h]

/-- No cluster of any column is bad after reset (Reset values of FLD.SHIFT_COL). -/
theorem shiftCol_bad_reset {f p : Nat} (hf : f < 168) (hp : p < 25) :
    getF State.reset (fieldBase f) (F.FLD_SHIFT_COL_BAD.at (8 * p)) = 0 := by
  have h0 : ∀ p : Fin 25, getF State.reset (fieldBase 0) (F.FLD_SHIFT_COL_BAD.at (8 * p)) = 0 := by decide +kernel
  rw [getF_reset_field hf (m := 0) (by decide) (by simp only [Fld.at, F.FLD_SHIFT_COL_BAD]; omega)]
  exact h0 ⟨p, hp⟩

theorem shiftRow_hole_reset {f : Nat} (hf : f < 168) : getF State.reset (fieldBase f) F.FLD_SHIFT_ROW_HOLE = 0 := by
  rw [getF_reset_field hf (m := 0) (by decide) (by decide)]
  decide +kernel

/-- Every cluster is backed after reset: the row holes stand at 0, so its row is physical row `lcy + 1`, of which no cluster is bad. -/
theorem backed_reset {c : Nat} (hc : clusterField c < 168) : backed State.reset c = true := by
  have hy : lcy c + 1 < 25 := by unfold lcy; omega
  unfold backed
  simp only [shiftRow_hole_reset hc, Nat.zero_le, decide_true, b2n, if_true, shiftCol_bad_reset hc hy, bit, Nat.zero_div]
  rfl

theorem clusterField_tileCluster_lt (t : TileId) : clusterField (tileCluster (tileNo t)) < 168 := by
  obtain ⟨w, x, y⟩ := t
  simp only [tileCluster, clusterField, tileNo]; omega

theorem life_reset (t : TileId) : life State.reset (tileNo t) = .dark := by
  rw [life, backed_reset (clusterField_tileCluster_lt t), if_pos rfl]
  rfl

theorem ctxState_reset (t : TileId) (n : Fin 8) : ctxState State.reset (tileNo t) n = 0 := by
  have h0 : ∀ n : Fin 8, ctxState State.reset (tileNo ⟨0, 0, 0⟩) n = 0 := by decide +kernel
  rw [← h0 n, ctxState, ctxState]
  exact getF_reset_tile t _ (by simp only [Fld.at, F.TSQ_CTX_STATE_STATE]; omega)

theorem getG_reset (t : TileId) (n : Fin 8) (i : Fin 16) : getG State.reset (tileNo t) n i = 0 := by
  have h0 : ∀ n : Fin 8, ∀ i : Fin 16, getG State.reset (tileNo ⟨0, 0, 0⟩) n i = 0 := by decide +kernel
  have ha (k : Nat) : gAddr k n i = tileBase k + (0x400 + 128 * n + 8 * i) := by unfold gAddr; omega
  rw [← h0 n i, getG, getG, rd_reset, rd_reset, ha, ha, resetWord_tileBase t ⟨0, 0, 0⟩ (by omega)]

theorem gPoison_reset (t : TileId) (n : Fin 8) (i : Fin 16) : gPoison State.reset (tileNo t) n i = false := by
  have h0 : ∀ n : Fin 8, ∀ i : Fin 16, gPoison State.reset (tileNo ⟨0, 0, 0⟩) n i = false := by decide +kernel
  rw [← h0 n i, gPoison, gPoison, getF_reset_tile t ⟨0, 0, 0⟩ (by simp only [Fld.at, F.TSQ_GPOI_TAGS]; omega)]

theorem cfgbBase_reset (t : TileId) : getF State.reset (tileBase (tileNo t)) F.TSQ_CFGB_BASE = 480 := by
  rw [getF_reset_tile t ⟨0, 0, 0⟩ (by decide)]
  decide +kernel

theorem beatSkew_reset (f : FieldId) : getF State.reset (fieldBase f) F.FLD_BEAT_SKEW_SKEW = 64 := by
  rw [getF_reset_field f.isLt (m := 0) (by decide) (by decide)]
  decide +kernel

theorem freezeLimit_reset (f : FieldId) : getF State.reset (fieldBase f) F.FLD_FREEZE_CFG_LIMIT = 20000 := by
  rw [getF_reset_field f.isLt (m := 0) (by decide) (by decide)]
  decide +kernel

theorem formOk_reset : FormOk State.reset :=
  ⟨rfl, rfl, rfl, rfl, List.nodup_nil, fun _ => ⟨fun h => absurd h Bool.false_ne_true, fun h => absurd h List.not_mem_nil⟩⟩

/-- Settles O2: registers that repeat, by the reset values of tile 0's and of field 0's; the others by their rows of the maps. -/
theorem resetState : Obligations.ResetState := by
  refine ⟨rfl, formOk_reset, fun t => ?tile, fun a => ⟨rfl, rfl⟩, fun f => ⟨beatSkew_reset f, freezeLimit_reset f⟩, ?global⟩
  case tile =>
    exact ⟨life_reset t, fun n => ⟨ctxState_reset t n, fun i => ⟨getG_reset t n i, gPoison_reset t n i⟩⟩, cfgbBase_reset t⟩
  case global =>
    decide +kernel

end Sys2Proof.Machine
end

section
/-! Reads and writes of registers from outside, and doorbells. -/

namespace Sys2Proof.Machine

open Claims

/-! ### Access codes (R9, R12, Table 00.4) -/

theorem readMask_of_regAt {a : Nat} {r : RegDef} (h : regAt a = some r) : readMask a = r.rw ||| r.ro ||| r.w1c ||| r.rc := by
  simp only [readMask, h]

theorem ofNat_rd_wr_self (s : State) (a : Nat) (v : Word) : BitVec.ofNat 64 (rd (wr s a v.toNat) a) = v := by
  rw [rd_wr_self, Nat.mod_eq_of_lt v.isLt, BitVec.ofNat_toNat, BitVec.setWidth_eq]

/-- A read stores the register without its RC fields. -/
theorem clearRc_rd_self (s : State) {a : Nat} {r : RegDef} (h : regAt a = some r) :
    BitVec.ofNat 64 (rd (clearRc s a) a) = BitVec.ofNat 64 (rd s a) &&& ~~~(BitVec.ofNat 64 r.rc) := by
  simp only [clearRc, h]
  split
  · rename_i h0
    simp only [eq_of_beq h0, BitVec.not_zero, BitVec.and_allOnes]
  · exact ofNat_rd_wr_self s a _

theorem regsKept_clearRc (s : State) (a : Nat) : RegsKept s (clearRc s a) [a] := by
  unfold clearRc
  split
  · exact RegsKept.refl s _
  · split
    · exact RegsKept.refl s _
    · exact regsKept_wr s a _

theorem onlyRegs_clearRc (s : State) (a : Nat) : OnlyRegs s (clearRc s a) := by
  unfold clearRc
  split
  · rfl
  · split <;> rfl

/-- A write stores RW fields and clears the W1C fields where it has a 1. -/
theorem plainWrite_eq_wr (s : State) {a : Nat} (v : Word) {r : RegDef} (h : regAt a = some r) :
    plainWrite s a v = wr s a ((((BitVec.ofNat 64 (rd s a) &&& ~~~(BitVec.ofNat 64 r.rw)) ||| (v &&& BitVec.ofNat 64 r.rw)) &&&
      ~~~(v &&& BitVec.ofNat 64 r.w1c)).toNat) := by
  simp only [plainWrite, h, rd, BitVec.ofNat_toNat, BitVec.setWidth_eq]

/-! ### Field registers (Table 01.5) -/

theorem noAddress_of_addrCode_eq_zero {s : State} {a : Nat} (h : addrCode s a = 0) : noAddress a = false := by
  cases hn : noAddress a with
  | false => rfl
  | true =>
    simp only [addrCode, hn, if_true] at h
    cases h

/-- An address of the fields' space that R31 takes is its offset in its field's registers. -/
theorem fieldBase_addrField {a : Nat} (hs : addrSpace a = 2) (hn : noAddress a = false) :
    fieldBase (addrField a) + a % 0x10000 = a := by
  simp only [noAddress, hs, Bool.or_eq_false_iff, decide_eq_false_iff_not, bne_eq_false_iff_eq] at hn
  simp only [addrSpace] at hs
  simp only [bits] at hn
  simp only [fieldBase, addrField, addrW, bits]
  omega

/-- A field register that shows nothing live reads as stored, and its RC fields are cleared. -/
theorem regRead_field (s : State) (link : Nat) {a : Nat} {r : RegDef} (hs : addrSpace a = 2) (hn : noAddress a = false)
    (hr : regAt a = some r) (hl : a % 0x10000 ∉ liveFieldOffsets) :
    regRead s link a = (clearRc s a, BitVec.ofNat 64 (rd s a &&& (r.rw ||| r.ro ||| r.w1c ||| r.rc))) := by
  simp only [liveFieldOffsets, List.mem_cons, List.not_mem_nil, or_false, not_or] at hl
  obtain ⟨h608, h610, h8000, h8008, h8018, h8028, h8030⟩ := hl
  have hv : fieldView s (addrField a) (a % 0x10000) = rd s a := by
    simp only [fieldView, beq_iff_eq, h8000, h8008, h8028, if_false, fieldBase_addrField hs hn]
  have ht : fieldTimed (a % 0x10000) = 0 := by simp only [fieldTimed, beq_iff_eq, h608, h610, h8030, if_false]
  simp only [regRead, hs, beq_iff_eq, h8018, if_false, readTimed, ht, hv, readMask_of_regAt hr, bne_self_eq_false, Bool.and_false,
    Bool.false_eq_true]

/-! ### Accesses from outside (R31) -/

/-- The steward is held in reset, or R31 refuses the address. -/
def refusedOutside (s : State) (a : Nat) : Prop := s.steward.on = false ∨ addrCode s a ≠ 0

theorem refusedOutside_iff (s : State) (a : Nat) : (!s.steward.on || addrCode s a != 0) = true ↔ refusedOutside s a := by
  simp [refusedOutside]

theorem outsideRead_refused {s : State} {a : Nat} (h : refusedOutside s a) : outsideRead s a = { s with rdata := 0 } :=
  if_pos ((refusedOutside_iff s a).2 h)

theorem outsideRead_taken {s : State} {a : Nat} (hon : s.steward.on = true) (hc : addrCode s a = 0) :
    outsideRead s a = { (regRead s 0 a).1 with rdata := (regRead s 0 a).2 } :=
  if_neg fun h => ((refusedOutside_iff s a).1 h).elim (by simp [hon]) (· hc)

theorem execRegisterWrite_refused {s : State} {a : BitVec 40} (link : Fin 2) (v : Word) (h : refusedOutside s a.toNat) :
    execRegisterWrite link a v s = .next s :=
  if_pos ((refusedOutside_iff s a.toNat).2 h)

theorem execRegisterWrite_taken {s : State} {a : BitVec 40} (link : Fin 2) (v : Word) (hon : s.steward.on = true)
    (hc : addrCode s a.toNat = 0) : execRegisterWrite link a v s = .next (regWrite s link a.toNat v) :=
  if_neg fun h => ((refusedOutside_iff s a.toNat).1 h).elim (by simp [hon]) (· hc)

/-- RC_REGISTER_READ and SPLIT_VALUE_READ are one read from outside. -/
theorem exec_read_eq_outsideRead (s : State) {a : BitVec 40} {c : Instr} (h : c = .rcRegisterRead a ∨ c = .splitValueRead a) :
    exec c s = .next (outsideRead s a.toNat) := by
  obtain rfl | rfl := h <;> rfl

/-- A field register read from outside: what is shown, what the read clears, and that nothing else changes. -/
theorem outsideRead_field {s : State} {a : Nat} {r : RegDef} (hon : s.steward.on = true) (hs : addrSpace a = 2) (hc : addrCode s a = 0)
    (hr : regAt a = some r) (hl : a % 0x10000 ∉ liveFieldOffsets) :
    outsideRead s a =
      { clearRc s a with rdata := BitVec.ofNat 64 (rd s a) &&&
          (BitVec.ofNat 64 r.rw ||| BitVec.ofNat 64 r.ro ||| BitVec.ofNat 64 r.w1c ||| BitVec.ofNat 64 r.rc) } := by
  rw [outsideRead_taken hon hc, regRead_field s 0 hs (noAddress_of_addrCode_eq_zero hc) hr hl]
  simp only [BitVec.ofNat_and, BitVec.ofNat_or]

/-! ### Doorbells (R341) -/

/-- A write of MBX.DOORBELL acts on the slots of its bits, in rising order. -/
theorem doorbell_eq_foldl_filter (s : State) (link v : Nat) :
    doorbell s link v = ((List.range 32).filter (bit v)).foldl (fun s slot =>
      if slotBusy s slot || slot / 16 != link then incF s 0 F.MBX_STAT_IGNORED 1 else ring s slot) s := by
  rw [List.foldl_filter, doorbell]
  congr 1
  funext s slot
  cases bit v slot <;> rfl

theorem filter_range_bit_two_pow {slot : Nat} (h : slot < 32) : (List.range 32).filter (bit (2 ^ slot)) = [slot] := by
  have h0 : ∀ i : Fin 32, (List.range 32).filter (bit (2 ^ i.val)) = [i.val] := by decide +kernel
  exact h0 ⟨slot, h⟩

/-- A doorbell of one free slot of the link is that slot's. -/
theorem doorbell_two_pow (s : State) {link slot : Nat} (h32 : slot < 32) (hl : slot / 16 = link) (hb : slotBusy s slot = false) :
    doorbell s link (2 ^ slot) = ring s slot := by
  rw [doorbell_eq_foldl_filter, filter_range_bit_two_pow h32, List.foldl_cons, List.foldl_nil, if_neg]
  simp [hb, hl]

@[simp] theorem modSteward_scratch (s : State) (g : Steward → Steward) : (modSteward s g).scratch = s.scratch := rfl
@[simp] theorem modSteward_firn (s : State) (g : Steward → Steward) : (modSteward s g).firn = s.firn := rfl
@[simp] theorem rd_modSteward (s : State) (g : Steward → Steward) (a : Nat) : rd (modSteward s g) a = rd s a := rd_congr rfl a
@[simp] theorem getF_modSteward (s : State) (g : Steward → Steward) (b : Nat) (f : Fld) : getF (modSteward s g) b f = getF s b f :=
  getF_congr rfl b f

theorem slotBusy_ring_self (s : State) (slot : Nat) : slotBusy (ring s slot) slot = true := by
  have h : (ring s slot).steward.busy = put false s.steward.busy slot true := by
    unfold ring
    split <;> rfl
  rw [slotBusy, h]
  exact Sparse.get_set_self _ _ _ _

theorem queue_ring (s : State) (slot : Nat) : (ring s slot).steward.queue = s.steward.queue ++ [slot] := by
  unfold ring
  split <;> rfl

theorem memoryKept_ring (s : State) (slot : Nat) : MemoryKept s (ring s slot) := by
  have hs : (ring s slot).scratch = s.scratch := by
    unfold ring
    dsimp only
    split <;> simp only [pulse_scratch, modSteward_scratch, putF_scratch]
  have hf : (ring s slot).firn = s.firn := by
    unfold ring
    dsimp only
    split <;> simp only [pulse_firn, modSteward_firn, putF_firn]
  exact ⟨fun a => by rw [hs], fun a => by rw [hf]⟩

/-- A doorbell clears the DONE bit of its slot and changes no other register. -/
theorem rd_ring (s : State) {slot : Nat} (h : slot < 32) (a : Nat) :
    rd (ring s slot) a =
      rd (putF s 0 F.MBX_DONE_DONE (getF s 0 F.MBX_DONE_DONE - getF s 0 F.MBX_DONE_DONE / 2 ^ slot % 2 * 2 ^ slot)) a := by
  unfold ring
  dsimp only
  rw [if_pos h, rd_pulse, rd_modSteward, getF_modSteward]
  exact rd_putF_congr rfl _ _ _ _

theorem regsKept_ring (s : State) {slot : Nat} (h : slot < 32) : RegsKept s (ring s slot) [F.MBX_DONE_DONE.off] := by
  intro a ha
  rw [rd_ring s h, rd_putF_ne]
  simpa using ha

/-- A number less its bit `i` has no bit `i`. -/
theorem bit_sub_bit (v i : Nat) : bit (v - v / 2 ^ i % 2 * 2 ^ i) i = false := by
  have h : (v - 2 ^ i * (v / 2 ^ i % 2)) / 2 ^ i = v / 2 ^ i - v / 2 ^ i % 2 := Nat.sub_mul_div v (2 ^ i) _
  rw [bit, Nat.mul_comm, h, beq_eq_false_iff_ne]
  omega

theorem done_ring (s : State) {slot : Nat} (h : slot < 32) : bit (getF (ring s slot) 0 F.MBX_DONE_DONE) slot = false := by
  rw [getF, rd_ring s h, ← getF, getF_putF_self _ _ _ _ (by decide), Nat.mod_eq_of_lt, bit_sub_bit]
  exact Nat.lt_of_le_of_lt (Nat.sub_le _ _) (getF_lt s 0 F.MBX_DONE_DONE)

/-- A write of one bit of MBX.DOORBELL by a link rings that slot. -/
theorem exec_doorbell {s : State} {link : Fin 2} {slot : Nat} (hon : s.steward.on = true) (h32 : slot < 32)
    (hl : slot / 16 = link.val) (hb : slotBusy s slot = false) :
    exec (.registerWrite link 0x1000 (BitVec.ofNat 64 (2 ^ slot))) s = .next (ring s slot) := by
  have hv : (BitVec.ofNat 64 (2 ^ slot)).toNat = 2 ^ slot := by
    rw [BitVec.toNat_ofNat, Nat.mod_eq_of_lt (Nat.pow_lt_pow_right (by decide) (by omega))]
  have hw (v : Word) : regWrite s link 0x1000 v = doorbell s link v.toNat := rfl
  have hc : addrCode s (0x1000 : BitVec 40).toNat = 0 := rfl
  refine (execRegisterWrite_taken link _ hon hc).trans (congrArg _ ((hw _).trans ?_))
  rw [hv, doorbell_two_pow s h32 hl hb]

/-- Settles O48: a read is `outsideRead_field`, a write `plainWrite_eq_wr`, a doorbell `ring`. -/
theorem registersFollowTheirAccessCodes : Obligations.RegistersFollowTheirAccessCodes := by
  intro s a
  refine ⟨?read, ?readRefused, ?write, fun link v h => execRegisterWrite_refused link v h, ?doorbell⟩
  case read =>
    intro c r hcmd hon hs hc hr hl
    have hu := onlyRegs_clearRc s a.toNat
    refine ⟨_, (exec_read_eq_outsideRead s hcmd).trans (congrArg _ (outsideRead_field hon hs hc hr hl)), rfl, ?cleared,
      regsKept_with_rdata (regsKept_clearRc s _) _, hu.with_csr_rdata s.rdata, memoryKept_with_rdata hu.memoryKept _⟩
    rw [rd_with_rdata, clearRc_rd_self s hr]
  case readRefused =>
    intro c hcmd h
    rw [exec_read_eq_outsideRead s hcmd, outsideRead_refused h]
  case write =>
    intro link v r hon hs hc hr
    have hw : regWrite s link a.toNat v = plainWrite s a.toNat v := by simp only [regWrite, hs]
    refine ⟨_, (execRegisterWrite_taken link v hon hc).trans (congrArg _ (hw.trans (plainWrite_eq_wr s v hr))), ofNat_rd_wr_self s _ _,
      regsKept_wr s _ _, onlyRegs_wr s _ _, (onlyRegs_wr s _ _).memoryKept⟩
  case doorbell =>
    intro link slot hon h32 hl hb
    exact ⟨_, exec_doorbell hon h32 hl hb, slotBusy_ring_self s slot, queue_ring s slot, done_ring s h32, regsKept_ring s h32,
      memoryKept_ring s slot⟩

end Sys2Proof.Machine
end

section
/-! The hinge lanes (R184 to R186). -/

namespace Sys2Proof.Machine

open Claims

/-! ### Registers of lanes -/

/-- The address of HNG.LANE(l) of wing `w`. -/
def laneAddr (w l : Nat) : Nat := wingBase w + (0x801000 + 8 * l)

theorem laneAddr_ne (w : Nat) {j l : Nat} (h : j ≠ l) : laneAddr w j ≠ laneAddr w l := by
  unfold laneAddr; omega

/-- The lanes of the two wings have registers of their own. -/
theorem laneAddr_ne_otherWing {w j l : Nat} (hw : w < 2) (hj : j < 1386) (hl : l < 1386) : laneAddr w j ≠ laneAddr (1 - w) l := by
  unfold laneAddr wingBase; omega

theorem spareOf_bounds {l : Nat} (h : l < 1344) : 1344 ≤ spareOf l ∧ spareOf l < 1386 := by
  unfold spareOf; omega

theorem spareOf_ne {l : Nat} (h : l < 1344) : spareOf l ≠ l := by
  unfold spareOf; omega

/-- A lane whose register an update leaves alone keeps its state. -/
theorem RegsKept.laneState {s u : State} {r : List Nat} (h : RegsKept s u r) {w j : Nat} (ha : laneAddr w j ∉ r) :
    laneState u w j = laneState s w j := h.getF ha

/-! ### A lane takes a state -/

theorem regsKept_setLane (s : State) (w l st : Nat) : RegsKept s (setLane s w l st) [laneAddr w l, laneAddr (1 - w) l] :=
  (regsKept_putF s _ _ _).append (regsKept_putF _ _ _ _)

theorem onlyRegs_setLane (s : State) (w l st : Nat) : OnlyRegs s (setLane s w l st) :=
  (onlyRegs_putF s _ _ _).trans (onlyRegs_putF _ _ _ _)

/-- The fields of a lane's register beside TX_STATE, seen from the wing that sends. -/
theorem getF_setLane_of_above (s : State) {w l : Nat} (st : Nat) (hw : w < 2) (hl : l < 1386) {f : Fld} (hf : f.off = 0x801000) (hlo : 3 ≤ f.lo) :
    getF (setLane s w l st) (wingBase w) (laneF f l) = getF s (wingBase w) (laneF f l) := by
  have ha : wingBase w + (laneF f l).off ≠ wingBase (1 - w) + (laneF F.HNG_LANE_RX_STATE l).off := by
    simp only [laneF, Fld.at, hf]
    exact laneAddr_ne_otherWing hw hl hl
  rw [setLane, getF_putF_ne _ _ _ _ _ _ ha]
  exact getF_putF_disjoint _ _ _ _ _ (by simp only [laneF, Fld.at, hf, F.HNG_LANE_TX_STATE]) (by simp [laneF, Fld.at, F.HNG_LANE_TX_STATE])
    (.inr hlo)

theorem laneState_setLane_self (s : State) {w l : Nat} (st : Nat) (hw : w < 2) (hl : l < 1386) :
    laneState (setLane s w l st) w l = st % 8 := by
  have ha : wingBase w + (laneF F.HNG_LANE_TX_STATE l).off ≠ wingBase (1 - w) + (laneF F.HNG_LANE_RX_STATE l).off :=
    laneAddr_ne_otherWing hw hl hl
  rw [laneState, setLane, getF_putF_ne _ _ _ _ _ _ ha]
  exact getF_putF_self _ _ _ _ (by simp [laneF, Fld.at, F.HNG_LANE_TX_STATE])

/-- The lane of the other wing that receives takes the state too. -/
theorem rxState_setLane (s : State) (w l st : Nat) :
    getF (setLane s w l st) (wingBase (1 - w)) (laneF F.HNG_LANE_RX_STATE l) = st % 8 :=
  getF_putF_self _ _ _ _ (by simp [laneF, Fld.at, F.HNG_LANE_RX_STATE])

theorem laneState_setLane_ne (s : State) {w l j : Nat} (st : Nat) (hw : w < 2) (hl : l < 1386) (hj : j < 1386) (h : j ≠ l) :
    laneState (setLane s w l st) w j = laneState s w j :=
  (regsKept_setLane s w l st).laneState (by simp [laneAddr_ne w h, laneAddr_ne_otherWing hw hj hl])

/-! ### A spare carries a lane (R184) -/

theorem regsKept_substitute (s : State) (w l : Nat) :
    RegsKept s (substitute s w l) [laneAddr w (spareOf l), laneAddr (1 - w) (spareOf l), laneAddr w l] := by
  have partner (s : State) (j v : Nat) : RegsKept s (putF s (wingBase w) (laneF F.HNG_LANE_PARTNER j) v) [laneAddr w j] :=
    regsKept_putF s _ _ v
  unfold substitute
  dsimp only
  exact (((regsKept_setLane s w (spareOf l) 5).append (partner _ _ _)).append (partner _ _ _)).mono (by simp)

theorem onlyRegs_substitute (s : State) (w l : Nat) : OnlyRegs s (substitute s w l) :=
  ((onlyRegs_setLane s w (spareOf l) 5).trans (onlyRegs_putF _ _ _ _)).trans (onlyRegs_putF _ _ _ _)

/-- PARTNER is apart from the lane's state. -/
theorem laneState_putPartner (s : State) (w l v j : Nat) :
    laneState (putF s (wingBase w) (laneF F.HNG_LANE_PARTNER l) v) w j = laneState s w j := by
  by_cases h : j = l
  · subst h
    exact getF_putF_disjoint _ _ _ _ _ rfl (by simp [laneF, Fld.at, F.HNG_LANE_PARTNER])
      (.inl (by simp [laneF, Fld.at, F.HNG_LANE_PARTNER, F.HNG_LANE_TX_STATE]))
  · exact getF_putF_ne _ _ _ _ _ _ (laneAddr_ne w h)

theorem laneState_substitute (s : State) (w l j : Nat) :
    laneState (substitute s w l) w j = laneState (setLane s w (spareOf l) 5) w j := by
  unfold substitute
  dsimp only
  rw [laneState_putPartner, laneState_putPartner]

theorem laneState_substitute_spare (s : State) {w l : Nat} (hw : w < 2) (hl : l < 1344) :
    laneState (substitute s w l) w (spareOf l) = 5 := by
  rw [laneState_substitute, laneState_setLane_self s 5 hw (spareOf_bounds hl).2]

theorem laneState_substitute_ne (s : State) {w l j : Nat} (hw : w < 2) (hl : l < 1344) (hj : j < 1386) (h : j ≠ spareOf l) :
    laneState (substitute s w l) w j = laneState s w j := by
  rw [laneState_substitute, laneState_setLane_ne s 5 hw (spareOf_bounds hl).2 hj h]

theorem lanePartner_substitute_spare (s : State) {w l : Nat} (hl : l < 1344) : lanePartner (substitute s w l) w (spareOf l) = l := by
  have ha : wingBase w + (laneF F.HNG_LANE_PARTNER (spareOf l)).off ≠ wingBase w + (laneF F.HNG_LANE_PARTNER l).off :=
    laneAddr_ne w (spareOf_ne hl)
  unfold lanePartner substitute
  dsimp only
  rw [getF_putF_ne _ _ _ _ _ _ ha, getF_putF_self _ _ _ _ (by simp [laneF, Fld.at, F.HNG_LANE_PARTNER])]
  exact Nat.mod_eq_of_lt (by simp only [laneF, Fld.at, F.HNG_LANE_PARTNER]; omega)

/-- A lane that its spare carries is not lost. -/
theorem laneLost_substitute (s : State) {w l : Nat} (hw : w < 2) (hl : l < 1344) : laneLost (substitute s w l) w l = false := by
  simp [laneLost, laneState_substitute_spare s hw hl, lanePartner_substitute_spare s hl]

/-! ### Training (R185) -/

/-- A map lists at most what was put at a key there. -/
theorem eq_of_mem_put {α : Type} [DecidableEq α] {d : α} {m : List (Nat × α)} {k : Nat} {v : α} {e : Nat × α}
    (h : e ∈ put d m k v) (hk : e.1 = k) : e = (k, v) := by
  have hd : e ∉ Sparse.drop (fun j => decide (j = k)) m := fun hd => by
    simpa [hk] using (List.mem_filter.1 hd).2
  simp only [put, Sparse.set] at h
  split at h
  · exact absurd h hd
  · exact (Sparse.mem_insert.1 h).resolve_right hd

/-- A lane trained in this tc is of calibration age 0. -/
theorem calAge_of_trained {s : State} {w l : Nat} {m : List (Nat × Nat)} (h : s.hinge.trained = put 0 m (2048 * w + l) s.tc) :
    calAge s w l = 0 := by
  unfold calAge
  split
  · rename_i e he
    have hk : e.1 = 2048 * w + l := by simpa using List.find?_some he
    have ht : e = (2048 * w + l, s.tc) := eq_of_mem_put (h ▸ List.mem_of_find?_eq_some he) hk
    rw [ht, Nat.sub_self, Nat.zero_div, Nat.min_zero]
  · rfl

theorem regsKept_modHinge (s : State) (g : Hinge → Hinge) : RegsKept s (modHinge s g) [] := RegsKept.of_csr rfl _

theorem memoryKept_modHinge (s : State) (g : Hinge → Hinge) : MemoryKept s (modHinge s g) := ⟨fun _ => rfl, fun _ => rfl⟩

/-- Noting something of the hinge at a later tc changes the hinge and the clock alone. -/
theorem modHinge_waitTc_rest (s : State) (n : Nat) (g : Hinge → Hinge) :
    { modHinge (waitTc s n) g with csr := s.csr, hinge := s.hinge, tc := s.tc } = s := rfl

/-- A row lane's training is counted and noted before the lane is ACTIVE. -/
def trainingNoted (s : State) (w l : Nat) : State :=
  modHinge (incF s (wingBase w) (laneF F.HNG_LANE_TRAINS l) 1) fun h =>
    { h with tries := put 0 h.tries (2048 * w + l) 0, trained := put 0 h.trained (2048 * w + l) s.tc }

theorem exec_hingeLaneTrained {s : State} {w : Fin 2} {l : Fin 1386} (hl : l.val < 1344) (h : laneState s w l = 1) :
    exec (.hingeLaneTrained w l true) s = .next (setLane (trainingNoted s w l) w l 2) := by
  have hsp : ¬1344 ≤ l.val := by omega
  show execHingeLaneTrained w l true s = _
  simp [execHingeLaneTrained, h, hsp, trainingNoted]

theorem regsKept_trainingNoted (s : State) (w l : Nat) : RegsKept s (trainingNoted s w l) [laneAddr w l] :=
  (regsKept_incF s (wingBase w) (laneF F.HNG_LANE_TRAINS l) 1).append (regsKept_modHinge _ _)

theorem memoryKept_trainingNoted (s : State) (w l : Nat) : MemoryKept s (trainingNoted s w l) :=
  (onlyRegs_incF s _ _ _).memoryKept.trans (memoryKept_modHinge _ _)

theorem trains_trainingNoted (s : State) (w l : Nat) :
    getF (trainingNoted s w l) (wingBase w) (laneF F.HNG_LANE_TRAINS l) =
      min (2 ^ F.HNG_LANE_TRAINS.w - 1) (getF s (wingBase w) (laneF F.HNG_LANE_TRAINS l) + 1) :=
  ((regsKept_modHinge _ _).getF List.not_mem_nil).trans
    (getF_incF_self s _ _ 1 (by simp [laneF, Fld.at, F.HNG_LANE_TRAINS]))

theorem calAge_setLane_trainingNoted (s : State) (w l st : Nat) : calAge (setLane (trainingNoted s w l) w l st) w l = 0 :=
  calAge_of_trained (m := s.hinge.trained) (by
    rw [(onlyRegs_setLane _ w l st).hinge, (onlyRegs_setLane _ w l st).tc]
    simp only [trainingNoted, modHinge, incF_tc, incF_hinge])

/-- A lane that training ends well is ACTIVE on both sides, of age 0, and counts the training (R185). -/
theorem hingeLaneTrained_row (s : State) (w : Fin 2) (l : Fin 1386) (hl : l.val < 1344) (h : laneState s w l = 1) :
    ∃ u, exec (.hingeLaneTrained w l true) s = .next u ∧ laneState u w l = 2 ∧
      getF u (wingBase (1 - w)) (laneF F.HNG_LANE_RX_STATE l) = 2 ∧ calAge u w l = 0 ∧
      getF u (wingBase w) (laneF F.HNG_LANE_TRAINS l) =
        min (2 ^ F.HNG_LANE_TRAINS.w - 1) (getF s (wingBase w) (laneF F.HNG_LANE_TRAINS l) + 1) ∧
      (∀ j, j < 1386 → j ≠ l.val → laneState u w j = laneState s w j) ∧ MemoryKept s u := by
  refine ⟨_, exec_hingeLaneTrained hl h, laneState_setLane_self _ 2 w.isLt l.isLt, rxState_setLane _ w l 2,
    calAge_setLane_trainingNoted s w l 2, ?trains, fun j hj hne => ?others,
    (memoryKept_trainingNoted s w l).trans (onlyRegs_setLane _ w l 2).memoryKept⟩
  case trains =>
    rw [getF_setLane_of_above _ 2 w.isLt l.isLt (f := F.HNG_LANE_TRAINS) rfl (by decide), trains_trainingNoted]
  case others =>
    rw [laneState_setLane_ne _ 2 w.isLt l.isLt hj hne, (regsKept_trainingNoted s w l).laneState]
    simpa using laneAddr_ne w hne

/-! ### Calibration visits (R185) -/

/-- The visit of group `g`'s spare to its lane `l` is noted, in the tc that it is due. -/
def visitNoted (s : State) (w g l : Nat) : State :=
  modHinge (waitTc s (visitTime s w g)) fun h =>
    { h with turn := put 0 h.turn (64 * w + g) ((l + 1) % 32),
             visits := put 0 h.visits (64 * w + g) (waitTc s (visitTime s w g)).tc }

/-- The spare carries lane `l`, which enters CAL. -/
def visited (s : State) (w g l : Nat) : State := substitute (setLane (visitNoted s w g l) w l 3) w l

theorem exec_hingeCalVisit {s : State} {w : Fin 2} {g : Fin 42} {l : Fin 1386} (ht : laneTurn s w g = some l.val)
    (hen : getF s (wingBase w) F.HNG_CAL_CFG_EN = 1) (hsp : laneState s w (spareOf l) = 4) (hb : getF s 0 F.PWR_DVFS_BUSY = 0) :
    exec (.hingeCalVisit w g l) s = .next (visited s w g l) := by
  show execHingeCalVisit w g l s = _
  simp [execHingeCalVisit, isF, ht, hen, hsp, hb, visited, visitNoted]

theorem regsKept_visitNoted (s : State) (w g l : Nat) : RegsKept s (visitNoted s w g l) [] :=
  (regsKept_waitTc s _).trans (regsKept_modHinge _ _)

theorem visitNoted_rest (s : State) (w g l : Nat) :
    { visitNoted s w g l with csr := s.csr, hinge := s.hinge, tc := s.tc } = s := by
  unfold visitNoted
  exact modHinge_waitTc_rest s _ _

theorem onlyRegs_visited (s : State) (w g l : Nat) : OnlyRegs (visitNoted s w g l) (visited s w g l) :=
  (onlyRegs_setLane _ w l 3).trans (onlyRegs_substitute _ w l)

/-- A group's idle spare visits the lane whose turn it is, and carries it (R185). -/
theorem hingeCalVisit_row (s : State) (w : Fin 2) (l : Fin 1386) (hl : l.val < 1344) (g : Fin 42)
    (ht : laneTurn s w g = some l.val) (hen : getF s (wingBase w) F.HNG_CAL_CFG_EN = 1) (hsp : laneState s w (spareOf l) = 4)
    (hb : getF s 0 F.PWR_DVFS_BUSY = 0) :
    ∃ u, exec (.hingeCalVisit w g l) s = .next u ∧ u.tc = max s.tc (visitTime s w g) ∧
      look 0 u.hinge.visits (64 * w + g) = u.tc ∧ look 0 u.hinge.turn (64 * w + g) = (l + 1) % 32 ∧ laneState u w l = 3 ∧
      laneState u w (spareOf l) = 5 ∧ lanePartner u w (spareOf l) = l ∧
      (∀ j, j < 1386 → j ≠ l.val → j ≠ spareOf l → laneState u w j = laneState s w j) ∧
      { u with csr := s.csr, hinge := s.hinge, tc := s.tc } = s ∧ MemoryKept s u := by
  have hu := onlyRegs_visited s w g l
  have htc : (visited s w g l).tc = max s.tc (visitTime s w g) := hu.tc
  refine ⟨_, exec_hingeCalVisit ht hen hsp hb, htc, ?visits, ?turn, ?cal, laneState_substitute_spare _ w.isLt hl,
    lanePartner_substitute_spare _ hl, fun j hj hne hns => ?others, ?rest, ?memory⟩
  case visits =>
    rw [hu.hinge, htc]
    exact Sparse.get_set_self _ _ _ _
  case turn =>
    rw [hu.hinge]
    exact Sparse.get_set_self _ _ _ _
  case cal =>
    rw [visited, laneState_substitute_ne _ w.isLt hl l.isLt (spareOf_ne hl).symm, laneState_setLane_self _ 3 w.isLt l.isLt]
  case others =>
    rw [visited, laneState_substitute_ne _ w.isLt hl hj hns, laneState_setLane_ne _ 3 w.isLt l.isLt hj hne]
    exact (regsKept_visitNoted s w g l).laneState List.not_mem_nil
  case rest =>
    exact (hu.with_csr_hinge_tc _ _ _).trans (visitNoted_rest s w g l)
  case memory =>
    exact ((memoryKept_waitTc s _).trans (memoryKept_modHinge _ _)).trans hu.memoryKept

/-! ### Failures (R186) -/

/-- The lane is FAILED and 0xE3 is raised. -/
def failRaised (s : State) (w l : Nat) : State :=
  setF (hingeCondition (setLane s w l 6) w 0xE3) (wingBase w) F.HNG_ERR_LANE_FAIL

theorem onlyRegs_failRaised (s : State) (w l : Nat) : OnlyRegs s (failRaised s w l) :=
  ((onlyRegs_setLane s w l 6).trans (onlyRegs_condition _ _ _)).trans (onlyRegs_setF _ _ _)

theorem hingeLost_of_kept {s : State} {w y : Nat} (was : Bool) (h : rowDetoured s w y = false) : hingeLost s w y was = s := by
  simp [hingeLost, h]

/-- A row one of whose lanes is not lost is not detoured. -/
theorem rowDetoured_of_lane {s : State} {w l : Nat} (h : laneLost s w l = false) : rowDetoured s w (l / 2) = false := by
  have hl : l = 2 * (l / 2) ∨ l = 2 * (l / 2) + 1 := by omega
  rcases hl with hl | hl <;> rw [hl] at h <;> simp [rowDetoured, h]

/-- A row lane that fails while its group's spare is idle is carried by it, and so its row is not detoured. -/
theorem laneFail_eq_substitute {s : State} {w l : Nat} (hw : w < 2) (hl : l < 1344) (hsp : laneState s w (spareOf l) = 4) :
    laneFail s w l = substitute (failRaised s w l) w l := by
  have hrow : ¬1344 ≤ l := by omega
  have hd := rowDetoured_of_lane (laneLost_substitute (failRaised s w l) hw hl)
  rw [← hingeLost_of_kept (rowDetoured s w (l / 2)) hd, laneFail]
  simp only [hrow, hsp, if_false, beq_self_eq_true, if_true, failRaised]

theorem exec_hingeLaneFail {s : State} {w : Fin 2} {l : Fin 1386} (hl : l.val < 1344) (h : laneState s w l = 2)
    (hsp : laneState s w (spareOf l) = 4) : exec (.hingeLaneFail w l) s = .next (substitute (failRaised s w l) w l) := by
  rw [← laneFail_eq_substitute w.isLt hl hsp]
  show execHingeLaneFail w l s = _
  simp [execHingeLaneFail, h]

/-- Raising the failure changes no lane's register. -/
theorem regsKept_failRaised (s : State) (w l : Nat) :
    RegsKept s (failRaised s w l) [laneAddr w l, laneAddr (1 - w) l, 0x14000 + 8 * (256 + w), 0x4000, wingBase w + 0x800010] := by
  exact ((regsKept_setLane s w l 6).append (regsKept_condition _ _ _)).append (regsKept_setF _ _ _)

/-- No register of the wings is one of the globals'. -/
theorem wingBase_ge (w : Nat) : 0x1000000000 ≤ wingBase w := by unfold wingBase; omega

/-- The registers that raising a failure changes hold no other lane's state. -/
theorem laneState_failRaised_ne (s : State) {w l j : Nat} (hw : w < 2) (hl : l < 1386) (hj : j < 1386) (h : j ≠ l) :
    laneState (failRaised s w l) w j = laneState s w j := by
  have hb := wingBase_ge w
  have hglobal (n : Nat) (hn : n < 0x1000000000) : laneAddr w j ≠ n := by unfold laneAddr; omega
  have herr : laneAddr w j ≠ wingBase w + 0x800010 := by unfold laneAddr; omega
  refine (regsKept_failRaised s w l).laneState ?_
  simp only [List.mem_cons, List.not_mem_nil, or_false, not_or]
  exact ⟨laneAddr_ne w h, laneAddr_ne_otherWing hw hj hl, hglobal _ (by omega), hglobal _ (by omega), herr⟩

theorem laneState_failRaised_self (s : State) {w l : Nat} (hw : w < 2) (hl : l < 1386) : laneState (failRaised s w l) w l = 6 := by
  have hb := wingBase_ge w
  have hcond : RegsKept (setLane s w l 6) (failRaised s w l) [0x14000 + 8 * (256 + w), 0x4000, wingBase w + 0x800010] :=
    ((regsKept_condition _ _ _).append (regsKept_setF _ _ _)).mono (by simp [F.HNG_ERR_LANE_FAIL])
  rw [hcond.laneState, laneState_setLane_self s 6 hw hl]
  simp only [List.mem_cons, List.not_mem_nil, or_false, not_or, laneAddr]
  omega

theorem laneFailBit_failRaised (s : State) (w l : Nat) : getF (failRaised s w l) (wingBase w) F.HNG_ERR_LANE_FAIL = 1 :=
  getF_setF_self _ _ _ (by decide) (by decide)

theorem lastCode_failRaised (s : State) (w l : Nat) :
    getF (failRaised s w l) 0 (F.EVC_SRC_STAT_LAST_CODE.at (8 * (256 + w))) = 0xE3 := by
  have ha : 0 + (F.EVC_SRC_STAT_LAST_CODE.at (8 * (256 + w))).off ≠ wingBase w + F.HNG_ERR_LANE_FAIL.off := by
    simp only [Fld.at, F.EVC_SRC_STAT_LAST_CODE, F.HNG_ERR_LANE_FAIL, wingBase]
    omega
  rw [failRaised, setF, getF_putF_ne _ _ _ _ _ _ ha]
  exact lastCode_condition _ (by decide)

/-- An active row lane that fails is FAILED, and its group's idle spare carries it (R184 to R186). -/
theorem hingeLaneFail_row (s : State) (w : Fin 2) (l : Fin 1386) (hl : l.val < 1344) (h : laneState s w l = 2)
    (hsp : laneState s w (spareOf l) = 4) :
    ∃ u, exec (.hingeLaneFail w l) s = .next u ∧ laneState u w l = 6 ∧
      laneState u w (spareOf l) = 5 ∧ lanePartner u w (spareOf l) = l ∧ getF u (wingBase w) F.HNG_ERR_LANE_FAIL = 1 ∧
      getF u 0 (F.EVC_SRC_STAT_LAST_CODE.at (8 * (256 + w.val))) = 0xE3 ∧
      (∀ j, j < 1386 → j ≠ l.val → j ≠ spareOf l → laneState u w j = laneState s w j) ∧ MemoryKept s u := by
  have hu := regsKept_substitute (failRaised s w l) w l
  have hs := (spareOf_bounds hl).2
  refine ⟨_, exec_hingeLaneFail hl h hsp, ?failed, laneState_substitute_spare _ w.isLt hl, lanePartner_substitute_spare _ hl, ?bit, ?code,
    fun j hj hne hns => ?others, ((onlyRegs_failRaised s w l).trans (onlyRegs_substitute _ w l)).memoryKept⟩
  case failed =>
    rw [laneState_substitute_ne _ w.isLt hl l.isLt (spareOf_ne hl).symm, laneState_failRaised_self s w.isLt l.isLt]
  case bit =>
    rw [hu.getF, laneFailBit_failRaised]
    simp only [List.mem_cons, List.not_mem_nil, or_false, laneAddr, wingBase, F.HNG_ERR_LANE_FAIL]
    omega
  case code =>
    rw [hu.getF, lastCode_failRaised]
    simp only [List.mem_cons, List.not_mem_nil, or_false, laneAddr, wingBase, Fld.at, F.EVC_SRC_STAT_LAST_CODE]
    omega
  case others =>
    rw [laneState_substitute_ne _ w.isLt hl hj hns, laneState_failRaised_ne s w.isLt l.isLt hj hne]

theorem hingeLanesTrainAndFail : HingeLanesTrainAndFail := fun s w l hl =>
  ⟨hingeLaneTrained_row s w l hl, hingeCalVisit_row s w l hl, hingeLaneFail_row s w l hl⟩

end Sys2Proof.Machine
end

section
/-! Reports on their way to the hub (R188 to R190). -/

namespace Sys2Proof.Machine

open Claims

/-! ### The hub's counts (R189) -/

/-- The address of RIM.CODE_CNT(code) of field `f`. -/
def codeAddr (f code : Nat) : Nat := fieldBase f + (0x8100 + 8 * code)

/-- The address of the RIM.SUMMARY that holds a code's bit. -/
def seenAddr (f code : Nat) : Nat := fieldBase f + (0x8040 + 8 * (code / 64))

/-- The hub's registers are none of the sources' and of the mirror's. -/
theorem fieldBase_gt (f : Nat) : 0x14000 + 8 * f < fieldBase f := by unfold fieldBase; omega

theorem onlyRegs_hubCount (s : State) (f code n : Nat) : OnlyRegs s (hubCount s f code n) := by
  unfold hubCount
  exact ((onlyRegs_incF s _ _ _).trans (onlyRegs_putF _ _ _ _)).trans (onlyRegs_condition _ _ _)

theorem regsKept_hubCount (s : State) (f code n : Nat) :
    RegsKept s (hubCount s f code n) [codeAddr f code, seenAddr f code, 0x14000 + 8 * f, 0x4000] := by
  have count : RegsKept s (incF s (fieldBase f) (F.RIM_CODE_CNT_COUNT.at (8 * code)) n) [codeAddr f code] := regsKept_incF s _ _ n
  have seen (s : State) (v : Nat) : RegsKept s (putF s (fieldBase f) (F.RIM_SUMMARY_SEEN.at (8 * (code / 64))) v) [seenAddr f code] :=
    regsKept_putF s _ _ v
  unfold hubCount
  exact (count.append (seen _ _)).append (regsKept_condition _ _ _)

/-- The hub's count of a code rises by the tokens that came, and saturates. -/
theorem count_hubCount (s : State) (f n : Nat) {code : Nat} (h : code < 256) :
    getF (hubCount s f code n) (fieldBase f) (F.RIM_CODE_CNT_COUNT.at (8 * code)) =
      min (2 ^ F.RIM_CODE_CNT_COUNT.w - 1) (getF s (fieldBase f) (F.RIM_CODE_CNT_COUNT.at (8 * code)) + n) := by
  have hb := fieldBase_gt f
  unfold hubCount
  dsimp only
  rw [(regsKept_condition _ _ _).getF, getF_putF_ne, getF_incF_self _ _ _ _ (by simp [Fld.at, F.RIM_CODE_CNT_COUNT])]
  · rfl
  · simp only [Fld.at, F.RIM_CODE_CNT_COUNT, F.RIM_SUMMARY_SEEN]
    omega
  · simp only [List.mem_cons, List.not_mem_nil, or_false, Fld.at, F.RIM_CODE_CNT_COUNT]
    omega

theorem seen_hubCount (s : State) (f n code : Nat) :
    bit (getF (hubCount s f code n) (fieldBase f) (F.RIM_SUMMARY_SEEN.at (8 * (code / 64)))) (code % 64) = true := by
  have hb := fieldBase_gt f
  have hm : code % 64 < 64 := Nat.mod_lt _ (by decide)
  unfold hubCount
  dsimp only
  rw [(regsKept_condition _ _ _).getF, getF_putF_self _ _ _ _ (by simp [Fld.at, F.RIM_SUMMARY_SEEN])]
  · rw [bit_eq_testBit]
    refine (Nat.testBit_mod_two_pow _ 64 _).trans ?_
    rw [Nat.testBit_or, Nat.testBit_two_pow_self, Bool.or_true, decide_eq_true hm, Bool.true_and]
  · simp only [List.mem_cons, List.not_mem_nil, or_false, Fld.at, F.RIM_SUMMARY_SEEN]
    omega

theorem lastCode_hubCount (s : State) (f n : Nat) {code : Nat} (h : code < 256) :
    getF (hubCount s f code n) 0 (F.EVC_SRC_STAT_LAST_CODE.at (8 * f)) = code := lastCode_condition _ h

theorem mirrorCode_hubCount (s : State) (f n : Nat) {code : Nat} (h : code < 256) :
    getF (hubCount s f code n) 0 F.MBX_MIRROR_LAST_CODE = code := mirrorCode_condition _ _ h

/-! ### Tokens (R189) -/

/-- A tile's token of a code reaches the hub with its count (R189). -/
theorem tokenArrival_counted (s : State) (t : TileId) (code : Fin 256) :
    let k := tileNo t
    let f := tileField k
    let n := look 0 (tile s k).tokens code
    n ≠ 0 → ∃ u, exec (.tokenArrival t code) s = .next u ∧ look 0 (tile u k).tokens code = 0 ∧
      getF u (fieldBase f) (F.RIM_CODE_CNT_COUNT.at (8 * code)) = min (2 ^ F.RIM_CODE_CNT_COUNT.w - 1)
        (getF s (fieldBase f) (F.RIM_CODE_CNT_COUNT.at (8 * code)) + n) ∧
      bit (getF u (fieldBase f) (F.RIM_SUMMARY_SEEN.at (8 * (code / 64)))) (code % 64) = true ∧
      getF u 0 (F.EVC_SRC_STAT_LAST_CODE.at (8 * f)) = code ∧ getF u 0 F.MBX_MIRROR_LAST_CODE = code ∧ OnlyTile s u k := by
  intro k f n hn
  have hu := onlyRegs_hubCount (modTile s k fun x => { x with tokens := put 0 x.tokens code.val 0 }) f code n
  have he : exec (.tokenArrival t code) s = .next (hubCount (modTile s k fun x => { x with tokens := put 0 x.tokens code.val 0 }) f code n) :=
    if_neg (by simpa using hn)
  refine ⟨_, he, ?tokens, ?count, seen_hubCount _ f n code, lastCode_hubCount _ f n code.isLt, mirrorCode_hubCount _ f n code.isLt,
    hu.onlyTile⟩
  case tokens =>
    rw [hu.tile, tile_modTile_self]
    exact Sparse.get_set_self (fun _ => 0) (tile s k).tokens code 0
  case count =>
    rw [count_hubCount _ f n code.isLt, getF_modTile]

/-! ### Records (R190) -/

/-- A tile's oldest record goes on to its cluster's node while that holds fewer than four. -/
theorem detailRecordForward_node (s : State) (t : TileId) (r : Rec) (l : List Rec) (hd : (tile s (tileNo t)).details = r :: l)
    (hc : (cluster s (tileCluster (tileNo t))).details.length < 4) :
    ∃ u, exec (.detailRecordForward t false) s = .next u ∧ (tile u (tileNo t)).details = l ∧
      (cluster u (tileCluster (tileNo t))).details = (cluster s (tileCluster (tileNo t))).details ++ [r] ∧
      RegsKept s u [] ∧ MemoryKept s u := by
  have he : exec (.detailRecordForward t false) s =
      .next (modCluster (modTile s (tileNo t) fun v => { v with details := l }) (tileCluster (tileNo t)) fun v =>
        { v with details := v.details ++ [r] }) := by
    show execDetailRecordForward t false s = _
    simp [execDetailRecordForward, hd, hc]
  refine ⟨_, he, ?_, ?_, RegsKept.of_csr ?_ _, ((inside_modTile s _ _).trans (inside_modCluster _ _ _)).memoryKept⟩
  · rw [tile_modCluster, tile_modTile_self]
  · rw [cluster_modCluster_self, cluster_modTile]
  · rw [modCluster_csr, modTile_csr]

/-- A node's oldest record goes on to the hub while that holds fewer than 512. -/
theorem detailRecordForward_hub (s : State) (t : TileId) (r : Rec) (l : List Rec)
    (hd : (cluster s (tileCluster (tileNo t))).details = r :: l) (hf : (field s (tileField (tileNo t))).details.length < 512) :
    ∃ u, exec (.detailRecordForward t true) s = .next u ∧ (cluster u (tileCluster (tileNo t))).details = l ∧
      (field u (tileField (tileNo t))).details = (field s (tileField (tileNo t))).details ++ [r] ∧
      RegsKept s u [] ∧ MemoryKept s u := by
  have he : exec (.detailRecordForward t true) s =
      .next (modField (modCluster s (tileCluster (tileNo t)) fun v => { v with details := l }) (tileField (tileNo t)) fun v =>
        { v with details := v.details ++ [r] }) := by
    show execDetailRecordForward t true s = _
    simp [execDetailRecordForward, hubRecord, hd, hf]
  refine ⟨_, he, ?_, ?_, RegsKept.of_csr ?_ _, ((inside_modCluster s _ _).trans (inside_modField _ _ _)).memoryKept⟩
  · rw [cluster_modField, cluster_modCluster_self]
  · rw [field_modField_self, field_modCluster]
  · rw [modField_csr, modCluster_csr]

/-! ### Commands down the rime network (R188) -/

/-- A command that is the first of its kind, the last repeat longer ago than 2 us, is repeated for the first time. -/
theorem rimeCommandRetry_first (s : State) (f : FieldId) (h : (field s f).repeats = 0 ∨ (field s f).repeatAt + 2500 < s.tc) :
    ∃ u, exec (.rimeCommandRetry f) s = .next u ∧ (field u f).repeats = 1 ∧ (field u f).repeatAt = s.tc ∧
      RegsKept s u [] ∧ OnlyField s u f := by
  have he : exec (.rimeCommandRetry f) s = .next (modField s f fun v => { v with repeats := 1, repeatAt := s.tc }) := by
    show execRimeCommandRetry f s = _
    rcases h with h | h
    · simp [execRimeCommandRetry, h]
    · have hlate : ¬s.tc ≤ (field s f).repeatAt + waferTc 2 := Nat.not_le.2 h
      simp [execRimeCommandRetry, hlate]
  exact ⟨_, he, by rw [field_modField_self], by rw [field_modField_self], RegsKept.of_csr (modField_csr _ _ _) _, onlyField_modField s f _⟩

/-- The second and the third repeat come 2 us after the one before. -/
theorem rimeCommandRetry_again (s : State) (f : FieldId) (h1 : 1 ≤ (field s f).repeats) (h3 : (field s f).repeats < 3)
    (ht : s.tc ≤ (field s f).repeatAt + 2500) :
    ∃ u, exec (.rimeCommandRetry f) s = .next u ∧ u.tc = (field s f).repeatAt + 2500 ∧
      (field u f).repeats = (field s f).repeats + 1 ∧ (field u f).repeatAt = (field s f).repeatAt + 2500 ∧
      RegsKept s u [] ∧ { u with csr := s.csr, fields := s.fields, tc := s.tc } = s ∧ OtherFieldsKept s u f ∧ MemoryKept s u := by
  have he : exec (.rimeCommandRetry f) s = .next (modField (waitTc s ((field s f).repeatAt + 2500)) f fun v =>
      { v with repeats := v.repeats + 1, repeatAt := (field s f).repeatAt + 2500 }) := by
    show execRimeCommandRetry f s = _
    have h0 : (field s f).repeats ≠ 0 := by omega
    simp [execRimeCommandRetry, waferTc, h0, h3, ht, waitTc_tc ht]
  have hw : field (waitTc s ((field s f).repeatAt + 2500)) = field s := rfl
  refine ⟨_, he, ?tc, ?_, ?_, ?regs, ?rest, ?others, ?memory⟩
  case tc => rw [modField_tc, waitTc_tc ht]
  · rw [field_modField_self, hw]
  · rw [field_modField_self]
  case regs => exact (regsKept_waitTc s _).trans (RegsKept.of_csr (modField_csr _ _ _) _)
  case rest => rfl
  case others => exact fun j hj => field_modField_ne _ _ hj
  case memory => exact (memoryKept_waitTc s _).trans (inside_modField _ _ _).memoryKept

/-! ### The condition of a command given up -/

/-- Counting reports of another code leaves a code's count. -/
theorem count_hubCount_ne (s : State) (f n : Nat) {c code : Nat} (h : c ≠ code) (hc : code < 256) :
    getF (hubCount s f code n) (fieldBase f) (F.RIM_CODE_CNT_COUNT.at (8 * c)) =
      getF s (fieldBase f) (F.RIM_CODE_CNT_COUNT.at (8 * c)) := by
  have hb := fieldBase_gt f
  refine (regsKept_hubCount s f code n).getF ?_
  simp only [List.mem_cons, List.not_mem_nil, or_false, codeAddr, seenAddr, Fld.at, F.RIM_CODE_CNT_COUNT]
  omega

/-- The count of records dropped stands beside the count of reports. -/
theorem count_incDropped (s : State) (f code c : Nat) :
    getF (incF s (fieldBase f) (F.RIM_CODE_CNT_DROPPED.at (8 * code)) 1) (fieldBase f) (F.RIM_CODE_CNT_COUNT.at (8 * c)) =
      getF s (fieldBase f) (F.RIM_CODE_CNT_COUNT.at (8 * c)) := by
  by_cases h : c = code
  · subst h
    exact getF_putF_disjoint _ _ _ _ _ rfl (by simp [Fld.at, F.RIM_CODE_CNT_DROPPED])
      (.inl (by simp [Fld.at, F.RIM_CODE_CNT_COUNT, F.RIM_CODE_CNT_DROPPED]))
  · refine getF_putF_ne _ _ _ _ _ _ ?_
    simp only [Fld.at, F.RIM_CODE_CNT_COUNT, F.RIM_CODE_CNT_DROPPED]
    omega

/-- A record dropped leaves the count of every code but 0xE7. -/
theorem count_dropRecord (s : State) (f code : Nat) {c : Nat} (h7 : c ≠ 0xE7) :
    getF (dropRecord s f code) (fieldBase f) (F.RIM_CODE_CNT_COUNT.at (8 * c)) =
      getF s (fieldBase f) (F.RIM_CODE_CNT_COUNT.at (8 * c)) := by
  have hd : getF (incF (incF s (fieldBase f) (F.RIM_CODE_CNT_DROPPED.at (8 * code)) 1) (fieldBase f) F.RIM_REP_STAT_DROPPED 1)
      (fieldBase f) (F.RIM_CODE_CNT_COUNT.at (8 * c)) = getF s (fieldBase f) (F.RIM_CODE_CNT_COUNT.at (8 * c)) := by
    rw [(regsKept_incF _ _ _ _).getF (by simp only [List.mem_singleton, Fld.at, F.RIM_CODE_CNT_COUNT, F.RIM_REP_STAT_DROPPED]; omega)]
    exact count_incDropped s f code c
  unfold dropRecord
  dsimp only
  split
  · exact hd
  · rw [setF, getF_putF_ne, count_hubCount_ne _ _ _ h7 (by decide), getF_modField, hd]
    simp only [Fld.at, F.RIM_CODE_CNT_COUNT, F.RIM_ERR_DROP]
    omega

/-- A record that the hub takes or drops leaves the count of every code but 0xE7. -/
theorem count_hubRecord (s : State) (f : Nat) (r : Rec) {c : Nat} (h7 : c ≠ 0xE7) :
    getF (hubRecord s f r) (fieldBase f) (F.RIM_CODE_CNT_COUNT.at (8 * c)) =
      getF s (fieldBase f) (F.RIM_CODE_CNT_COUNT.at (8 * c)) := by
  unfold hubRecord
  split
  · rw [getF_modField]
  · exact count_dropRecord s f r.code h7

theorem repeats_dropRecord (s : State) (f code : Nat) : (field (dropRecord s f code) f).repeats = (field s f).repeats := by
  unfold dropRecord
  dsimp only
  split
  · rw [field_incF, field_incF]
  · rw [field_setF, (onlyRegs_hubCount _ _ _ _).field, field_modField_self, field_incF, field_incF]

/-- A record that the hub takes or drops leaves what the hub knows of the command under way. -/
theorem repeats_hubRecord (s : State) (f : Nat) (r : Rec) : (field (hubRecord s f r) f).repeats = (field s f).repeats := by
  unfold hubRecord
  split
  · rw [field_modField_self]
  · exact repeats_dropRecord s f r.code

theorem repeats_hubReport (s : State) (f code detail : Nat) : (field (hubReport s f code detail) f).repeats = (field s f).repeats := by
  rw [hubReport, repeats_hubRecord, (onlyRegs_hubCount _ _ _ _).field]

theorem count_hubReport (s : State) (f detail : Nat) {code : Nat} (hc : code < 256) (h7 : code ≠ 0xE7) :
    getF (hubReport s f code detail) (fieldBase f) (F.RIM_CODE_CNT_COUNT.at (8 * code)) =
      min (2 ^ F.RIM_CODE_CNT_COUNT.w - 1) (getF s (fieldBase f) (F.RIM_CODE_CNT_COUNT.at (8 * code)) + 1) := by
  rw [hubReport, count_hubRecord _ _ _ h7, count_hubCount _ _ _ hc]

/-- The command is given up, 2 us after its third repeat. -/
def givenUp (s : State) (f : Nat) : State :=
  modField (waitTc s ((field s f).repeatAt + 2500)) f fun v => { v with repeats := 0 }

theorem exec_rimeCommandRetry_last {s : State} {f : FieldId} (h3 : 3 ≤ (field s f).repeats) (ht : s.tc ≤ (field s f).repeatAt + 2500) :
    ∃ d, exec (.rimeCommandRetry f) s = .next (setF (hubReport (nextFree (givenUp s f)).1 f 0xE5 d) (fieldBase f) F.RIM_ERR_NOACK) := by
  have h0 : (field s f).repeats ≠ 0 := by omega
  have h3' : ¬(field s f).repeats < 3 := by omega
  refine ⟨(Config.freeWord (nextFree (givenUp s f)).2).toNat, ?_⟩
  show execRimeCommandRetry f s = _
  simp [execRimeCommandRetry, givenUp, waferTc, h0, h3', ht]

/-- A command that three repeats do not get acknowledged raises 0xE5. -/
theorem rimeCommandRetry_last (s : State) (f : FieldId) (h3 : 3 ≤ (field s f).repeats) (ht : s.tc ≤ (field s f).repeatAt + 2500) :
    ∃ u, exec (.rimeCommandRetry f) s = .next u ∧ u.tc = (field s f).repeatAt + 2500 ∧ (field u f).repeats = 0 ∧
      getF u (fieldBase f) F.RIM_ERR_NOACK = 1 ∧
      getF u (fieldBase f) (F.RIM_CODE_CNT_COUNT.at (8 * 0xE5)) = min (2 ^ F.RIM_CODE_CNT_COUNT.w - 1)
        (getF s (fieldBase f) (F.RIM_CODE_CNT_COUNT.at (8 * 0xE5)) + 1) ∧ MemoryKept s u := by
  obtain ⟨d, he⟩ := exec_rimeCommandRetry_last h3 ht
  have hi := (inside_hubReport (nextFree (givenUp s f)).1 f 0xE5 d).trans (inside_setF _ (fieldBase f) F.RIM_ERR_NOACK)
  refine ⟨_, he, ?tc, ?repeats, getF_setF_self _ _ _ (by decide) (by decide), ?count, ?memory⟩
  case tc =>
    rw [hi.tc, nextFree_tc, givenUp, modField_tc, waitTc_tc ht]
  case repeats =>
    rw [field_setF, repeats_hubReport, field_nextFree, givenUp, field_modField_self]
  case count =>
    have ha : F.RIM_CODE_CNT_COUNT.off + 8 * 0xE5 ≠ F.RIM_ERR_NOACK.off := by decide
    rw [setF, getF_putF_ne _ _ _ _ _ _ (fun h => ha (Nat.add_left_cancel h)), count_hubReport _ _ _ (by decide) (by decide), getF_nextFree,
      givenUp, getF_modField, (regsKept_waitTc s _).getF List.not_mem_nil]
  case memory =>
    have hn : MemoryKept (givenUp s f) (nextFree (givenUp s f)).1 :=
      ⟨fun a => by rw [nextFree_scratch], fun a => by rw [nextFree_firn]⟩
    exact (((memoryKept_waitTc s _).trans (inside_modField _ _ _).memoryKept).trans hn).trans hi.memoryKept

/-! ### REPORT_RECORD_READ (R14) -/

theorem recLo_lt (r : Rec) : recLo r < 2 ^ 64 := by
  unfold recLo
  omega

/-- The hub's oldest record `r` is off, its high half latched. -/
def latched (s : State) (f : Nat) (r : Rec) (l : List Rec) : State :=
  wr (modField s f fun v => { v with details := l }) (fieldBase f + F.RIM_REP_HI_REC_HI.off) (r.detail % 2 ^ 64)

theorem regsKept_latched (s : State) (f : Nat) (r : Rec) (l : List Rec) :
    RegsKept s (latched s f r l) [fieldBase f + F.RIM_REP_HI_REC_HI.off] :=
  (RegsKept.of_csr (modField_csr s _ _) _).trans (regsKept_wr _ _ _)

theorem memoryKept_latched (s : State) (f : Nat) (r : Rec) (l : List Rec) : MemoryKept s (latched s f r l) :=
  ((inside_modField s f _).trans (inside_wr _ _ _)).memoryKept

/-- A read of RIM.REP_LO takes the hub's oldest record off and latches its high half. -/
theorem reportRecordRead_oldest (s : State) (f : FieldId) (r : Rec) (l : List Rec) (hd : (field s f).details = r :: l) :
    ∃ u, exec (.reportRecordRead f) s = .next u ∧ (field u f).details = l ∧
      u.rdata.toNat = recLo r ∧ rd u (fieldBase f + F.RIM_REP_HI_REC_HI.off) = r.detail % 2 ^ 64 ∧
      RegsKept s u [fieldBase f + F.RIM_REP_HI_REC_HI.off] ∧ MemoryKept s u := by
  have he : exec (.reportRecordRead f) s = .next { latched s f r l with rdata := BitVec.ofNat 64 (recLo r) } := by
    show execReportRecordRead f s = _
    simp [execReportRecordRead, readReport, hd, latched]
  refine ⟨_, he, ?details, ?low, ?high, regsKept_with_rdata (regsKept_latched s f r l) _, memoryKept_with_rdata (memoryKept_latched s f r l) _⟩
  case details =>
    rw [field_with_rdata, latched, field_wr, field_modField_self]
  case low =>
    exact (BitVec.toNat_ofNat (recLo r) 64).trans (Nat.mod_eq_of_lt (recLo_lt r))
  case high =>
    rw [rd_with_rdata, latched, rd_wr_self, Nat.mod_mod]

theorem reportsReachTheirHub : ReportsReachTheirHub := by
  refine ⟨tokenArrival_counted, fun s t r l => ⟨detailRecordForward_node s t r l, detailRecordForward_hub s t r l⟩, fun s f =>
    ⟨rimeCommandRetry_first s f, rimeCommandRetry_again s f, rimeCommandRetry_last s f, reportRecordRead_oldest s f⟩⟩

/-- Settles O29: `hingeLanesTrainAndFail` and `reportsReachTheirHub`. -/
theorem hingeAndReports : Obligations.HingeAndReports := ⟨hingeLanesTrainAndFail, reportsReachTheirHub⟩

end Sys2Proof.Machine
end
